-- ==== Sys2Proof/Word.lean ====
section
/-! DEFINITION. The word types of the part: bytes of messages and frames, 32-bit image words, 16-bit checks. -/

namespace Sys2Proof

/-- One byte of a USB message, a Probe Link frame or a stored flash slot. -/
abbrev Byte := BitVec 8

/-- One 32-bit word of a calibration image (R139), and the 32-bit reference counter (R95). -/
abbrev Word := BitVec 32

/-- A 16-bit check (R146). -/
abbrev Check := BitVec 16

end Sys2Proof
end

