-- ==== Sys2Proof/Syntax.lean ====
section
/-! DEFINITION. The commands of the part: one constructor per row of spec/opcode_table.json. -/

namespace Sys2Proof

/-- A transition of a meter pulse input, and the pulse edge a profile names as active (R102):
RISING is low to high, FALLING is high to low. -/
inductive PulseEdge where
  | rising
  | falling
deriving DecidableEq, Repr

/-- The commands. A position operand is 1..48, a lane operand 1..6; a time is in µs on the part's time base.
A request command is "the Request Port takes the oldest message, which is this request" (R197): its arguments are the
message's bytes. A claim, outcome or report command is "its taker takes it" and names the position that sent it. -/
inductive Instr where
  | powerOn
  | warmRestart
  | profileLoadSlot
  | profileSaveSlot
  | usbBusReset
  | requestMessageAccepted (bytes : List Byte)
  | answerDelivered
  | attentionPoll
  | malformedRequest
  | getStatus
  | setBench
  | getBench
  | restart
  | setAttention
  | ackAttention
  | loadProfile
  | dropProfile
  | getProfile
  | saveProfiles
  | setPoint
  | clearPoint
  | getPlan
  | startPoint
  | endPoint
  | abortPoint
  | find
  | list
  | readRecord
  | amendTrim
  | reject
  | retire
  | clearFlags
  | seal
  | sealAll
  | getPositions
  | retryPosition
  | setSealRange
  | getSealRange
  | presenceChange (position : Nat) (high : Bool)
  | debounceExpiry (position : Nat)
  | laneSendDone (lane : Nat)
  | probeFrameReceived (lane : Nat) (bytes : List Byte)
  | laneReplyTimeout (lane : Nat)
  | creationClaim (position : Nat)
  | rebindClaim (position : Nat)
  | orphanClaim (position : Nat)
  | resultClaim (position : Nat)
  | flagClaim (position : Nat)
  | writeStartClaim (position : Nat)
  | sealStartClaim (position : Nat)
  | commitMatchOutcome (position : Nat)
  | stageFailedOutcome (position : Nat)
  | commitFailOutcome (position : Nat)
  | lockedOutcome (position : Nat)
  | refusedOutcome (position : Nat)
  | noReplyOutcome (position : Nat)
  | refEdge
  | refWatchdogTimeout
  | refLossReport
  | pointTimerExpiry
  | finishingReport (position : Nat)
  | meterActiveEdge (position : Nat) (transition : PulseEdge) (time : Nat)
  | meterOppositeEdge (position : Nat) (transition : PulseEdge) (time : Nat)
  | glitchTestEnd (position : Nat)
deriving DecidableEq, Repr

end Sys2Proof
end

