-- ==== Sys2Proof/Machine/State.lean ====
section
/-! DEFINITION. The state of the part as plain data, and the state right after power is applied (R210).
Every piece of state is listed with its rule and its power-on value in INVENTORY.md. -/

namespace Sys2Proof.Machine

/-- Why a step stops with a fault. Raised by `onPosition` and `onLane`. Both are safe: the part has no such input. -/
inductive Fault where
  /-- The command names a position outside 1..48 (R52). Safe. -/
  | noSuchPosition
  /-- The command names a lane outside 1..6 (R151). Safe. -/
  | noSuchLane
deriving DecidableEq, Repr

/-- Why a step is refused. -/
inductive Refusal where
  /-- The command has no meaning yet. Raised by exec's arm alone. Safe. -/
  | notModelled (mnemonic : String)
deriving DecidableEq, Repr

/-! ### Profiles (02) -/

/-- R35: the load bands. -/
inductive Band where
  | low | nominal | high
deriving DecidableEq, Repr

/-- The phases of a meter (R36). -/
inductive Phase where
  | a | b | c
deriving DecidableEq, Repr

/-- R32, field 6: what a glitch does (R104, R105). -/
inductive GlitchPolicy where
  | stall | ignore
deriving DecidableEq, Repr

/-- R37: one field of an image layout. -/
inductive LayoutField where
  | trim (band : Band) (phase : Phase) (width : Nat)
  | fixed (width : Nat) (value : Nat)
deriving DecidableEq, Repr

/-- [PROF:CONTENT]: the contents of a loaded profile. -/
structure Profile where
  typeCode : Nat
  elementCount : Nat
  kmeter : Nat
  pulseEdge : PulseEdge
  minWidth : Nat
  glitchPolicy : GlitchPolicy
  bandCount : Nat
  t1 : Nat
  t2 : Nat
  accuracyClass : Nat
  trimUnit : Nat
  adjustLimit : Nat
  maxRounds : Nat
  layout : List LayoutField
  imageLength : Nat
deriving DecidableEq, Repr

/-- An occupied code of the Profile Table with its pin count (R32, R41). -/
structure ProfileSlot where
  profile : Profile
  pins : Nat
deriving DecidableEq, Repr

/-- R32: the activity state of the Profile Table. -/
inductive Activity where
  | loading | idle | saving
deriving DecidableEq, Repr

/-- R32: activity, the stored slot the load or save has reached, and the load fault count. -/
structure ProfileStore where
  activity : Activity
  slot : Nat
  faults : Nat
deriving DecidableEq, Repr

/-- One stored slot of the profile flash (R48). An interrupted slot is one a restart or a loss of power cut short
(R51): all that is known of it is that it reads as a load fault. -/
inductive FlashSlot where
  | stored (bytes : List Byte)
  | interrupted
deriving DecidableEq, Repr

/-! ### Records (01) -/

/-- R1: the name of a record. -/
structure Handle where
  slot : Nat
  tag : Byte
deriving DecidableEq, Repr

/-- R17. -/
inductive RecordState where
  | measuring | writePending | writing | passed | sealing | sealed | rejected
deriving DecidableEq, Repr

/-- [REC:ENTRY]. -/
inductive EntryStatus where
  | none | pass | fail | adjusted | stale | noPulse | incomplete | glitch | refLost
deriving DecidableEq, Repr

/-- [REC:STATE:REJECT]; BY_REQUEST carries the cause byte of R26. -/
inductive RejectCause where
  | outOfRange | adjustLimit | writeFailed | commitUnknown | commitMismatch | sealMismatch | sealRefused
  | sealFailed | byRequest (cause : Byte)
deriving DecidableEq, Repr

/-- R15: one result entry. -/
structure Entry where
  status : EntryStatus
  error : Option Int
  windows : Nat
  saturated : Bool
  generation : Nat
deriving DecidableEq, Repr

/-- R15: the entry with status NONE. -/
def Entry.empty : Entry := ⟨.none, none, 0, false, 0⟩

/-- R12: one trim entry of a record. -/
structure Trim where
  band : Band
  phase : Phase
  meter : Int
  target : Int
deriving DecidableEq, Repr

/-- R14: the sticky flags. -/
structure Flags where
  saturated : Bool
  glitch : Bool
  trimLimit : Bool
  imageOdd : Bool
deriving DecidableEq, Repr

/-- [REC:FIELDS]: a meter record. Its tag is the tag of its slot (R2). -/
structure Record where
  slot : Nat
  admission : Nat
  serial : List Byte
  profile : Nat
  state : RecordState
  position : Option Nat
  trims : List Trim
  results : List Entry
  rounds : Nat
  generation : Nat
  writeFailures : Nat
  sealAttempts : Nat
  flags : Flags
  spoiled : List Nat
  sealNumber : Option Nat
  recordCheck : Option Check
  cause : Option RejectCause
deriving DecidableEq, Repr

/-! ### Plan and sequencer (04) -/

/-- R75: the elements of a point. -/
inductive Elements where
  | a | b | c | abc
deriving DecidableEq, Repr

/-- R75: the role of a point. -/
inductive Role where
  | adjust | check
deriving DecidableEq, Repr

/-- R75: a defined plan point. Bit c − 1 of the mask stands for profile code c. -/
structure Point where
  elements : Elements
  current : Nat
  role : Role
  pulses : Nat
  windows : Nat
  tolerances : List Nat
  timeout : Nat
  mask : BitVec 16
deriving DecidableEq, Repr

/-- R83: the end causes. -/
inductive EndCause where
  | complete | ended | timedOut | refLost | aborted | restart
deriving DecidableEq, Repr

/-- R83: the sequencer. `running` is none in IDLE. The timer holds ms. -/
structure Sequencer where
  running : Option Nat
  timer : Option Nat
  armedRemaining : Nat
  armedAtStart : Nat
  lastClose : Option (Nat × EndCause)
deriving DecidableEq, Repr

/-! ### Reference Unit and comparators (05) -/

/-- R95, R96, R97. -/
structure RefUnit where
  counter : Word
  kref : Nat
  watchdog : Nat
  lossReported : Bool
deriving DecidableEq, Repr

/-- R100. -/
inductive ComparatorState where
  | idle | armed | counting | stalled | done
deriving DecidableEq, Repr

/-- R99, R101: what a comparator takes at arming. -/
structure PointParams where
  pulses : Nat
  windows : Nat
  edge : PulseEdge
  minWidth : Nat
  policy : GlitchPolicy
  kmeter : Nat
  kref : Nat
deriving DecidableEq, Repr

/-- R99: the edge under test; its arrival is in µs. -/
structure EdgeUnderTest where
  capture : Word
  arrival : Nat
deriving DecidableEq, Repr

/-- R99. -/
structure Comparator where
  state : ComparatorState
  handle : Option Handle
  index : Option Nat
  params : Option PointParams
  edge : Option EdgeUnderTest
  start : Option Word
  count : Nat
  windows : Nat
  acc : Int
deriving DecidableEq, Repr

/-- R99: the IDLE column. -/
def Comparator.idle : Comparator := ⟨.idle, none, none, none, none, none, 0, 0, 0⟩

/-- A result claim's kind (R118). -/
inductive ResultKind where
  | done | noPulse | incomplete | glitch | refLost
deriving DecidableEq, Repr

/-- What a result claim carries beside its handle and index (R16). -/
structure Result where
  kind : ResultKind
  error : Option Int
  windows : Nat
  saturated : Bool
deriving DecidableEq, Repr

/-- The flags a comparator's flag claim may name (R16). -/
inductive ClaimFlag where
  | saturated | glitch
deriving DecidableEq, Repr

/-! ### Lanes (08) -/

/-- R163. -/
inductive WritePhase where
  | stage | commit
deriving DecidableEq, Repr

/-- R163: a write transfer; its attempt count is the item's. -/
structure Transfer where
  snapshot : List Word
  imageCheck : Check
  length : Nat
  sendOffset : Nat
  confirmed : Nat
  phase : WritePhase
  commitSent : Bool
deriving DecidableEq, Repr

/-- R173: the number and check of a lock. -/
structure Lock where
  number : Nat
  recordCheck : Check
deriving DecidableEq, Repr

/-- R151: an item context's contents by kind. -/
inductive Work where
  | ident
  | readImage (offset : Nat) (words : List Word)
  | write (transfer : Option Transfer)
  | sealLock (lock : Option Lock)
deriving DecidableEq, Repr

/-- R151, R153: a work item with its item context. `granted` is set at the item's first grant. -/
structure Item where
  work : Work
  requesting : Bool
  granted : Bool
  attempts : Nat
deriving DecidableEq, Repr

/-- R152. AWAIT_REPLY keeps the granted position. -/
inductive LaneState where
  | idle
  | granted (position : Nat)
  | awaitReply (position : Nat)
deriving DecidableEq, Repr

/-- R151, with the burst cap of the present grant (R164) and the frames of the present turn (R156). -/
structure Lane where
  state : LaneState
  pointer : Nat
  budget : Nat
  timer : Option Nat
  mark : Byte
  cap : Nat
  frames : List (List Byte)
deriving DecidableEq, Repr

/-! ### Positions (03) -/

/-- R53. -/
inductive PositionState where
  | empty | settling | identifying | waitingSlot | bound | conflict | unknownType | fault | spent
deriving DecidableEq, Repr

/-- R52: the exchange an IDENTIFYING position awaits. -/
inductive IdPhase where
  | ident | image
deriving DecidableEq, Repr

/-- One unpacked trim value (R141). -/
structure TrimValue where
  band : Band
  phase : Phase
  value : Int
deriving DecidableEq, Repr

/-- The Codec's result of UNPACK (R138). -/
structure Unpacked where
  trims : List TrimValue
  mismatch : Bool
deriving DecidableEq, Repr

/-- R52: the identity in progress. -/
structure Identity where
  serial : List Byte
  typeCode : Nat
  wordCount : Nat
  image : Option Unpacked
deriving DecidableEq, Repr

/-- R52: a position unit with its input and its comparator. `given` is the Record Table's side of R130: a WRITE item
given for a record whose orphan claim is on its way, which the position does not hold (R53) and the claim withdraws. -/
structure Position where
  pin : Bool
  raw : Bool
  taken : Bool
  debounce : Option Nat
  state : PositionState
  phase : Option IdPhase
  identity : Option Identity
  bound : Option Handle
  held : Bool
  item : Option Item
  given : Bool
  cmp : Comparator
deriving DecidableEq, Repr

/-! ### Seals (09) -/

/-- R177. -/
structure SealAllocator where
  first : Nat
  last : Nat
  next : Nat
  lastIssued : Nat
deriving DecidableEq, Repr

/-! ### Codec (07) -/

/-- R138: the Codec's operations. -/
inductive CodecOperation where
  | pack | unpack | imageCheck | recordCheck
deriving DecidableEq, Repr

/-! ### Claims between the blocks -/

/-- R174: the phase the lane reports for an abandoned write. -/
inductive AbandonPhase where
  | noCommitSent | commitSent
deriving DecidableEq, Repr

/-- What one block has sent another and the other has not yet taken. `position` is the sender's. -/
inductive Claim where
  | creation (position : Nat) (identity : Identity) (image : Unpacked)
  | rebind (position : Nat) (handle : Handle)
  | orphan (position : Nat) (handle : Handle) (phase : Option AbandonPhase)
  | flag (position : Nat) (handle : Handle) (flag : ClaimFlag)
  | result (position : Nat) (handle : Handle) (index : Nat) (result : Result)
  | finishing (position : Nat)
  | writeStart (position : Nat) (handle : Handle)
  | sealStart (position : Nat) (handle : Handle)
  | commitMatch (position : Nat) (handle : Handle)
  | stageFailed (position : Nat) (handle : Handle)
  | commitMismatch (position : Nat) (handle : Handle)
  | commitUnknown (position : Nat) (handle : Handle)
  | locked (position : Nat) (handle : Handle) (reply : Check) (sent : Check)
  | refused (position : Nat) (handle : Handle)
  | noReply (position : Nat) (handle : Handle)
  | refLoss
deriving DecidableEq, Repr

/-! ### Request Port (10) -/

/-- R196: a request message of the queue. -/
structure Message where
  bytes : List Byte
  overlong : Bool
deriving DecidableEq, Repr

/-- [PORT:CODES]. -/
inductive AnswerCode where
  | ok | accepted | busy | badState | badArgument | badProfile | noSuch | staleHandle | full | duplicate
  | pinned | notReady | sealsExhausted | flagsSet | imageOdd | malformed
deriving DecidableEq, Repr

/-- R201: an answer of the queue. -/
structure Answer where
  tag : BitVec 16
  kind : Byte
  code : AnswerCode
  body : List Byte
deriving DecidableEq, Repr

/-- R206, parameter 7. -/
inductive Polarity where
  | activeLow | activeHigh
deriving DecidableEq, Repr

/-- R206: the eight bench parameters the Request Port keeps. -/
structure Bench where
  refTimeout : Nat
  replyTimeout : Nat
  retryLimit : Nat
  burstCap : Nat
  debounce : Nat
  polarity : Polarity
  autoSeal : Bool
  sealLow : Nat
deriving DecidableEq, Repr

/-- R195. -/
inductive StartKind where
  | powerOn | warm
deriving DecidableEq, Repr

/-- R195. -/
inductive WarmCause where
  | none | resetLine | restartRequest
deriving DecidableEq, Repr

/-- What a pipe last gave the bench computer (log entry 20). -/
inductive PipeResponse where
  | quiet
  | nak
  | accepted
  | data (bytes : List Byte)
deriving DecidableEq, Repr

/-- R195. -/
structure Port where
  requests : List Message
  answers : List Answer
  requestTransfer : Option (List Byte)
  answerTransfer : Option (List Byte)
  restartPending : Bool
  pendingSet : Byte
  enableSet : Byte
  alwaysReport : Bool
  startKind : StartKind
  warmCause : WarmCause
  bench : Bench
  requestWire : PipeResponse
  answerWire : PipeResponse
  attentionWire : PipeResponse
deriving DecidableEq, Repr

/-- The whole part. -/
structure State where
  port : Port
  ref : RefUnit
  plan : List (Option Point)
  seq : Sequencer
  tags : List Byte
  admissions : Nat
  records : List Record
  profiles : List (Option ProfileSlot)
  store : ProfileStore
  flash : List FlashSlot
  positions : List Position
  lanes : List Lane
  seals : SealAllocator
  codec : Option CodecOperation
  inFlight : List Claim
  fresh : Nat
  pending : List Instr
deriving DecidableEq, Repr

/-! ### Power-on values -/

/-- R206: the power-on column. -/
def Bench.powerOn : Bench :=
  { refTimeout := 1000, replyTimeout := 50, retryLimit := 3, burstCap := 32, debounce := 200,
    polarity := .activeLow, autoSeal := false, sealLow := 20 }

/-- R195, R210: RESTARTED (bit 7) alone is pending. -/
def Port.powerOn : Port :=
  { requests := [], answers := [], requestTransfer := none, answerTransfer := none, restartPending := false,
    pendingSet := 0x80#8, enableSet := 0#8, alwaysReport := false, startKind := .powerOn, warmCause := .none,
    bench := Bench.powerOn, requestWire := .quiet, answerWire := .quiet, attentionWire := .quiet }

/-- R52, R71. The input level `pin` is the world's (log entry 6). -/
def Position.powerOn (pin : Bool) : Position :=
  { pin := pin, raw := false, taken := false, debounce := none, state := .empty, phase := none,
    identity := none, bound := none, held := false, item := none, given := false, cmp := Comparator.idle }

/-- R151: lane `l` after power-on. -/
def Lane.powerOn (l : Nat) : Lane :=
  { state := .idle, pointer := 8 * (l - 1) + 1, budget := 0, timer := none, mark := 0#8,
    cap := Bench.powerOn.burstCap, frames := [] }

/-- R48: an erased stored slot: 224 bytes of FFh (log entry 8). -/
def FlashSlot.erased : FlashSlot := .stored (List.replicate 224 0xFF#8)

/-- R210 and the power-on values of every block: the part right after power is applied, the profile load about to read
stored slot 1. -/
def State.reset : State :=
  { port := Port.powerOn
    ref := { counter := 0#32, kref := 0, watchdog := 0, lossReported := false }
    plan := List.replicate 24 none
    seq := { running := none, timer := none, armedRemaining := 0, armedAtStart := 0, lastClose := none }
    tags := List.replicate 64 0#8
    admissions := 0
    records := []
    profiles := List.replicate 16 none
    store := { activity := .loading, slot := 1, faults := 0 }
    flash := List.replicate 16 FlashSlot.erased
    positions := List.replicate 48 (Position.powerOn true)
    lanes := [1, 2, 3, 4, 5, 6].map Lane.powerOn
    seals := { first := 0, last := 0, next := 0, lastIssued := 0 }
    codec := none
    inFlight := []
    fresh := 0
    pending := [] }

end Sys2Proof.Machine
end

