-- ==== Sys2Proof/Machine/Flags.lean ====
section
/-! DEFINITION. The attention conditions (R202..R205) and the sticky flags (R14). -/

namespace Sys2Proof.Machine

/-! ### Attention -/

/-- [PORT:ATTN]: the eight conditions. -/
inductive Condition where
  | pointClosed | recordsChanged | positionsChanged | refLost | sealLow | sealsExhausted | profileStoreDone
  | restarted
deriving DecidableEq, Repr

/-- [PORT:ATTN]: the condition as a set of one member. -/
def Condition.bit : Condition → Byte
  | .pointClosed => 0x01#8
  | .recordsChanged => 0x02#8
  | .positionsChanged => 0x04#8
  | .refLost => 0x08#8
  | .sealLow => 0x10#8
  | .sealsExhausted => 0x20#8
  | .profileStoreDone => 0x40#8
  | .restarted => 0x80#8

/-- R202: a raised condition joins the pending set. -/
def State.raise (c : Condition) (s : State) : State :=
  { s with port := { s.port with pendingSet := s.port.pendingSet ||| c.bit } }

/-- R202: a condition raised where `when` holds. -/
def State.raiseIf (when : Bool) (c : Condition) (s : State) : State := if when then s.raise c else s

/-- R204: the pending set without the conditions of a set. -/
def acknowledged (pending named : Byte) : Byte := pending &&& ~~~named

/-- R205: what a poll of the attention pipe returns. -/
def attentionReport (pending enabled : Byte) (always : Bool) : PipeResponse :=
  if pending &&& enabled ≠ 0#8 then .data [pending &&& enabled]
  else if always then .data [0#8]
  else .nak

/-! ### Sticky flags -/

/-- R14: no flag set. -/
def Flags.none : Flags := ⟨false, false, false, false⟩

/-- R183 check 5: a sticky flag other than IMAGE_ODD is set. -/
def Flags.otherThanImageOdd (f : Flags) : Bool := f.saturated || f.glitch || f.trimLimit

/-- R14: at least one flag is set. -/
def Flags.any (f : Flags) : Bool := f.saturated || f.glitch || f.trimLimit || f.imageOdd

/-- R14, R16: the flags after a taken flag claim; a set flag stays set. -/
def Flags.withClaimed (c : ClaimFlag) (f : Flags) : Flags :=
  match c with
  | .saturated => { f with saturated := true }
  | .glitch => { f with glitch := true }

/-- R28: the flags after CLEAR_FLAGS. -/
def Flags.cleared (f : Flags) : Flags := { f with saturated := false, glitch := false, trimLimit := false }

end Sys2Proof.Machine
end

