-- ==== Sys2Proof/Config.lean ====
section
/-! DEFINITION. What the part fixes, and its one free value. -/

namespace Sys2Proof.Config

/-- Vendor code of the status report (R209, [PORT:FMT:STAT]). -/
def vendorCode : Nat := 0x5348

/-- Part number of the status report. -/
def partNumber : Nat := 4860

/-- Firmware level, 1 for the behaviour the manual gives. -/
def firmwareLevel : Nat := 1

/-- R195: the request queue and the answer queue each hold at most 4. -/
def queueDepth : Nat := 4

/-- R196: a longer transfer is cut to its first 256 bytes and marked overlong. -/
def maxRequestBytes : Nat := 256

/-- R4: a creation claim taken with the admission counter here finds no slot. -/
def lastAdmission : Nat := 4294967295

/-- R113, R114: the stored range of an error, in ppm. -/
def storedLimit : Int := 500000

/-- R111: the guard range of a window error, in ppm. -/
def guardLimit : Int := 9999999

/-- R97: the watchdog time holds here, in ms. -/
def watchdogLimit : Nat := 10000

/-- R180: the highest seal number. -/
def lastSeal : Nat := 99999999

/-- R161, R164: a READ or STAGE frame carries at most 8 words. -/
def wordsPerFrame : Nat := 8

/-- FREE VALUE (log entry 8). Whether the loss of power or the warm restart that abandons a save falls inside the
erasing or writing of the stored slot in hand; the manual (R51) allows both. Applied to `State.fresh`. -/
opaque slotCut : Nat → Bool

end Sys2Proof.Config
end

