-- ==== Sys2Proof/Machine/Bytes.lean ====
section
/-! DEFINITION. Byte order, field extraction, numbered places of a list, and the arithmetic conventions of
[INTRO:CONV]. -/

namespace Sys2Proof.Machine

/-! ### Numbered places: the manual numbers slots, codes, indices, positions and lanes from 1 -/

/-- The thing at place n of a list, counting from 1. -/
def place {α : Type} (l : List α) : Nat → Option α
  | 0 => none
  | n + 1 => l[n]?

/-- The list with place n replaced; a place outside the list changes nothing. -/
def setPlace {α : Type} (l : List α) (n : Nat) (a : α) : List α :=
  match n with
  | 0 => l
  | n + 1 => l.set n a

/-- Is n one of 1..k? -/
def within (k n : Nat) : Bool := 1 ≤ n && n ≤ k

/-- The places 1..k in rising order. -/
def places (k : Nat) : List Nat := (List.range k).map (· + 1)

/-! ### Bytes: R214, least significant byte first -/

/-- A natural number as `n` bytes, least significant first. -/
def leBytes : Nat → Nat → List Byte
  | 0, _ => []
  | n + 1, v => BitVec.ofNat 8 v :: leBytes n (v / 256)

/-- The natural number whose bytes these are, least significant first. -/
def leNat : List Byte → Nat
  | [] => 0
  | b :: bs => b.toNat + 256 * leNat bs

/-- The unsigned field of `size` bytes at offset `off`. -/
def uField (bs : List Byte) (off size : Nat) : Nat := leNat ((bs.drop off).take size)

/-- R214, S32: two's complement on 32 bits. -/
def signed32 (n : Nat) : Int := if n < 2 ^ 31 then (n : Int) else (n : Int) - 2 ^ 32

/-- R214, S32. -/
def s32Bytes (v : Int) : List Byte := leBytes 4 (v % 2 ^ 32).toNat

/-- R214: U8. -/
def u8 (n : Nat) : List Byte := leBytes 1 n

/-- R214: U16. -/
def u16 (n : Nat) : List Byte := leBytes 2 n

/-- R214: U32. -/
def u32 (n : Nat) : List Byte := leBytes 4 n

/-- A mark sent as one byte, 1 when set. -/
def boolByte (b : Bool) : List Byte := [if b then 1#8 else 0#8]

/-- R214: OPT; an absent field sends its presence byte and its value bytes as 00h. -/
def optBytes {α : Type} (size : Nat) (enc : α → List Byte) : Option α → List Byte
  | none => List.replicate (size + 1) 0#8
  | some a => 1#8 :: enc a

/-- R214: bytes no field uses are 00h. -/
def padTo (n : Nat) (bs : List Byte) : List Byte := bs ++ List.replicate (n - bs.length) 0#8

/-- R147: the bytes of a 32-bit word, least significant first. -/
def wordBytes (w : Word) : List Byte := leBytes 4 w.toNat

/-- The 32-bit words whose bytes these are. -/
def wordsOfBytes : Nat → List Byte → List Word
  | 0, _ => []
  | n + 1, bs => BitVec.ofNat 32 (uField bs 0 4) :: wordsOfBytes n (bs.drop 4)

/-! ### Arithmetic: [INTRO:CONV] -/

/-- The integer nearest to n / d, exact halves away from zero. -/
def roundDiv (n : Int) (d : Nat) : Int :=
  if 0 ≤ n then (((2 * n.natAbs + d) / (2 * d) : Nat) : Int)
  else -(((2 * n.natAbs + d) / (2 * d) : Nat) : Int)

/-- n / d with the fractional part discarded. -/
def truncDiv (n : Int) (d : Nat) : Int := Int.tdiv n d

/-- Clamped to lo..hi. -/
def clamp (lo hi v : Int) : Int := if v < lo then lo else if hi < v then hi else v

/-- ceil(n / d). -/
def ceilDiv (n d : Nat) : Nat := (n + (d - 1)) / d

end Sys2Proof.Machine
end

