-- ==== Sys2Proof/Machine/Codec.lean ====
section
/-! DEFINITION. The Image Codec (07): the check algorithm, packing and unpacking. -/

namespace Sys2Proof.Machine

/-! ### The check algorithm (R146) -/

/-- One left shift, with 1021h when the bit shifted out was 1. -/
def checkShift (c : Check) : Check :=
  if c.msb then (c <<< 1) ^^^ 0x1021#16 else c <<< 1

/-- R146: one byte. -/
def checkByte (c : Check) (b : Byte) : Check :=
  let c0 := c ^^^ (BitVec.ofNat 16 (256 * b.toNat))
  checkShift (checkShift (checkShift (checkShift (checkShift (checkShift (checkShift (checkShift c0)))))))

/-- R146: the check of a sequence of bytes. -/
def check (bs : List Byte) : Check := bs.foldl checkByte 0xFFFF#16

/-! ### The image as a bit stream (R139) -/

/-- R37: the width of a field. -/
def LayoutField.width : LayoutField → Nat
  | .trim _ _ w => w
  | .fixed w _ => w

/-- R37: the total layout width. -/
def layoutWidth : List LayoutField → Nat
  | [] => 0
  | f :: fs => f.width + layoutWidth fs

/-- R140: a signed value as a w-bit number in two's complement. -/
def twosBits (w : Nat) (v : Int) : Nat := (v % (2 ^ w : Nat)).toNat

/-- R141: a w-bit number read in two's complement. -/
def signedBits (w n : Nat) : Int := if 2 * n < 2 ^ w then (n : Int) else (n : Int) - (2 ^ w : Nat)

/-- R140: the w-bit form of a field. -/
def LayoutField.bits (trimOf : Band → Phase → Int) : LayoutField → Nat
  | .trim b p w => twosBits w (trimOf b p)
  | .fixed w v => v % 2 ^ w

/-- R139, R140: the stream of a layout as one number, stream bit 0 least significant. -/
def packStream (trimOf : Band → Phase → Int) : List LayoutField → Nat
  | [] => 0
  | f :: fs => f.bits trimOf + 2 ^ f.width * packStream trimOf fs

/-- R139: a stream divided into words, word 0 first. -/
def streamWords : Nat → Nat → List Word
  | 0, _ => []
  | n + 1, x => BitVec.ofNat 32 x :: streamWords n (x / 2 ^ 32)

/-- R139: the stream that words hold. -/
def wordsStream : List Word → Nat
  | [] => 0
  | w :: ws => w.toNat + 2 ^ 32 * wordsStream ws

/-- R138, R140: PACK. -/
def pack (p : Profile) (trimOf : Band → Phase → Int) : List Word :=
  streamWords p.imageLength (packStream trimOf p.layout)

/-- R141: the raw bits of each field of a layout. -/
def readFields : List LayoutField → Nat → List (LayoutField × Nat)
  | [], _ => []
  | f :: fs, x => (f, x % 2 ^ f.width) :: readFields fs (x / 2 ^ f.width)

/-- R142: does a FIXED field differ from the profile's value? -/
def fieldMismatch : LayoutField × Nat → Bool
  | (.fixed _ v, n) => n != v
  | (.trim _ _ _, _) => false

/-- R141: the value of a trim among the fields read; validation (R38) names each trim once. -/
def trimRead (fields : List (LayoutField × Nat)) (b : Band) (p : Phase) : Int :=
  match fields with
  | [] => 0
  | (.trim b' p' w, n) :: rest => if b' = b ∧ p' = p then signedBits w n else trimRead rest b p
  | (.fixed _ _, _) :: rest => trimRead rest b p

/-- R141, R142: UNPACK under a profile with the given trim set. -/
def unpack (layout : List LayoutField) (trimSet : List (Band × Phase)) (words : List Word) : Unpacked :=
  let fields := readFields layout (wordsStream words)
  { trims := trimSet.map (fun bp => ⟨bp.1, bp.2, trimRead fields bp.1 bp.2⟩)
    mismatch := fields.any fieldMismatch }

/-- R147: the bytes of image words. -/
def imageBytes (words : List Word) : List Byte := words.flatMap wordBytes

/-- R148: the image check. -/
def imageCheckOf (words : List Word) : Check := check (imageBytes words)

/-- R149: the record check over serial, image and seal number. -/
def recordCheckOf (serial : List Byte) (words : List Word) (number : Nat) : Check :=
  check (serial ++ imageBytes words ++ leBytes 4 number)

end Sys2Proof.Machine
end

