-- ==== Sys2Proof/Machine/Figures.lean ====
section
/-! DEFINITION. The figures a profile and a point fix (R35, R36, R77, R78) and the validation of a profile
(R38..R40). -/

namespace Sys2Proof.Machine

/-! ### Bands, phases and the trim set -/

/-- R35: the bands present, in the order LOW, NOMINAL, HIGH. -/
def bandsOf (bandCount : Nat) : List Band :=
  if bandCount = 1 then [.nominal] else if bandCount = 2 then [.low, .nominal] else [.low, .nominal, .high]

/-- R36: the phases present. -/
def phasesOf (elementCount : Nat) : List Phase := if elementCount = 3 then [.a, .b, .c] else [.a]

/-- R36, R12: the trim set in trim order. -/
def trimSetOf (bandCount elementCount : Nat) : List (Band × Phase) :=
  (bandsOf bandCount).flatMap (fun b => (phasesOf elementCount).map (fun p => (b, p)))

/-- R36: the trim set of a profile. -/
def Profile.trimSet (p : Profile) : List (Band × Phase) := trimSetOf p.bandCount p.elementCount

/-- R35: the band of a current. -/
def Profile.bandOf (p : Profile) (current : Nat) : Band :=
  if p.bandCount = 1 then .nominal
  else if current < p.t1 then .low
  else if p.bandCount = 2 then .nominal
  else if current < p.t2 then .nominal
  else .high

/-- R37: the width of the TRIM field of a trim. -/
def trimWidth (b : Band) (ph : Phase) : List LayoutField → Option Nat
  | [] => none
  | .trim b' ph' w :: rest => if b' = b ∧ ph' = ph then some w else trimWidth b ph rest
  | .fixed _ _ :: rest => trimWidth b ph rest

/-- R12: the lowest value of a TRIM field of width w. -/
def trimMin (w : Nat) : Int := -(2 ^ (w - 1) : Nat)

/-- R12: the highest value of a TRIM field of width w. -/
def trimMax (w : Nat) : Int := (2 ^ (w - 1) : Nat) - 1

/-! ### Points -/

/-- R75: does the mask hold a profile code? -/
def Point.names (pt : Point) (code : Nat) : Bool := within 16 code && pt.mask.getLsbD (code - 1)

/-- R77: may a profile of this element count take part at these elements? -/
def Elements.suits (e : Elements) (elementCount : Nat) : Bool :=
  match e with
  | .a | .abc => true
  | .b | .c => elementCount == 3

/-- R78, R135: do the elements load a phase? -/
def Elements.loads (e : Elements) (ph : Phase) : Bool :=
  match e, ph with
  | .abc, _ => true
  | .a, .a => true
  | .b, .b => true
  | .c, .c => true
  | _, _ => false

/-- R78: the tolerance of an accuracy class. -/
def Point.toleranceOf (pt : Point) (cls : Nat) : Nat := (pt.tolerances[cls]?).getD 0

/-! ### Validation (R38, R39) -/

/-- A layout place as carried, before validation. -/
structure RawField where
  kind : Nat
  band : Nat
  phase : Nat
  width : Nat
  value : Nat
deriving DecidableEq, Repr

/-- A profile block's contents as carried, before validation; forced fields are carried and not read. -/
structure RawProfile where
  typeCode : Nat
  elementCount : Nat
  kmeter : Nat
  pulseEdge : Nat
  minWidth : Nat
  glitchPolicy : Nat
  bandCount : Nat
  t1 : Nat
  t2 : Nat
  accuracyClass : Nat
  trimUnit : Nat
  adjustLimit : Nat
  maxRounds : Nat
  fieldCount : Nat
  places : List RawField
deriving DecidableEq, Repr

/-- R214: band codes. -/
def bandOfCode (n : Nat) : Option Band :=
  match n with
  | 0 => some .low
  | 1 => some .nominal
  | 2 => some .high
  | _ => none

/-- R214: phase codes. -/
def phaseOfCode (n : Nat) : Option Phase :=
  match n with
  | 0 => some .a
  | 1 => some .b
  | 2 => some .c
  | _ => none

/-- R38, the row 14 + j, without the running total: one layout field, or none where a check fails. `seen` are the trims
named by earlier TRIM fields. -/
def checkField (bands : List Band) (phases : List Phase) (seen : List (Band × Phase)) (f : RawField) :
    Option LayoutField :=
  if f.kind = 1 then
    match bandOfCode f.band, phaseOfCode f.phase with
    | some b, some p =>
      if 4 ≤ f.width ∧ f.width ≤ 24 ∧ b ∈ bands ∧ p ∈ phases ∧ (b, p) ∉ seen then some (.trim b p f.width) else none
    | _, _ => none
  else if f.kind = 2 then
    if 1 ≤ f.width ∧ f.width ≤ 24 ∧ f.value < 2 ^ f.width then some (.fixed f.width f.value) else none
  else none

/-- The trim a field names, put before the trims already seen. -/
def seenWith (f : LayoutField) (seen : List (Band × Phase)) : List (Band × Phase) :=
  match f with
  | .trim b p _ => (b, p) :: seen
  | .fixed _ _ => seen

/-- R38: the used layout fields in layout order, or the index of the first that fails. -/
def checkLayout (bands : List Band) (phases : List Phase) :
    List (Band × Phase) → Nat → Nat → List RawField → Except Nat (List LayoutField)
  | _, _, _, [] => .ok []
  | seen, total, idx, f :: fs =>
    match checkField bands phases seen f with
    | none => .error idx
    | some g =>
      if 512 < total + g.width then .error idx
      else
        match checkLayout bands phases (seenWith g seen) (total + g.width) (idx + 1) fs with
        | .ok gs => .ok (g :: gs)
        | .error e => .error e

/-- R38, the last row: is every trim of the set named? -/
def namesAll (trimSet : List (Band × Phase)) (layout : List LayoutField) : Bool :=
  trimSet.all (fun bp => (trimWidth bp.1 bp.2 layout).isSome)

/-- R38: the first failing index among 1..14, if any. -/
def firstBadIndex (r : RawProfile) : Option Nat :=
  if ¬ (1 ≤ r.typeCode ∧ r.typeCode ≤ 0xFFFE) then some 1
  else if ¬ (r.elementCount = 1 ∨ r.elementCount = 3) then some 2
  else if ¬ (1 ≤ r.kmeter ∧ r.kmeter ≤ 1000000) then some 3
  else if 1 < r.pulseEdge then some 4
  else if ¬ (1 ≤ r.minWidth ∧ r.minWidth ≤ 10000) then some 5
  else if 1 < r.glitchPolicy then some 6
  else if ¬ (1 ≤ r.bandCount ∧ r.bandCount ≤ 3) then some 7
  else if r.bandCount = 2 ∧ ¬ (1 ≤ r.t1 ∧ r.t1 ≤ 200000) then some 8
  else if r.bandCount = 3 ∧ ¬ (1 ≤ r.t1 ∧ r.t1 ≤ 199999) then some 8
  else if r.bandCount = 3 ∧ ¬ (r.t1 + 1 ≤ r.t2 ∧ r.t2 ≤ 200000) then some 9
  else if 3 < r.accuracyClass then some 10
  else if ¬ (1 ≤ r.trimUnit ∧ r.trimUnit ≤ 100) then some 11
  else if ¬ (1 ≤ r.adjustLimit ∧ r.adjustLimit ≤ 200000) then some 12
  else if ¬ (1 ≤ r.maxRounds ∧ r.maxRounds ≤ 4) then some 13
  else if ¬ (1 ≤ r.fieldCount ∧ r.fieldCount ≤ 24) then some 14
  else none

/-- R40: the profile with its forced fields, from validated contents. -/
def forcedProfile (r : RawProfile) (layout : List LayoutField) : Profile :=
  { typeCode := r.typeCode, elementCount := r.elementCount, kmeter := r.kmeter
    pulseEdge := if r.pulseEdge = 0 then .rising else .falling
    minWidth := r.minWidth
    glitchPolicy := if r.glitchPolicy = 0 then .stall else .ignore
    bandCount := r.bandCount
    t1 := if r.bandCount = 1 then 0 else r.t1
    t2 := if r.bandCount < 3 then 0 else r.t2
    accuracyClass := r.accuracyClass, trimUnit := r.trimUnit, adjustLimit := r.adjustLimit
    maxRounds := r.maxRounds, layout := layout
    imageLength := ceilDiv (layoutWidth layout) 32 }

/-- R38..R40: validation; the failing index, or the profile as it is held. -/
def validate (r : RawProfile) : Except Nat Profile :=
  match firstBadIndex r with
  | some i => .error i
  | none =>
    match checkLayout (bandsOf r.bandCount) (phasesOf r.elementCount) [] 0 15 (r.places.take r.fieldCount) with
    | .error i => .error i
    | .ok layout =>
      if namesAll (trimSetOf r.bandCount r.elementCount) layout then .ok (forcedProfile r layout) else .error 14

end Sys2Proof.Machine
end

