-- ==== Sys2Proof/Machine/Operands.lean ====
section
/-! DEFINITION. Every operand form that comes in as bytes: the request envelope and the arguments of the 29 requests
(R198, R213, R214), the profile block and the stored slot (R48), and the Probe Link frames (R156, R215). -/

namespace Sys2Proof.Machine

/-! ### Requests -/

/-- R213: the request kinds. -/
inductive RequestKind where
  | getStatus | setBench | getBench | restart | setAttention | ackAttention | loadProfile | dropProfile
  | getProfile | saveProfiles | setPoint | clearPoint | getPlan | startPoint | endPoint | abortPoint | find
  | list | readRecord | amendTrim | reject | retire | clearFlags | seal | sealAll | getPositions
  | retryPosition | setSealRange | getSealRange
deriving DecidableEq, Repr

/-- R213: the kind codes. -/
def RequestKind.code : RequestKind → Byte
  | .getStatus => 0x01 | .setBench => 0x02 | .getBench => 0x03 | .restart => 0x04 | .setAttention => 0x05
  | .ackAttention => 0x06 | .loadProfile => 0x10 | .dropProfile => 0x11 | .getProfile => 0x12
  | .saveProfiles => 0x13 | .setPoint => 0x20 | .clearPoint => 0x21 | .getPlan => 0x22 | .startPoint => 0x28
  | .endPoint => 0x29 | .abortPoint => 0x2A | .find => 0x30 | .list => 0x31 | .readRecord => 0x32
  | .amendTrim => 0x33 | .reject => 0x34 | .retire => 0x35 | .clearFlags => 0x36 | .seal => 0x37
  | .sealAll => 0x38 | .getPositions => 0x40 | .retryPosition => 0x41 | .setSealRange => 0x48
  | .getSealRange => 0x49

/-- All request kinds, in the order of the catalogue. -/
def RequestKind.all : List RequestKind :=
  [.getStatus, .setBench, .getBench, .restart, .setAttention, .ackAttention, .loadProfile, .dropProfile,
   .getProfile, .saveProfiles, .setPoint, .clearPoint, .getPlan, .startPoint, .endPoint, .abortPoint, .find,
   .list, .readRecord, .amendTrim, .reject, .retire, .clearFlags, .seal, .sealAll, .getPositions,
   .retryPosition, .setSealRange, .getSealRange]

/-- R198: the request kind of a kind byte, if it is one. -/
def requestKindOf (b : Byte) : Option RequestKind := RequestKind.all.find? (fun k => k.code == b)

/-- R198, R213: the argument length a kind requires; SET_BENCH's is 1 + 5 × its assignment count. -/
def RequestKind.argLength (args : List Byte) : RequestKind → Nat
  | .getStatus | .getBench | .restart | .saveProfiles | .getPlan | .endPoint | .abortPoint | .sealAll
  | .getPositions | .getSealRange => 0
  | .setBench => 1 + 5 * uField args 0 1
  | .setAttention => 2
  | .ackAttention => 1
  | .loadProfile => 222
  | .dropProfile | .getProfile | .clearPoint | .startPoint | .retryPosition => 1
  | .setPoint => 30
  | .find => 21
  | .list => 2
  | .readRecord | .retire | .clearFlags | .seal => 2
  | .amendTrim => 8
  | .reject => 3
  | .setSealRange => 8

/-- What the envelope checks make of a taken message. -/
inductive Opened where
  | malformed (tag : BitVec 16) (kind : Byte)
  | request (tag : BitVec 16) (kind : RequestKind) (args : List Byte)
deriving DecidableEq, Repr

/-- R198: the envelope checks. A malformed message of fewer than 3 bytes is answered with tag and kind 0. -/
def openMessage (m : Message) : Opened :=
  let tag : BitVec 16 := if 3 ≤ m.bytes.length then BitVec.ofNat 16 (uField m.bytes 0 2) else 0#16
  let kind : Byte := if 3 ≤ m.bytes.length then BitVec.ofNat 8 (uField m.bytes 2 1) else 0#8
  let args := m.bytes.drop 5
  if m.bytes.length < 5 ∨ m.overlong = true ∨ uField m.bytes 3 2 ≠ args.length then .malformed tag kind
  else
    match requestKindOf kind with
    | none => .malformed tag kind
    | some k => if args.length = k.argLength args then .request tag k args else .malformed tag kind

/-- R214: HANDLE at an offset. -/
def handleArg (args : List Byte) (off : Nat) : Handle := ⟨uField args off 1, BitVec.ofNat 8 (uField args (off + 1) 1)⟩

/-- R23: a digit or an upper-case letter. -/
def serialChar (b : Byte) : Bool :=
  (0x30 ≤ b.toNat && b.toNat ≤ 0x39) || (0x41 ≤ b.toNat && b.toNat ≤ 0x5A)

/-- R23, R58: a serial of 4..20 characters, each a digit or an upper-case letter. -/
def serialOk (s : List Byte) : Bool := 4 ≤ s.length && s.length ≤ 20 && s.all serialChar

/-- R214: the SERIAL argument of FIND, or none where its length or a character is out of range. The bytes beyond the
length are not read (log entry 19). -/
def serialArg (args : List Byte) : Option (List Byte) :=
  let n := uField args 0 1
  let s := (args.drop 1).take n
  if n ≤ 20 ∧ serialOk s = true ∧ s.length = n then some s else none

/-- R207: the assignments of SET_BENCH, each a code and a value. -/
def assignments : Nat → List Byte → List (Nat × Nat)
  | 0, _ => []
  | n + 1, bs => (uField bs 0 1, uField bs 1 4) :: assignments n (bs.drop 5)

/-- R214: element codes. -/
def elementsOfCode (n : Nat) : Option Elements :=
  match n with
  | 0 => some .a
  | 1 => some .b
  | 2 => some .c
  | 3 => some .abc
  | _ => none

/-- R214: role codes. -/
def roleOfCode (n : Nat) : Option Role :=
  match n with
  | 0 => some .adjust
  | 1 => some .check
  | _ => none

/-- R79 check 2: the point block at offset 1 of SET_POINT's arguments, or none where a field is out of range. The mask
is a SET of 16 codes, so every code it can hold is within 1..16. -/
def pointArg (args : List Byte) : Option Point :=
  let current := uField args 2 4
  let pulses := uField args 7 2
  let windows := uField args 9 1
  let tols := [uField args 10 4, uField args 14 4, uField args 18 4, uField args 22 4]
  let timeout := uField args 26 2
  match elementsOfCode (uField args 1 1), roleOfCode (uField args 6 1) with
  | some e, some r =>
    if within 200000 current && within 1000 pulses && within 8 windows && tols.all (within 100000) &&
        within 3600 timeout then
      some { elements := e, current := current, role := r, pulses := pulses, windows := windows,
             tolerances := tols, timeout := timeout, mask := BitVec.ofNat 16 (uField args 28 2) }
    else none
  | _, _ => none

/-- [PORT:FMT:BLK]: the layout places of a profile block. -/
def rawFields : Nat → List Byte → List RawField
  | 0, _ => []
  | n + 1, bs =>
    ⟨uField bs 0 1, uField bs 1 1, uField bs 2 1, uField bs 3 1, uField bs 4 4⟩ :: rawFields n (bs.drop 8)

/-- [PORT:FMT:BLK]: a profile block of 221 bytes. Its image length is forced and not read (R40). -/
def rawProfile (bs : List Byte) : RawProfile :=
  { typeCode := uField bs 0 2, elementCount := uField bs 2 1, kmeter := uField bs 3 4, pulseEdge := uField bs 7 1
    minWidth := uField bs 8 2, glitchPolicy := uField bs 10 1, bandCount := uField bs 11 1, t1 := uField bs 12 4
    t2 := uField bs 16 4, accuracyClass := uField bs 20 1, trimUnit := uField bs 21 1
    adjustLimit := uField bs 22 4, maxRounds := uField bs 26 1, fieldCount := uField bs 27 1
    places := rawFields 24 (bs.drop 28) }

/-- LIST's binding filter (R24, R214). -/
inductive ListFilter where
  | all | boundOnly | orphanedOnly
deriving DecidableEq, Repr

/-- R214: LIST filter codes. -/
def listFilterOfCode (n : Nat) : Option ListFilter :=
  match n with
  | 0 => some .all
  | 1 => some .boundOnly
  | 2 => some .orphanedOnly
  | _ => none

/-! ### The stored slot of the profile flash (R48) -/

/-- What a stored slot reads as at the power-on load. -/
inductive StoredRead where
  | empty
  | candidate (raw : RawProfile)
  | loadFault
deriving DecidableEq, Repr

/-- R48: mark, profile block, stored check over the mark and block. -/
def readStored : FlashSlot → StoredRead
  | .interrupted => .loadFault
  | .stored bytes =>
    let body := bytes.take 222
    if uField bytes 222 2 ≠ (check body).toNat then .loadFault
    else if uField bytes 0 1 = 0x3C then .empty
    else if uField bytes 0 1 = 0xA5 then .candidate (rawProfile (bytes.drop 1))
    else .loadFault

/-! ### Probe Link frames -/

/-- R156: the frame kinds' codes (R215). -/
def kIdent : Byte := 0x01
def kRead : Byte := 0x02
def kStage : Byte := 0x03
def kStageCheck : Byte := 0x04
def kCommit : Byte := 0x05
def kLock : Byte := 0x06
def kIdentReply : Byte := 0x81
def kImageWords : Byte := 0x82
def kStaged : Byte := 0x84
def kCommitted : Byte := 0x85
def kLocked : Byte := 0x86
def kRefused : Byte := 0x87

/-- R215: a frame as sent: address, kind, turn mark, fields, frame check. -/
def frame (address : Nat) (kind : Byte) (mark : Byte) (fields : List Byte) : List Byte :=
  let body := BitVec.ofNat 8 address :: kind :: mark :: fields
  body ++ leBytes 2 (check body).toNat

/-- R156: the replies a meter may send. -/
inductive Reply where
  | identReply (serial : List Byte) (typeCode : Nat) (wordCount : Nat)
  | imageWords (offset : Nat) (count : Nat) (words : List Word)
  | staged (highWater : Nat)
  | committed (check : Check)
  | locked (check : Check)
  | refused
deriving DecidableEq, Repr

/-- A received frame that passed its frame check and whose byte count is that of its kind. -/
structure ReplyFrame where
  address : Nat
  mark : Byte
  reply : Reply
deriving DecidableEq, Repr

/-- R215: the fields of a reply by its kind; none where the byte count is not the kind's or the kind is no reply. -/
def replyFields (kind : Byte) (fields : List Byte) : Option Reply :=
  if kind = kIdentReply then
    let n := uField fields 0 1
    if fields.length = 4 + n then
      some (.identReply ((fields.drop 1).take n) (uField fields (1 + n) 2) (uField fields (3 + n) 1))
    else none
  else if kind = kImageWords then
    let n := uField fields 1 1
    if fields.length = 2 + 4 * n then some (.imageWords (uField fields 0 1) n (wordsOfBytes n (fields.drop 2))) else none
  else if kind = kStaged then
    if fields.length = 1 then some (.staged (uField fields 0 1)) else none
  else if kind = kCommitted then
    if fields.length = 2 then some (.committed (BitVec.ofNat 16 (uField fields 0 2))) else none
  else if kind = kLocked then
    if fields.length = 2 then some (.locked (BitVec.ofNat 16 (uField fields 0 2))) else none
  else if kind = kRefused then
    if fields.length = 0 then some .refused else none
  else none

/-- R157, R215: a received frame read, or none where its frame check or its byte count fails. -/
def readFrame (bs : List Byte) : Option ReplyFrame :=
  let body := bs.take (bs.length - 2)
  if bs.length < 5 then none
  else if uField bs (bs.length - 2) 2 ≠ (check body).toNat then none
  else
    match replyFields (BitVec.ofNat 8 (uField bs 1 1)) (body.drop 3) with
    | none => none
    | some r => some { address := uField bs 0 1, mark := BitVec.ofNat 8 (uField bs 2 1), reply := r }

end Sys2Proof.Machine
end

