-- ==== Sys2Proof/Machine/Formats.lean ====
section
/-! DEFINITION. The byte layouts of what the part sends on the USB pipes and writes to the flash (R214,
[PORT:FMT]). -/

namespace Sys2Proof.Machine

/-! ### Enumerations (R214) -/

def Band.code : Band → Nat
  | .low => 0 | .nominal => 1 | .high => 2

def Phase.code : Phase → Nat
  | .a => 0 | .b => 1 | .c => 2

def RecordState.code : RecordState → Nat
  | .measuring => 0 | .writePending => 1 | .writing => 2 | .passed => 3 | .sealing => 4 | .sealed => 5
  | .rejected => 6

/-- The record states in the order of their codes. -/
def RecordState.all : List RecordState :=
  [.measuring, .writePending, .writing, .passed, .sealing, .sealed, .rejected]

def EntryStatus.code : EntryStatus → Nat
  | .none => 0 | .pass => 1 | .fail => 2 | .adjusted => 3 | .stale => 4 | .noPulse => 5 | .incomplete => 6
  | .glitch => 7 | .refLost => 8

def RejectCause.code : RejectCause → Nat
  | .outOfRange => 1 | .adjustLimit => 2 | .writeFailed => 3 | .commitUnknown => 4 | .commitMismatch => 5
  | .sealMismatch => 6 | .sealRefused => 7 | .sealFailed => 8 | .byRequest _ => 9

/-- [PORT:FMT:REC]: the cause byte is 0 unless the cause is BY_REQUEST. -/
def RejectCause.causeByte : RejectCause → Nat
  | .byRequest b => b.toNat
  | .outOfRange | .adjustLimit | .writeFailed | .commitUnknown | .commitMismatch | .sealMismatch | .sealRefused
  | .sealFailed => 0

def Elements.code : Elements → Nat
  | .a => 0 | .b => 1 | .c => 2 | .abc => 3

def Role.code : Role → Nat
  | .adjust => 0 | .check => 1

def PositionState.code : PositionState → Nat
  | .empty => 0 | .settling => 1 | .identifying => 2 | .waitingSlot => 3 | .bound => 4 | .conflict => 5
  | .unknownType => 6 | .fault => 7 | .spent => 8

/-- The position states in the order of their codes. -/
def PositionState.all : List PositionState :=
  [.empty, .settling, .identifying, .waitingSlot, .bound, .conflict, .unknownType, .fault, .spent]

def ComparatorState.code : ComparatorState → Nat
  | .idle => 0 | .armed => 1 | .counting => 2 | .stalled => 3 | .done => 4

/-- R214: work item codes; none is 0. -/
def itemCode : Option Item → Nat
  | none => 0
  | some i =>
    match i.work with
    | .ident => 1
    | .readImage _ _ => 2
    | .write _ => 3
    | .sealLock _ => 4

/-- R214: identification phase codes; absent is 0. -/
def idPhaseCode : Option IdPhase → Nat
  | none => 0
  | some .ident => 1
  | some .image => 2

def EndCause.code : EndCause → Nat
  | .complete => 0 | .ended => 1 | .timedOut => 2 | .refLost => 3 | .aborted => 4 | .restart => 5

def StartKind.code : StartKind → Nat
  | .powerOn => 0 | .warm => 1

def WarmCause.code : WarmCause → Nat
  | .none => 0 | .resetLine => 1 | .restartRequest => 2

/-- R214: profile activity codes; no request is taken while LOADING (R209). -/
def Activity.code : Activity → Nat
  | .loading => 0 | .idle => 0 | .saving => 1

def AnswerCode.value : AnswerCode → Nat
  | .ok => 0 | .accepted => 1 | .busy => 2 | .badState => 3 | .badArgument => 4 | .badProfile => 5 | .noSuch => 6
  | .staleHandle => 7 | .full => 8 | .duplicate => 9 | .pinned => 10 | .notReady => 11 | .sealsExhausted => 12
  | .flagsSet => 13 | .imageOdd => 14 | .malformed => 15

/-- R214: the sticky flags as a SET. -/
def Flags.set (f : Flags) : Nat :=
  (if f.saturated then 1 else 0) + (if f.glitch then 2 else 0) + (if f.trimLimit then 4 else 0) +
    (if f.imageOdd then 8 else 0)

/-! ### Fields -/

/-- R214: HANDLE. -/
def handleBytes (h : Handle) : List Byte := [BitVec.ofNat 8 h.slot, h.tag]

/-- R214: SERIAL, length 0 when absent. -/
def serialBytes (s : Option (List Byte)) : List Byte :=
  match s with
  | none => List.replicate 21 0#8
  | some cs => BitVec.ofNat 8 cs.length :: padTo 20 cs

/-- [PORT:FMT:ENV]: the answer envelope and body. -/
def Answer.wire (a : Answer) : List Byte :=
  leBytes 2 a.tag.toNat ++ [a.kind, BitVec.ofNat 8 a.code.value] ++ u16 a.body.length ++ a.body

/-! ### Blocks -/

/-- [PORT:FMT:BLK]: one layout place. -/
def layoutPlace : LayoutField → List Byte
  | .trim b p w => u8 1 ++ u8 b.code ++ u8 p.code ++ u8 w ++ u32 0
  | .fixed w v => u8 2 ++ u8 0 ++ u8 0 ++ u8 w ++ u32 v

/-- [PORT:FMT:BLK]: the profile block, 221 bytes. -/
def profileBlock (p : Profile) : List Byte :=
  u16 p.typeCode ++ u8 p.elementCount ++ u32 p.kmeter ++ u8 (match p.pulseEdge with | .rising => 0 | .falling => 1) ++
  u16 p.minWidth ++ u8 (match p.glitchPolicy with | .stall => 0 | .ignore => 1) ++ u8 p.bandCount ++ u32 p.t1 ++
  u32 p.t2 ++ u8 p.accuracyClass ++ u8 p.trimUnit ++ u32 p.adjustLimit ++ u8 p.maxRounds ++ u8 p.layout.length ++
  padTo 192 (p.layout.flatMap layoutPlace) ++ u8 p.imageLength

/-- R48, R50: a stored slot as the save writes it. -/
def storedSlot (ps : Option ProfileSlot) : FlashSlot :=
  let body := match ps with
    | none => 0x3C#8 :: List.replicate 221 0#8
    | some s => 0xA5#8 :: profileBlock s.profile
  .stored (body ++ leBytes 2 (check body).toNat)

/-- [PORT:FMT:BLK]: the point block, 29 bytes. -/
def pointBlock (pt : Point) : List Byte :=
  u8 pt.elements.code ++ u32 pt.current ++ u8 pt.role.code ++ u16 pt.pulses ++ u8 pt.windows ++
  pt.tolerances.flatMap u32 ++ u16 pt.timeout ++ leBytes 2 pt.mask.toNat

/-- R82: one place of GET_PLAN. -/
def planPlace : Option Point → List Byte
  | none => List.replicate 30 0#8
  | some pt => u8 1 ++ pointBlock pt

/-- [PORT:FMT:REC]: one trim entry. -/
def trimBytes (t : Trim) : List Byte := u8 t.band.code ++ u8 t.phase.code ++ s32Bytes t.meter ++ s32Bytes t.target

/-- [PORT:FMT:REC]: one result entry. -/
def entryBytes (e : Entry) : List Byte :=
  u8 e.status.code ++ optBytes 4 s32Bytes e.error ++ u8 e.windows ++ boolByte e.saturated ++ u8 e.generation

/-- [PORT:FMT:REC]: the read-out of a record, 273 + 10n bytes. -/
def readOut (tag : Byte) (r : Record) : List Byte :=
  handleBytes ⟨r.slot, tag⟩ ++ u32 r.admission ++ serialBytes (some r.serial) ++ u8 r.profile ++ u8 r.state.code ++
  optBytes 1 u8 r.position ++ u8 r.rounds ++ u8 r.generation ++ u8 r.writeFailures ++ u8 r.sealAttempts ++
  u8 r.flags.set ++ optBytes 4 u32 r.sealNumber ++ optBytes 2 (fun c => leBytes 2 c.toNat) r.recordCheck ++
  optBytes 2 (fun c => u8 c.code ++ u8 c.causeByte) r.cause ++ u8 r.spoiled.length ++
  padTo 8 (r.spoiled.flatMap u32) ++ u8 r.trims.length ++ r.trims.flatMap trimBytes ++ r.results.flatMap entryBytes

/-- [PORT:FMT:BLK]: the report of position p, 34 bytes. -/
def positionReport (p : Nat) (x : Position) : List Byte :=
  u8 p ++ u8 ((p - 1) / 8 + 1) ++ u8 x.state.code ++ boolByte x.taken ++ optBytes 2 handleBytes x.bound ++
  boolByte x.held ++ u8 (idPhaseCode x.phase) ++ serialBytes (x.identity.map (·.serial)) ++
  u16 ((x.identity.map (·.typeCode)).getD 0) ++ u8 (itemCode x.item) ++ u8 x.cmp.state.code

end Sys2Proof.Machine
end

