-- ==== Sys2Proof/WellFormed.lean ====
section
/-! DEFINITION. Which commands the world can give: a position operand names one of the 48 positions (R52), a lane
operand one of the 6 lanes (R151). -/

namespace Sys2Proof

/-- R52: position units are numbered 1..48. -/
def isPosition (p : Nat) : Bool := 1 ≤ p && p ≤ 48

/-- R151: lanes are numbered 1..6. -/
def isLane (l : Nat) : Bool := 1 ≤ l && l ≤ 6

/-- The position a command names, if it names one. -/
def Instr.position? : Instr → Option Nat
  | .presenceChange p _ | .debounceExpiry p | .creationClaim p | .rebindClaim p | .orphanClaim p
  | .resultClaim p | .flagClaim p | .writeStartClaim p | .sealStartClaim p | .commitMatchOutcome p
  | .stageFailedOutcome p | .commitFailOutcome p | .lockedOutcome p | .refusedOutcome p
  | .noReplyOutcome p | .finishingReport p | .meterActiveEdge p _ _ | .meterOppositeEdge p _ _
  | .glitchTestEnd p => some p
  | .powerOn | .warmRestart | .profileLoadSlot | .profileSaveSlot | .usbBusReset
  | .requestMessageAccepted _ | .answerDelivered | .attentionPoll | .malformedRequest | .getStatus
  | .setBench | .getBench | .restart | .setAttention | .ackAttention | .loadProfile | .dropProfile
  | .getProfile | .saveProfiles | .setPoint | .clearPoint | .getPlan | .startPoint | .endPoint
  | .abortPoint | .find | .list | .readRecord | .amendTrim | .reject | .retire | .clearFlags | .seal
  | .sealAll | .getPositions | .retryPosition | .setSealRange | .getSealRange | .laneSendDone _
  | .probeFrameReceived _ _ | .laneReplyTimeout _ | .refEdge | .refWatchdogTimeout | .refLossReport
  | .pointTimerExpiry => none

/-- The lane a command names, if it names one. -/
def Instr.lane? : Instr → Option Nat
  | .laneSendDone l | .probeFrameReceived l _ | .laneReplyTimeout l => some l
  | .powerOn | .warmRestart | .profileLoadSlot | .profileSaveSlot | .usbBusReset
  | .requestMessageAccepted _ | .answerDelivered | .attentionPoll | .malformedRequest | .getStatus
  | .setBench | .getBench | .restart | .setAttention | .ackAttention | .loadProfile | .dropProfile
  | .getProfile | .saveProfiles | .setPoint | .clearPoint | .getPlan | .startPoint | .endPoint
  | .abortPoint | .find | .list | .readRecord | .amendTrim | .reject | .retire | .clearFlags | .seal
  | .sealAll | .getPositions | .retryPosition | .setSealRange | .getSealRange | .presenceChange _ _
  | .debounceExpiry _ | .creationClaim _ | .rebindClaim _ | .orphanClaim _ | .resultClaim _
  | .flagClaim _ | .writeStartClaim _ | .sealStartClaim _ | .commitMatchOutcome _
  | .stageFailedOutcome _ | .commitFailOutcome _ | .lockedOutcome _ | .refusedOutcome _
  | .noReplyOutcome _ | .refEdge | .refWatchdogTimeout | .refLossReport | .pointTimerExpiry
  | .finishingReport _ | .meterActiveEdge _ _ _ | .meterOppositeEdge _ _ _ | .glitchTestEnd _ => none

/-- A command the world can give. -/
def Instr.wellFormed (i : Instr) : Bool :=
  (match i.position? with
   | some p => isPosition p
   | none => true) &&
  (match i.lane? with
   | some l => isLane l
   | none => true)

end Sys2Proof
end

