-- ==== Sys2Proof/Machine/Ops.lean ====
section
/-! DEFINITION. The named operations over the state: reading and changing a position, a lane, a record, the claims on
their way, the seal numbers, and the taking of a request (R197). A block has no exception entry. -/

namespace Sys2Proof.Machine

/-! ### Positions and lanes -/

/-- The list with the thing at place n changed; a place outside the list changes nothing. -/
def updPlace {α : Type} (l : List α) (n : Nat) (f : α → α) : List α :=
  match n with
  | 0 => l
  | n + 1 => l.modify n f

/-- Position p. -/
def State.position (s : State) (p : Nat) : Position := (place s.positions p).getD (Position.powerOn true)

/-- The state with position p changed. -/
def State.updPosition (p : Nat) (f : Position → Position) (s : State) : State :=
  { s with positions := updPlace s.positions p f }

/-- The state with position p's comparator changed. -/
def State.updCmp (p : Nat) (f : Comparator → Comparator) (s : State) : State :=
  s.updPosition p (fun x => { x with cmp := f x.cmp })

/-- Lane l. -/
def State.lane (s : State) (l : Nat) : Lane := (place s.lanes l).getD (Lane.powerOn l)

/-- The state with lane l changed. -/
def State.updLane (l : Nat) (f : Lane → Lane) (s : State) : State := { s with lanes := updPlace s.lanes l f }

/-- R52: the lane of position p. -/
def laneOf (p : Nat) : Nat := (p - 1) / 8 + 1

/-- R151: the first position of lane l. -/
def laneFirst (l : Nat) : Nat := 8 * (l - 1) + 1

/-- R156: the probe address of position p. -/
def probeAddress (p : Nat) : Nat := p - 8 * (laneOf p - 1)

/-- R53: a position's state is set; POSITIONS_CHANGED is raised where it changes. -/
def State.moveTo (p : Nat) (st : PositionState) (s : State) : State :=
  (s.updPosition p (fun x => { x with state := st })).raiseIf (decide ((s.position p).state ≠ st)) .positionsChanged

/-! ### Records, profiles and points -/

/-- R2: the tag of a slot. -/
def State.tag (s : State) (slot : Nat) : Byte := (place s.tags slot).getD 0#8

/-- R1: the record in a slot. -/
def State.recordAt (s : State) (slot : Nat) : Option Record := s.records.find? (fun r => r.slot == slot)

/-- R5: the state with the record of a slot changed where it stands in the list. -/
def State.updRecord (slot : Nat) (f : Record → Record) (s : State) : State :=
  { s with records := s.records.map (fun r => if r.slot = slot then f r else r) }

/-- R6: the serial index. -/
def State.recordOf (s : State) (serial : List Byte) : Option Record :=
  s.records.find? (fun r => r.serial == serial)

/-- The handle of a record. -/
def State.handleOf (s : State) (r : Record) : Handle := ⟨r.slot, s.tag r.slot⟩

/-- R3: resolution of a handle, or the failing answer. -/
def State.resolve (s : State) (h : Handle) : Except AnswerCode Record :=
  if within 64 h.slot then
    match s.recordAt h.slot with
    | none => .error .noSuch
    | some r => if s.tag h.slot = h.tag then .ok r else .error .staleHandle
  else .error .badArgument

/-- R3: the record a claim's handle names, or none where the claim is discarded. -/
def State.named (s : State) (h : Handle) : Option Record :=
  match s.resolve h with
  | .ok r => some r
  | .error _ => none

/-- R1: the free slots, lowest first. -/
def State.freeSlots (s : State) : List Nat := (places 64).filter (fun n => (s.recordAt n).isNone)

/-- R32: the profile slot of a code. -/
def State.profileSlot (s : State) (code : Nat) : Option ProfileSlot := (place s.profiles code).join

/-- R32: the profile of a code. -/
def State.profileAt (s : State) (code : Nat) : Option Profile := (s.profileSlot code).map (·.profile)

/-- R34: the code of the loaded profile with a type code. -/
def State.codeOfType (s : State) (typeCode : Nat) : Option Nat :=
  (places 16).find? (fun c => (s.profileAt c).any (fun p => p.typeCode == typeCode))

/-- R41: the pin count of a code's profile, changed. -/
def State.updPins (code : Nat) (f : Nat → Nat) (s : State) : State :=
  { s with profiles := updPlace s.profiles code (Option.map (fun ps => { ps with pins := f ps.pins })) }

/-- R75: the point at an index. -/
def State.pointAt (s : State) (k : Nat) : Option Point := (place s.plan k).join

/-- R15: the result entry at an index. -/
def Record.entry (r : Record) (k : Nat) : Entry := (place r.results k).getD Entry.empty

/-- R15: a record with entry k written whole. -/
def Record.withEntry (k : Nat) (e : Entry) (r : Record) : Record := { r with results := setPlace r.results k e }

/-- R20: a change of a record's state. -/
def State.moveRecord (slot : Nat) (st : RecordState) (s : State) : State :=
  (s.updRecord slot (fun r => { r with state := st })).raise .recordsChanged

/-! ### Claims on their way -/

/-- A block sends a claim. -/
def State.send (c : Claim) (s : State) : State := { s with inFlight := s.inFlight ++ [c] }

/-- A taker takes the first claim of a stream where it is of the kind wanted; otherwise nothing happens (log entries 1
and 10). -/
def State.takeClaim {α : Type} (stream : Claim → Bool) (want : Claim → Option α) (f : α → State → State) (s : State) :
    State :=
  match s.inFlight.find? stream with
  | none => s
  | some c =>
    match want c with
    | none => s
    | some a => f a { s with inFlight := s.inFlight.eraseP stream }

/-- R10, R57: the creation, rebind and orphan claims of position p, which are taken in the order sent. -/
def ofPosition (p : Nat) : Claim → Bool
  | .creation q _ _ | .rebind q _ | .orphan q _ _ => q == p
  | .flag _ _ _ | .result _ _ _ _ | .finishing _ | .writeStart _ _ | .sealStart _ _ | .commitMatch _ _
  | .stageFailed _ _ | .commitMismatch _ _ | .commitUnknown _ _ | .locked _ _ _ _ | .refused _ _ | .noReply _ _
  | .refLoss => false

/-- R116: the claims of position p's comparator to the Record Table, which are taken in the order sent. -/
def ofComparator (p : Nat) : Claim → Bool
  | .flag q _ _ | .result q _ _ _ => q == p
  | .creation _ _ _ | .rebind _ _ | .orphan _ _ _ | .finishing _ | .writeStart _ _ | .sealStart _ _ | .commitMatch _ _
  | .stageFailed _ _ | .commitMismatch _ _ | .commitUnknown _ _ | .locked _ _ _ _ | .refused _ _ | .noReply _ _
  | .refLoss => false

/-- R65: the start claims and outcomes of position p's lane work, which are passed on in lane order. -/
def ofLaneWork (p : Nat) : Claim → Bool
  | .writeStart q _ | .sealStart q _ | .commitMatch q _ | .stageFailed q _ | .commitMismatch q _ | .commitUnknown q _
  | .locked q _ _ _ | .refused q _ | .noReply q _ => q == p
  | .creation _ _ _ | .rebind _ _ | .orphan _ _ _ | .flag _ _ _ | .result _ _ _ _ | .finishing _ | .refLoss => false

/-- R87: the finishing report of position p's comparator. -/
def isFinishing (p : Nat) : Claim → Bool
  | .finishing q => q == p
  | .creation _ _ _ | .rebind _ _ | .orphan _ _ _ | .flag _ _ _ | .result _ _ _ _ | .writeStart _ _ | .sealStart _ _
  | .commitMatch _ _ | .stageFailed _ _ | .commitMismatch _ _ | .commitUnknown _ _ | .locked _ _ _ _ | .refused _ _
  | .noReply _ _ | .refLoss => false

/-- R97: a loss report. -/
def isRefLoss : Claim → Bool
  | .refLoss => true
  | .creation _ _ _ | .rebind _ _ | .orphan _ _ _ | .flag _ _ _ | .result _ _ _ _ | .finishing _ | .writeStart _ _
  | .sealStart _ _ | .commitMatch _ _ | .stageFailed _ _ | .commitMismatch _ _ | .commitUnknown _ _ | .locked _ _ _ _
  | .refused _ _ | .noReply _ _ => false

/-- A flag or result claim of any comparator. -/
def isComparatorClaim : Claim → Bool
  | .flag _ _ _ | .result _ _ _ _ => true
  | .creation _ _ _ | .rebind _ _ | .orphan _ _ _ | .finishing _ | .writeStart _ _ | .sealStart _ _ | .commitMatch _ _
  | .stageFailed _ _ | .commitMismatch _ _ | .commitUnknown _ _ | .locked _ _ _ _ | .refused _ _ | .noReply _ _
  | .refLoss => false

/-- A finishing report of any comparator. -/
def isAnyFinishing : Claim → Bool
  | .finishing _ => true
  | .creation _ _ _ | .rebind _ _ | .orphan _ _ _ | .flag _ _ _ | .result _ _ _ _ | .writeStart _ _ | .sealStart _ _
  | .commitMatch _ _ | .stageFailed _ _ | .commitMismatch _ _ | .commitUnknown _ _ | .locked _ _ _ _ | .refused _ _
  | .noReply _ _ | .refLoss => false

/-- An orphan claim of any position. -/
def isOrphan : Claim → Bool
  | .orphan _ _ _ => true
  | .creation _ _ _ | .rebind _ _ | .flag _ _ _ | .result _ _ _ _ | .finishing _ | .writeStart _ _ | .sealStart _ _
  | .commitMatch _ _ | .stageFailed _ _ | .commitMismatch _ _ | .commitUnknown _ _ | .locked _ _ _ _ | .refused _ _
  | .noReply _ _ | .refLoss => false

/-- R10, R172, R192: the outcomes of position p's lane work. -/
def isOutcomeOf (p : Nat) : Claim → Bool
  | .commitMatch q _ | .stageFailed q _ | .commitMismatch q _ | .commitUnknown q _ | .locked q _ _ _ | .refused q _
  | .noReply q _ => q == p
  | .creation _ _ _ | .rebind _ _ | .orphan _ _ _ | .flag _ _ _ | .result _ _ _ _ | .finishing _ | .writeStart _ _
  | .sealStart _ _ | .refLoss => false

/-- R57: the position and the phase of an orphan claim for a handle. -/
def Claim.orphanFor (h : Handle) : Claim → Option (Nat × Option AbandonPhase)
  | .orphan p g ph => if g = h then some (p, ph) else none
  | .creation _ _ _ | .rebind _ _ | .flag _ _ _ | .result _ _ _ _ | .finishing _ | .writeStart _ _ | .sealStart _ _
  | .commitMatch _ _ | .stageFailed _ _ | .commitMismatch _ _ | .commitUnknown _ _ | .locked _ _ _ _ | .refused _ _
  | .noReply _ _ | .refLoss => none

/-- R57: is this an orphan claim for a handle? -/
def isOrphanFor (h : Handle) (c : Claim) : Bool := (c.orphanFor h).isSome

/-- R57, R65: the position and the phase of the orphan claim for a handle that is on its way. -/
def State.orphanOnWay (s : State) (h : Handle) : Option (Nat × Option AbandonPhase) :=
  s.inFlight.findSome? (Claim.orphanFor h)

/-- R57, log entry 11: the claims of position p that its removal withdraws. -/
def withdrawnByRemoval (p : Nat) : Claim → Bool
  | .creation q _ _ | .rebind q _ | .writeStart q _ | .sealStart q _ => q == p
  | .orphan _ _ _ | .flag _ _ _ | .result _ _ _ _ | .finishing _ | .commitMatch _ _ | .stageFailed _ _
  | .commitMismatch _ _ | .commitUnknown _ _ | .locked _ _ _ _ | .refused _ _ | .noReply _ _ | .refLoss => false

/-! ### Work items (R153) -/

/-- R153: a newly queued work item. -/
def Item.fresh (w : Work) : Item := { work := w, requesting := true, granted := false, attempts := 0 }

/-- R153: position p queues a work item. -/
def State.queueItem (p : Nat) (w : Work) (s : State) : State :=
  s.updPosition p (fun x => { x with item := some (Item.fresh w) })

/-- R64, R129, R186: the Record Table gives a record's work item to its position, where that is BOUND and holds no
item, and the position queues it. -/
def State.giveItem (r : Record) (w : Work) (s : State) : State :=
  match r.position with
  | none => s
  | some p => if (s.position p).state = .bound ∧ (s.position p).item = none then s.queueItem p w else s

/-- R130: the mark of a WRITE item given to position p is set or cleared. -/
def State.markGiven (p : Nat) (b : Bool) (s : State) : State := s.updPosition p (fun x => { x with given := b })

/-- R130: the WRITE item of an orphaned record is given to the position whose orphan claim for it is on its way, or the
gift is withdrawn (log entry 12). -/
def State.giveGone (r : Record) (b : Bool) (s : State) : State :=
  match r.position, s.orphanOnWay (s.handleOf r) with
  | none, some (p, _) => s.markGiven p b
  | _, _ => s

/-- Position p's WRITE or SEAL work item is withdrawn where it has not had its first grant (R153). -/
def State.withdrawUngranted (p : Nat) (w : Work → Bool) (s : State) : State :=
  s.updPosition p (fun x => { x with item := x.item.filter (fun i => i.granted || !w i.work) })

/-- R64: is the work a write? -/
def Work.isWrite : Work → Bool
  | .write _ => true
  | .ident | .readImage _ _ | .sealLock _ => false

/-- R64: is the work for a record? -/
def Work.isForRecord : Work → Bool
  | .write _ | .sealLock _ => true
  | .ident | .readImage _ _ => false

/-- R18, R26, R27, R64: the Record Table withdraws a record's WRITE work item that has not had its first grant. -/
def State.withdrawWrite (r : Record) (s : State) : State :=
  match r.position with
  | none => s.giveGone r false
  | some p => s.withdrawUngranted p Work.isWrite

/-- R10, R130: an orphan claim withdraws the WRITE or SEAL work item of position p that has not had its first grant. -/
def State.withdrawWork (p : Nat) (s : State) : State := (s.withdrawUngranted p Work.isForRecord).markGiven p false

/-! ### Rejection (R18) -/

/-- R18, R20: a record goes to REJECTED with a cause; a queued WRITE work item is withdrawn. -/
def State.reject (slot : Nat) (cause : RejectCause) (s : State) : State :=
  let s1 := match s.recordAt slot with
    | none => s
    | some r => s.withdrawWrite r
  (s1.updRecord slot (fun r => { r with state := .rejected, cause := some cause })).raise .recordsChanged

/-! ### Seal numbers (R177, R178) -/

/-- R177: the remaining count. -/
def SealAllocator.remaining (a : SealAllocator) : Nat := if a.first = 0 then 0 else a.last + 1 - a.next

/-- R178: the allocator after an issue. -/
def SealAllocator.issued (a : SealAllocator) : SealAllocator := { a with next := a.next + 1, lastIssued := a.next }

/-- R178, R179: an issue with its two conditions. -/
def State.issueSeal (s : State) : State :=
  let before := s.seals.remaining
  let after := s.seals.issued.remaining
  let low := s.port.bench.sealLow
  (({ s with seals := s.seals.issued }).raiseIf (decide (low ≤ before ∧ after < low)) .sealLow).raiseIf
    (decide (after = 0)) .sealsExhausted

/-- R192: the record's seal number joins its spoiled list and becomes absent. -/
def Record.spoil (r : Record) : Record :=
  { r with spoiled := r.spoiled ++ r.sealNumber.toList, sealNumber := none }

/-! ### Taking a request (R197) -/

/-- What a block makes of a request: the state after its effect, the answer code and the answer body. -/
structure Served where
  state : State
  code : AnswerCode
  body : List Byte

/-- R201: a refusal changes no state and has an empty body. -/
def refuse (s : State) (c : AnswerCode) : Served := ⟨s, c, []⟩

/-- R201: a taken request. -/
def taken (s : State) (body : List Byte) : Served := ⟨s, .ok, body⟩

/-- R197: may the port take a request? -/
def State.mayTake (s : State) : Bool :=
  decide (s.port.answers.length < Config.queueDepth) && !s.port.restartPending

/-- R197: the oldest message with the state after it has left the queue, where the port may take a request. -/
def State.takeMessage (s : State) : Option (Message × State) :=
  match s.port.requests with
  | [] => none
  | m :: rest => if s.mayTake then some (m, { s with port := { s.port with requests := rest } }) else none

/-- R197: an answer joins the end of the answer queue. -/
def State.putAnswer (a : Answer) (s : State) : State :=
  { s with port := { s.port with answers := s.port.answers ++ [a] } }

/-- R197: the port takes the oldest message, hands it to the block where it is a well-formed request of kind k, and
places the answer, as one event. Where the port may take no request, or the oldest message is not this request, nothing
happens (log entry 2). -/
def serve (k : RequestKind) (block : List Byte → State → Served) (s : State) : State :=
  match s.takeMessage with
  | none => s
  | some (m, s1) =>
    match openMessage m with
    | .malformed _ _ => s
    | .request tag k' args =>
      if k' = k then
        let r := block args s1
        r.state.putAnswer { tag := tag, kind := k.code, code := r.code, body := r.body }
      else s

/-! ### Commands that name a position or a lane (log entry 23) -/

/-- A command of position p. -/
def onPosition (p : Nat) (s : State) (f : State → State) : Host.Outcome State Fault Refusal :=
  if isPosition p then .next (f s) else .fault .noSuchPosition

/-- A command of lane l. -/
def onLane (l : Nat) (s : State) (f : State → State) : Host.Outcome State Fault Refusal :=
  if isLane l then .next (f s) else .fault .noSuchLane

end Sys2Proof.Machine
end

