-- ==== Sys2Proof/Machine/Lanes.lean ====
section
/-! DEFINITION. The probe lanes: the arbiter, the frames of a turn and the end of a turn (08). -/

namespace Sys2Proof.Machine

/-! ### The frames of a turn (R156, R160, R161, R164, R166, R173) -/

/-- R164: the STAGE frames of a turn, each as offset and count: the first is always sent, a further one while words
remain and the burst budget allows it. -/
def stageBurst (cap length : Nat) : Nat → Nat → Nat → List (Nat × Nat)
  | 0, _, _ => []
  | fuel + 1, sent, budget =>
    let n := min Config.wordsPerFrame (length - sent)
    if sent < length ∧ (budget = 0 ∨ budget + n ≤ cap) then
      (sent, n) :: stageBurst cap length fuel (sent + n) (budget + n)
    else []

/-- The words of a burst. -/
def burstWords (burst : List (Nat × Nat)) : Nat := (burst.map (·.2)).sum

/-- R156: a STAGE frame. -/
def stageFrame (addr : Nat) (mark : Byte) (snapshot : List Word) (b : Nat × Nat) : List Byte :=
  frame addr kStage mark (u8 b.1 ++ u8 b.2 ++ imageBytes ((snapshot.drop b.1).take b.2))

/-- What a turn sends, what its work becomes as it is sent, and the words it sends in STAGE frames. -/
structure Turn where
  frames : List (List Byte)
  work : Work
  budget : Nat
deriving DecidableEq, Repr

/-- R161: the count of a READ. -/
def readCount (wordCount offset : Nat) : Nat := min Config.wordsPerFrame (wordCount - offset)

/-- R164, R166: a turn of a write transfer. -/
def transferTurn (addr cap : Nat) (mark : Byte) (t : Transfer) : Turn :=
  match t.phase with
  | .stage =>
    let burst := stageBurst cap t.length 16 t.sendOffset 0
    { frames := burst.map (stageFrame addr mark t.snapshot) ++ [frame addr kStageCheck mark (u8 t.length)]
      work := .write (some { t with sendOffset := t.sendOffset + burstWords burst })
      budget := burstWords burst }
  | .commit =>
    { frames := [frame addr kCommit mark (u8 t.length)], work := .write (some { t with commitSent := true }), budget := 0 }

/-- The turn of an item: nothing is sent while a WRITE or SEAL item waits on its start claim (R155). -/
def turnOf (addr cap : Nat) (mark : Byte) (wordCount : Nat) (w : Work) : Turn :=
  match w with
  | .ident => { frames := [frame addr kIdent mark []], work := w, budget := 0 }
  | .readImage off _ =>
    { frames := [frame addr kRead mark (u8 off ++ u8 (readCount wordCount off))], work := w, budget := 0 }
  | .write (some t) => transferTurn addr cap mark t
  | .sealLock (some k) =>
    { frames := [frame addr kLock mark (u32 k.number ++ leBytes 2 k.recordCheck.toNat)], work := w, budget := 0 }
  | .write none | .sealLock none => { frames := [], work := w, budget := 0 }

/-- The word count of position p's identity in progress. -/
def Position.wordCount (x : Position) : Nat := (x.identity.map (·.wordCount)).getD 0

/-- The lane begins to send the frames of position p's turn with the mark and burst cap of its grant. -/
def State.sendTurn (l p : Nat) (s : State) : State :=
  match (s.position p).item with
  | none => s
  | some i =>
    let t := turnOf (probeAddress p) (s.lane l).cap (s.lane l).mark (s.position p).wordCount i.work
    (s.updLane l (fun x => { x with frames := t.frames, budget := t.budget })).updPosition p
      (fun x => { x with item := some { i with work := t.work } })

/-! ### The arbiter (R154) -/

/-- R154: is position p requesting? -/
def State.requesting (s : State) (p : Nat) : Bool :=
  match (s.position p).item with
  | some i => i.requesting
  | none => false

/-- R154: the positions of lane l in search order: after the pointer, wrapping, the pointer's own last. -/
def searchOrder (l pointer : Nat) : List Nat :=
  (places 8).map (fun i => laneFirst l + (pointer - laneFirst l + i) % 8)

/-- R155: the start claim of an item's first grant, naming the bound handle. -/
def startClaim (p : Nat) (x : Position) : Option Claim :=
  match x.item, x.bound with
  | some i, some h =>
    match i.work with
    | .write none => some (.writeStart p h)
    | .sealLock none => some (.sealStart p h)
    | .ident | .readImage _ _ | .write (some _) | .sealLock (some _) => none
  | _, _ => none

/-- R154, R155: lane l grants a turn to position p. -/
def State.grant (l p : Nat) (s : State) : State :=
  let cap := s.port.bench.burstCap
  let s1 := s.updLane l (fun x =>
    { x with state := .granted p, pointer := p, mark := x.mark + 1#8, budget := 0, cap := cap, frames := [] })
  let s2 := s1.updPosition p (fun x =>
    { x with item := x.item.map (fun i => { i with requesting := false, granted := true }) })
  match startClaim p (s.position p) with
  | some c => s2.send c
  | none => s2.sendTurn l p

/-- R152, R154: an IDLE lane with a requesting item grants the next requesting position. -/
def State.arbitrate (l : Nat) (s : State) : State :=
  match (s.lane l).state with
  | .idle =>
    match (searchOrder l (s.lane l).pointer).find? s.requesting with
    | none => s
    | some p => s.grant l p
  | .granted _ | .awaitReply _ => s

/-- R152: every lane arbitrates, at the end of a step (log entry 13). -/
def State.settle (s : State) : State :=
  (((((s.arbitrate 1).arbitrate 2).arbitrate 3).arbitrate 4).arbitrate 5).arbitrate 6

/-! ### The end of a turn -/

/-- R152: the turn of lane l ends; the timer stops and the lane is IDLE. -/
def State.endTurn (l : Nat) (s : State) : State :=
  s.updLane l (fun x => { x with state := .idle, timer := none, frames := [] })

/-- Does a lane state name position p? -/
def LaneState.names (p : Nat) : LaneState → Bool
  | .idle => false
  | .granted q => q == p
  | .awaitReply q => q == p

/-- R153, R174: position p's item is withdrawn or abandoned: its context is discarded, and where its turn is in progress
the turn ends. -/
def State.dropItem (p : Nat) (s : State) : State :=
  let s1 := s.updPosition p (fun x => { x with item := none })
  if ((s.lane (laneOf p)).state.names p) then s1.endTurn (laneOf p) else s1

/-- R155: the grant is void: the item ends without an outcome and the lane is IDLE. -/
def State.voidGrant (p : Nat) (s : State) : State := s.dropItem p

/-- An item ends by its outcome (R153). -/
def State.endItem (p : Nat) (s : State) : State := s.updPosition p (fun x => { x with item := none })

/-- An item with turns still to take requests again (R153). -/
def State.keepItem (p : Nat) (i : Item) (s : State) : State :=
  s.updPosition p (fun x => { x with item := some { i with requesting := true } })

/-- R174, R175: the phase of position p's write where its item has ended: from its outcome on its way. -/
def outcomePhase (p : Nat) : Claim → Option AbandonPhase
  | .commitMatch q _ | .commitMismatch q _ | .commitUnknown q _ => if q = p then some .commitSent else none
  | .stageFailed q _ => if q = p then some .noCommitSent else none
  | .creation _ _ _ | .rebind _ _ | .orphan _ _ _ | .flag _ _ _ | .result _ _ _ _ | .finishing _ | .writeStart _ _
  | .sealStart _ _ | .locked _ _ _ _ | .refused _ _ | .noReply _ _ | .refLoss => none

/-- R174, R175: the phase the lane reports for position p's WRITE work. -/
def State.writePhase (s : State) (p : Nat) : Option AbandonPhase :=
  match (s.position p).item with
  | some i =>
    match i.work with
    | .write (some t) => some (if t.commitSent then .commitSent else .noCommitSent)
    | .write none => if i.granted then some .noCommitSent else none
    | .ident | .readImage _ _ | .sealLock _ => s.inFlight.findSome? (outcomePhase p)
  | none => s.inFlight.findSome? (outcomePhase p)

end Sys2Proof.Machine
end

