-- ==== Sys2Proof/Machine/Records.lean ====
section
/-! DEFINITION. The Record Table's shared operations: the PASSED evaluation and the auto-seal test, write and seal
settlements, orphaning, rebinding and creation (01, 06, 09). -/

namespace Sys2Proof.Machine

/-! ### Applicability and the PASSED condition (R21, R77) -/

/-- R77: does the point at index k apply to a record? -/
def State.applies (s : State) (k : Nat) (r : Record) : Bool :=
  match s.pointAt k, s.profileAt r.profile with
  | some pt, some pf => pt.names r.profile && pt.elements.suits pf.elementCount
  | _, _ => false

/-- R21: the PASSED condition. -/
def State.passedCondition (s : State) (r : Record) : Bool :=
  (places 24).any (fun k => s.applies k r) &&
    (places 24).all (fun k => !s.applies k r || decide ((r.entry k).status = .pass))

/-- R183 check 3: the record is bound and its position is BOUND. -/
def State.reachable (s : State) (r : Record) : Bool :=
  match r.position with
  | some p => decide ((s.position p).state = .bound)
  | none => false

/-! ### Entering SEALING and WRITE_PENDING -/

/-- R186: a record enters SEALING, and its position is given the SEAL work item. -/
def State.enterSealing (slot : Nat) (s : State) : State :=
  let s1 := s.moveRecord slot .sealing
  match s.recordAt slot with
  | none => s1
  | some r => s1.giveItem r (.sealLock none)

/-- R129: a record enters WRITE_PENDING, and its position is given the WRITE work item. -/
def State.enterWritePending (slot : Nat) (s : State) : State :=
  let s1 := s.moveRecord slot .writePending
  match s.recordAt slot with
  | none => s1
  | some r => s1.giveItem r (.write none)

/-- R185: the auto-seal test. -/
def State.autoSealTest (slot : Nat) (s : State) : State :=
  match s.recordAt slot with
  | none => s
  | some r =>
    if s.port.bench.autoSeal = true ∧ r.flags.any = false ∧ r.sealAttempts = 0 ∧ s.reachable r = true then
      if 1 ≤ s.seals.remaining then s.enterSealing slot else s.raise .sealsExhausted
    else s

/-- R21, R22: the evaluation of a record. -/
def State.evaluate (slot : Nat) (s : State) : State :=
  match s.recordAt slot with
  | none => s
  | some r =>
    match r.state with
    | .measuring => if s.passedCondition r then (s.moveRecord slot .passed).autoSealTest slot else s
    | .passed => if s.passedCondition r then s else s.moveRecord slot .measuring
    | .writePending | .writing | .sealing | .sealed | .rejected => s

/-- R22: a record returns to PASSED from SEALING and is evaluated. -/
def State.returnToPassed (slot : Nat) (s : State) : State := (s.moveRecord slot .passed).evaluate slot

/-- R80: the reset claim for index k, taken for the record of a slot. -/
def State.resetEntry (k slot : Nat) (s : State) : State :=
  s.updRecord slot (fun r => if r.state = .sealed then r else r.withEntry k Entry.empty)

/-- R80, R81: the reset claim for index k: every entry k outside SEALED, then every evaluation. -/
def State.resetClaim (k : Nat) (s : State) : State :=
  let slots := s.records.map (·.slot)
  slots.foldl (fun t n => t.evaluate n) (slots.foldl (fun t n => t.resetEntry k n) s)

/-! ### Settling a record whose work was cut off (R10, R30, R191) -/

/-- R10, R30: a record in WRITING is settled by the COMMIT sent mark. -/
def State.settleWriting (slot : Nat) (phase : Option AbandonPhase) (s : State) : State :=
  if phase = some .commitSent then s.reject slot .commitUnknown else s.moveRecord slot .writePending

/-- R10, R30, R191: an issued number is spoiled and the attempt counted; the second attempt rejects the record. -/
def State.spoilAttempt (slot : Nat) (s : State) : State :=
  let s1 := s.updRecord slot (fun r => { r.spoil with sealAttempts := r.sealAttempts + 1 })
  match s1.recordAt slot with
  | none => s1
  | some r => if 2 ≤ r.sealAttempts then s1.reject slot .sealFailed else s1.returnToPassed slot

/-- R10, R30: a record in SEALING is settled by the number it holds. -/
def State.settleSealing (slot : Nat) (s : State) : State :=
  match s.recordAt slot with
  | none => s
  | some r => if r.sealNumber.isSome then s.spoilAttempt slot else s.returnToPassed slot

/-- R10, R30: a record in WRITING or SEALING is settled; another keeps its state. -/
def State.settleRecord (slot : Nat) (phase : Option AbandonPhase) (s : State) : State :=
  match s.recordAt slot with
  | none => s
  | some r =>
    match r.state with
    | .writing => s.settleWriting slot phase
    | .sealing => s.settleSealing slot
    | .measuring | .writePending | .passed | .sealed | .rejected => s

/-! ### Binding (R8, R9, R10) -/

/-- R8: the record's position field and the position's bound slot are made absent as one change. -/
def State.unbind (slot p : Nat) (s : State) : State :=
  (s.updRecord slot (fun r => { r with position := none })).updPosition p (fun x => { x with bound := none })

/-- R8: the record's position field and the position's bound slot are set as one change. -/
def State.bind (h : Handle) (p : Nat) (s : State) : State :=
  (s.updRecord h.slot (fun r => { r with position := some p })).updPosition p (fun x => { x with bound := some h })

/-- R10, R172, R192: the outcomes of position p's abandoned lane work are discarded. -/
def State.discardOutcomes (p : Nat) (s : State) : State :=
  { s with inFlight := s.inFlight.filter (fun c => !isOutcomeOf p c) }

/-- R10: an orphan claim of position p is taken: both sides of the binding are absent, the record's work is withdrawn or
abandoned, and its state settled (log entries 9, 10). A record bound to another position is not of the claim. -/
def State.takeOrphan (p : Nat) (h : Handle) (phase : Option AbandonPhase) (s : State) : State :=
  match s.named h with
  | none => s
  | some r =>
    if r.position = none ∨ r.position = some p then
      (((s.withdrawWork p).discardOutcomes p).unbind h.slot p).settleRecord h.slot phase
    else s

/-- R9, R10, log entry 26: the orphan claim of a record, where it is on its way, is taken before the record is bound
again. -/
def State.settleOrphan (h : Handle) (s : State) : State :=
  match s.orphanOnWay h with
  | none => s
  | some (p, phase) =>
    ({ s with inFlight := s.inFlight.filter (fun c => !isOrphanFor h c) } : State).takeOrphan p h phase

/-! ### Positions that the Record Table answers -/

/-- R58: a position enters IDENTIFYING: the identity is discarded and IDENT queued in phase IDENT. -/
def State.enterIdentifying (p : Nat) (s : State) : State :=
  ((s.moveTo p .identifying).updPosition p (fun x => { x with phase := some .ident, identity := none })).queueItem p
    .ident

/-- R59 outcome 6, R66: phase IMAGE, with READ_IMAGE queued. -/
def State.enterImage (p : Nat) (s : State) : State :=
  (s.updPosition p (fun x => { x with phase := some .image })).queueItem p (.readImage 0 [])

/-- R59, R61, R66: a position goes to CONFLICT; serial and type code are kept, trims discarded. -/
def State.toConflict (p : Nat) (s : State) : State :=
  (s.moveTo p .conflict).updPosition p (fun x =>
    { x with phase := none, identity := x.identity.map (fun d => { d with image := none }) })

/-- R61, R66, R73: a position goes to BOUND; the identity is discarded and the held binding mark cleared. -/
def State.toBound (p : Nat) (s : State) : State :=
  (s.moveTo p .bound).updPosition p (fun x => { x with phase := none, identity := none, held := false })

/-- R61: a position with no slot free waits with its identity kept whole. -/
def State.toWaiting (p : Nat) (s : State) : State :=
  (s.moveTo p .waitingSlot).updPosition p (fun x => { x with phase := none })

/-- R9, R31, R129: the WRITE item of a record in WRITE_PENDING is queued as its binding is made or confirmed. -/
def State.resumeWrite (slot : Nat) (s : State) : State :=
  match s.recordAt slot with
  | none => s
  | some r => if r.state = .writePending then s.giveItem r (.write none) else s

/-- R9, R66: a rebind claim of position p for the record of a handle is taken. -/
def State.takeRebind (p : Nat) (h : Handle) (s : State) : State :=
  match s.named h with
  | none => s.enterImage p
  | some r =>
    if r.position = none then (((s.settleOrphan h).bind h p).toBound p).resumeWrite h.slot
    else s.toConflict p

/-! ### Creation (R1, R4, R6, R7, R61, R63) -/

/-- R7: the code of the profile that matches a creation claim. -/
def State.matchingCode (s : State) (d : Identity) (image : Unpacked) : Option Nat :=
  match s.codeOfType d.typeCode with
  | none => none
  | some c =>
    match s.profileAt c with
    | none => none
    | some pf =>
      if pf.imageLength = d.wordCount ∧ pf.trimSet = image.trims.map (fun t => (t.band, t.phase)) then some c else none

/-- R7: the record a creation claim makes. -/
def newRecord (slot admission code p : Nat) (d : Identity) (image : Unpacked) : Record :=
  { slot := slot, admission := admission, serial := d.serial, profile := code, state := .measuring
    position := some p
    trims := image.trims.map (fun t => ⟨t.band, t.phase, t.value, t.value⟩)
    results := List.replicate 24 Entry.empty
    rounds := 0, generation := 0, writeFailures := 0, sealAttempts := 0
    flags := { Flags.none with imageOdd := image.mismatch }
    spoiled := [], sealNumber := none, recordCheck := none, cause := none }

/-- R7, R41: the creation of a record in a slot. -/
def State.createRecord (slot code p : Nat) (d : Identity) (image : Unpacked) (s : State) : State :=
  let r := newRecord slot (s.admissions + 1) code p d image
  ((({ s with admissions := s.admissions + 1, records := s.records ++ [r] }).updPins code (· + 1)).bind
    ⟨slot, s.tag slot⟩ p).toBound p |>.raise .recordsChanged

/-- What a creation claim came to: the state, and whether a record was created. -/
structure Creation where
  state : State
  created : Bool

/-- R6, R7, R61: a creation claim is taken with the slot it would be placed in, none where no slot is free. -/
def State.takeCreation (slot : Option Nat) (p : Nat) (d : Identity) (image : Unpacked) (s : State) : Creation :=
  match s.matchingCode d image with
  | none => ⟨s.enterIdentifying p, false⟩
  | some code =>
    match s.recordOf d.serial with
    | some r =>
      if r.position = none then ⟨s.takeRebind p (s.handleOf r), false⟩ else ⟨s.toConflict p, false⟩
    | none =>
      match slot with
      | some n =>
        if s.admissions < Config.lastAdmission then ⟨s.createRecord n code p d image, true⟩
        else ⟨s.toWaiting p, false⟩
      | none => ⟨s.toWaiting p, false⟩

/-- R1, R63: a freed slot is handed down the positions in WAITING_SLOT, lowest first, until a record is created in
it. -/
def handSlot (slot : Nat) : List Nat → State → State
  | [], s => s
  | p :: ps, s =>
    match (s.position p).state, (s.position p).identity with
    | .waitingSlot, some d =>
      match d.image with
      | none => handSlot slot ps s
      | some image =>
        let c := s.takeCreation (some slot) p d image
        if c.created then c.state else handSlot slot ps c.state
    | _, _ => handSlot slot ps s

/-- R1, R4: a slot freed by RETIRE is handed at once, but not while the admission counter stands at its end. -/
def State.handFreed (slot : Nat) (s : State) : State :=
  if s.admissions < Config.lastAdmission then handSlot slot (places 48) s else s

end Sys2Proof.Machine
end

