-- ==== Sys2Proof/Machine/Verdicts.lean ====
section
/-! DEFINITION. Result and flag claims, verdicts, trim correction, confirmed writes and staleness (06). -/

namespace Sys2Proof.Machine

/-! ### The figures of a point for a record (R78) -/

/-- R78, R135: is a trim of the band of the point's current for the profile and of a phase the elements load? -/
def Trim.under (t : Trim) (pt : Point) (pf : Profile) : Bool :=
  decide (t.band = pf.bandOf pt.current) && pt.elements.loads t.phase

/-- R125: the correction of an ADJUSTED verdict. -/
def correctionOf (error : Int) (trimUnit : Nat) : Int := roundDiv (-error) trimUnit

/-- R126: a target clamped to its TRIM field. -/
def clampTrim (pf : Profile) (b : Band) (ph : Phase) (v : Int) : Int :=
  match trimWidth b ph pf.layout with
  | some w => clamp (trimMin w) (trimMax w) v
  | none => v

/-- R125, R126: a trim after the correction of a point. -/
def Trim.corrected (pt : Point) (pf : Profile) (c : Int) (t : Trim) : Trim :=
  if t.under pt pf then { t with target := clampTrim pf t.band t.phase (t.target + c) } else t

/-- R126: does the clamp change the corrected target of a trim? -/
def Trim.clamps (pt : Point) (pf : Profile) (c : Int) (t : Trim) : Bool :=
  t.under pt pf && decide (clampTrim pf t.band t.phase (t.target + c) ≠ t.target + c)

/-- R124, R127: does some target differ from its meter value? -/
def Record.differs (r : Record) : Bool := r.trims.any (fun t => decide (t.target ≠ t.meter))

/-! ### Verdicts -/

/-- R121, R122: a verdict on a DONE claim. -/
inductive Verdict where
  | pass | fail | outOfRange | adjustLimit | adjusted
deriving DecidableEq, Repr

/-- R121: the CHECK verdict. -/
def checkVerdict (tolerance : Nat) (e : Int) : Verdict := if e.natAbs ≤ tolerance then .pass else .fail

/-- R122: the ADJUST verdict. -/
def adjustVerdict (pf : Profile) (tolerance rounds : Nat) (e : Int) : Verdict :=
  if e.natAbs ≤ tolerance / 2 then .pass
  else if pf.adjustLimit < e.natAbs then .outOfRange
  else if rounds = pf.maxRounds then .adjustLimit
  else .adjusted

/-- R120: the verdict of a point's role. -/
def verdictOf (pt : Point) (pf : Profile) (rounds : Nat) (e : Int) : Verdict :=
  match pt.role with
  | .check => checkVerdict (pt.toleranceOf pf.accuracyClass) e
  | .adjust => adjustVerdict pf (pt.toleranceOf pf.accuracyClass) rounds e

/-- R121..R124: the entry status a verdict writes. -/
def Verdict.status : Verdict → EntryStatus
  | .pass => .pass
  | .fail | .outOfRange | .adjustLimit => .fail
  | .adjusted => .adjusted

/-- R124, steps 2 and 3: the record after the trim correction. -/
def Record.adjust (pt : Point) (pf : Profile) (e : Int) (r : Record) : Record :=
  let c := correctionOf e pf.trimUnit
  { r with
    trims := r.trims.map (Trim.corrected pt pf c)
    flags := { r.flags with trimLimit := r.flags.trimLimit || r.trims.any (Trim.clamps pt pf c) }
    rounds := r.rounds + 1 }

/-- R118, R123, R124: the consequence of a verdict after the entry is written. R130: the WRITE item is given also where
the record's orphan claim is on its way. -/
def State.verdictEffect (slot : Nat) (pt : Point) (pf : Profile) (e : Int) (v : Verdict) (s : State) : State :=
  match v with
  | .pass | .fail => s
  | .outOfRange => s.reject slot .outOfRange
  | .adjustLimit => s.reject slot .adjustLimit
  | .adjusted =>
    let s1 := s.updRecord slot (Record.adjust pt pf e)
    match s1.recordAt slot with
    | none => s1
    | some r => if r.differs then (s1.enterWritePending slot).giveGone r true else s1

/-! ### Claims of a comparator -/

/-- R16: may a result or flag claim be taken for a record? -/
def Record.measured (r : Record) : Bool := decide (r.state = .measuring) || decide (r.state = .passed)

/-- R119: the status a result claim without a verdict writes. -/
def ResultKind.status : ResultKind → EntryStatus
  | .done => .none
  | .noPulse => .noPulse
  | .incomplete => .incomplete
  | .glitch => .glitch
  | .refLost => .refLost

/-- R15: the entry a result claim writes. -/
def Result.entry (res : Result) (status : EntryStatus) (generation : Nat) : Entry :=
  { status := status, error := res.error, windows := res.windows, saturated := res.saturated, generation := generation }

/-- R118, R119: a result claim is taken for the record in a slot. -/
def State.writeResult (slot k : Nat) (r : Record) (res : Result) (s : State) : State :=
  match res.kind, res.error, s.pointAt k, s.profileAt r.profile with
  | .done, some e, some pt, some pf =>
    let v := verdictOf pt pf r.rounds e
    ((s.updRecord slot (Record.withEntry k (res.entry v.status r.generation))).verdictEffect slot pt pf e v).evaluate slot
  | .done, _, _, _ => s
  | .noPulse, _, _, _ | .incomplete, _, _, _ | .glitch, _, _, _ | .refLost, _, _, _ =>
    (s.updRecord slot (Record.withEntry k (res.entry res.kind.status r.generation))).evaluate slot

/-- R16, R118: a result claim is taken. -/
def State.takeResult (h : Handle) (k : Nat) (res : Result) (s : State) : State :=
  match s.named h with
  | none => s
  | some r => if r.measured then s.writeResult h.slot k r res else s

/-- R16: a flag claim is taken. -/
def State.takeFlag (h : Handle) (f : ClaimFlag) (s : State) : State :=
  match s.named h with
  | none => s
  | some r =>
    if r.measured then s.updRecord h.slot (fun r => { r with flags := r.flags.withClaimed f }) else s

/-- A comparator's claim is taken. -/
def State.takeComparatorClaim (c : Claim) (s : State) : State :=
  match c with
  | .flag _ h f => s.takeFlag h f
  | .result _ h k res => s.takeResult h k res
  | .creation _ _ _ | .rebind _ _ | .orphan _ _ _ | .finishing _ | .writeStart _ _ | .sealStart _ _ | .commitMatch _ _
  | .stageFailed _ _ | .commitMismatch _ _ | .commitUnknown _ _ | .locked _ _ _ _ | .refused _ _ | .noReply _ _
  | .refLoss => s

/-! ### A confirmed write (R169, R134, R135) -/

/-- R135: does entry k become STALE for the trims the claim names? -/
def State.staleAt (s : State) (pf : Profile) (changed : List Trim) (k : Nat) : Bool :=
  match s.pointAt k with
  | some pt => changed.any (fun t => t.under pt pf)
  | none => false

/-- R15, R135: an entry marked STALE; NONE stays NONE. -/
def Entry.stale (e : Entry) : Entry := if e.status = .none then e else { e with status := .stale }

/-- R135: the entries after the staleness marking, the entry at the head being of index k. -/
def markStale (marked : Nat → Bool) : Nat → List Entry → List Entry
  | _, [] => []
  | k, e :: es => (if marked k then e.stale else e) :: markStale marked (k + 1) es

/-- R169, R134: the record after a confirmed write, all but its state. -/
def Record.confirm (stale : Nat → Bool) (r : Record) : Record :=
  { r with
    trims := r.trims.map (fun t => { t with meter := t.target })
    generation := min 255 (r.generation + 1)
    flags := { r.flags with imageOdd := false }
    results := markStale stale 1 r.results }

/-- R134: the trims whose meter value a write of the record's targets changes. -/
def Record.changedTrims (r : Record) : List Trim := r.trims.filter (fun t => decide (t.target ≠ t.meter))

/-- R169: a confirmed write of the record in a slot. -/
def State.confirmWrite (slot : Nat) (r : Record) (s : State) : State :=
  let stale := match s.profileAt r.profile with
    | some pf => s.staleAt pf r.changedTrims
    | none => fun _ => false
  ((s.updRecord slot (Record.confirm stale)).moveRecord slot .measuring).evaluate slot

end Sys2Proof.Machine
end

