-- ==== Sys2Proof/Machine/ClaimCommands.lean ====
section
/-! DEFINITION. The claims the Record Table takes from positions and comparators: CREATION_CLAIM, REBIND_CLAIM,
ORPHAN_CLAIM, RESULT_CLAIM and FLAG_CLAIM. -/

namespace Sys2Proof.Machine

/-- A creation claim's contents. -/
def Claim.asCreation : Claim → Option (Identity × Unpacked)
  | .creation _ d image => some (d, image)
  | .rebind _ _ | .orphan _ _ _ | .flag _ _ _ | .result _ _ _ _ | .finishing _ | .writeStart _ _ | .sealStart _ _
  | .commitMatch _ _ | .stageFailed _ _ | .commitMismatch _ _ | .commitUnknown _ _ | .locked _ _ _ _ | .refused _ _
  | .noReply _ _ | .refLoss => none

/-- R1, R7: a creation claim of position p is taken, for the lowest free slot. -/
def State.creationTaken (p : Nat) (c : Identity × Unpacked) (s : State) : State :=
  (s.takeCreation s.freeSlots.head? p c.1 c.2).state.settle

/-- CREATION_CLAIM (R7). -/
def execCreationClaim (position : Nat) (s : State) : Host.Outcome State Fault Refusal :=
  onPosition position s (State.takeClaim (ofPosition position) Claim.asCreation (State.creationTaken position))

/-- A rebind claim's handle. -/
def Claim.asRebind : Claim → Option Handle
  | .rebind _ h => some h
  | .creation _ _ _ | .orphan _ _ _ | .flag _ _ _ | .result _ _ _ _ | .finishing _ | .writeStart _ _ | .sealStart _ _
  | .commitMatch _ _ | .stageFailed _ _ | .commitMismatch _ _ | .commitUnknown _ _ | .locked _ _ _ _ | .refused _ _
  | .noReply _ _ | .refLoss => none

/-- R9: a rebind claim of position p is taken. -/
def State.rebindTaken (p : Nat) (h : Handle) (s : State) : State := (s.takeRebind p h).settle

/-- REBIND_CLAIM (R9). -/
def execRebindClaim (position : Nat) (s : State) : Host.Outcome State Fault Refusal :=
  onPosition position s (State.takeClaim (ofPosition position) Claim.asRebind (State.rebindTaken position))

/-- An orphan claim's handle and phase. -/
def Claim.asOrphan : Claim → Option (Handle × Option AbandonPhase)
  | .orphan _ h ph => some (h, ph)
  | .creation _ _ _ | .rebind _ _ | .flag _ _ _ | .result _ _ _ _ | .finishing _ | .writeStart _ _ | .sealStart _ _
  | .commitMatch _ _ | .stageFailed _ _ | .commitMismatch _ _ | .commitUnknown _ _ | .locked _ _ _ _ | .refused _ _
  | .noReply _ _ | .refLoss => none

/-- R10: an orphan claim of position p is taken. -/
def State.orphanTaken (p : Nat) (c : Handle × Option AbandonPhase) (s : State) : State := s.takeOrphan p c.1 c.2

/-- ORPHAN_CLAIM (R10). -/
def execOrphanClaim (position : Nat) (s : State) : Host.Outcome State Fault Refusal :=
  onPosition position s (State.takeClaim (ofPosition position) Claim.asOrphan (State.orphanTaken position))

/-- A result claim's contents. -/
def Claim.asResult : Claim → Option (Handle × Nat × Result)
  | .result _ h k res => some (h, k, res)
  | .creation _ _ _ | .rebind _ _ | .orphan _ _ _ | .flag _ _ _ | .finishing _ | .writeStart _ _ | .sealStart _ _
  | .commitMatch _ _ | .stageFailed _ _ | .commitMismatch _ _ | .commitUnknown _ _ | .locked _ _ _ _ | .refused _ _
  | .noReply _ _ | .refLoss => none

/-- R118: a result claim is taken. -/
def State.resultTaken (c : Handle × Nat × Result) (s : State) : State := (s.takeResult c.1 c.2.1 c.2.2).settle

/-- RESULT_CLAIM (R118). -/
def execResultClaim (position : Nat) (s : State) : Host.Outcome State Fault Refusal :=
  onPosition position s (State.takeClaim (ofComparator position) Claim.asResult State.resultTaken)

/-- A flag claim's handle and flag. -/
def Claim.asFlag : Claim → Option (Handle × ClaimFlag)
  | .flag _ h f => some (h, f)
  | .creation _ _ _ | .rebind _ _ | .orphan _ _ _ | .result _ _ _ _ | .finishing _ | .writeStart _ _ | .sealStart _ _
  | .commitMatch _ _ | .stageFailed _ _ | .commitMismatch _ _ | .commitUnknown _ _ | .locked _ _ _ _ | .refused _ _
  | .noReply _ _ | .refLoss => none

/-- R16: a flag claim is taken. -/
def State.flagTaken (c : Handle × ClaimFlag) (s : State) : State := s.takeFlag c.1 c.2

/-- FLAG_CLAIM (R16). -/
def execFlagClaim (position : Nat) (s : State) : Host.Outcome State Fault Refusal :=
  onPosition position s (State.takeClaim (ofComparator position) Claim.asFlag State.flagTaken)

end Sys2Proof.Machine
end

