-- ==== Sys2Proof/Machine/Replies.lean ====
section
/-! DEFINITION. What ends a lane turn: accepted replies, misses and failures, and what the position makes of them (03,
08). -/

namespace Sys2Proof.Machine

/-! ### The position's decisions (R59, R60, R62, R73) -/

/-- R59: the IDENT reply of position p, its identity stored, is decided. -/
def State.decideIdent (p : Nat) (d : Identity) (s : State) : State :=
  let unknown := (s.moveTo p .unknownType).updPosition p (fun x => { x with phase := none })
  match (s.codeOfType d.typeCode).bind s.profileAt with
  | none => unknown
  | some pf =>
    if pf.imageLength ≠ d.wordCount then unknown
    else
      match s.recordOf d.serial with
      | none => s.enterImage p
      | some r =>
        match r.position with
        | some q => if q = p then s.enterImage p else s.toConflict p
        | none =>
          if (s.profileAt r.profile).map (·.typeCode) = some d.typeCode then s.send (.rebind p (s.handleOf r))
          else s.toConflict p

/-- R73: does the reply confirm the held binding of a record? -/
def State.confirms (s : State) (d : Identity) (r : Record) : Bool :=
  decide (r.serial = d.serial) && decide ((s.profileAt r.profile).map (·.typeCode) = some d.typeCode)

/-- R73: the held binding is released: the orphan claim is taken, and the held binding mark cleared. -/
def State.releaseHeld (p : Nat) (h : Handle) (s : State) : State :=
  (s.takeOrphan p h none).updPosition p (fun x => { x with bound := none, held := false })

/-- R58, R59, R73: the position takes the IDENT reply. -/
def State.identReplied (p : Nat) (d : Identity) (s : State) : State :=
  let s1 := s.updPosition p (fun x => { x with identity := some d })
  match (s.position p).held, (s.position p).bound with
  | true, some h =>
    match s.named h with
    | some r =>
      if s.confirms d r then (s1.toBound p).resumeWrite h.slot else (s1.releaseHeld p h).decideIdent p d
    | none => (s1.releaseHeld p h).decideIdent p d
  | _, _ => s1.decideIdent p d

/-- R60: the position takes the image words of READ_IMAGE. -/
def State.imageRead (p : Nat) (words : List Word) (s : State) : State :=
  let again := (s.updPosition p (fun x => { x with phase := some .ident })).queueItem p .ident
  match (s.position p).identity with
  | none => again
  | some d =>
    match (s.codeOfType d.typeCode).bind s.profileAt with
    | none => again
    | some pf =>
      if pf.imageLength = d.wordCount then
        let image := unpack pf.layout pf.trimSet words
        (s.updPosition p (fun x => { x with identity := some { d with image := some image } })).send
          (.creation p { d with image := some image } image)
      else again

/-- R62, R73: identification fails, and the position goes to FAULT; a held binding is released. -/
def State.identFault (p : Nat) (s : State) : State :=
  let s1 := match (s.position p).held, (s.position p).bound with
    | true, some h => s.releaseHeld p h
    | _, _ => s
  (s1.moveTo p .fault).updPosition p (fun x => { x with phase := none })

/-! ### Misses and failures (R159, R165, R167, R168, R173) -/

/-- The handle an outcome of position p names. -/
def Position.outcomeHandle (x : Position) : Handle := x.bound.getD ⟨0, 0#8⟩

/-- R159: position p's item fails. -/
def State.failItem (p : Nat) (w : Work) (s : State) : State :=
  let h := (s.position p).outcomeHandle
  let s1 := s.endItem p
  match w with
  | .ident | .readImage _ _ => s1.identFault p
  | .write (some t) =>
    match t.phase with
    | .stage => s1.send (.stageFailed p h)
    | .commit => s1.send (.commitUnknown p h)
  | .write none => s1.send (.stageFailed p h)
  | .sealLock _ => s1.send (.noReply p h)

/-- R159: an attempt without progress is counted against the retry limit as it stands. -/
def State.countAttempt (p : Nat) (i : Item) (s : State) : State :=
  if s.port.bench.retryLimit < i.attempts + 1 then s.failItem p i.work
  else s.keepItem p { i with attempts := i.attempts + 1 }

/-- R161, R165: a work item's contents after a miss: a STAGE transfer is rewound. -/
def Work.afterMiss : Work → Work
  | .write (some t) =>
    match t.phase with
    | .stage => .write (some { t with sendOffset := t.confirmed })
    | .commit => .write (some t)
  | .ident => .ident
  | .readImage off ws => .readImage off ws
  | .write none => .write none
  | .sealLock k => .sealLock k

/-- R158, R160: position p's turn, already ended, was a miss. -/
def State.miss (p : Nat) (i : Item) (s : State) : State := s.countAttempt p { i with work := i.work.afterMiss }

/-! ### Accepted replies (R157) -/

/-- R156, R157: is a reply of an accepted kind for the turn's last frame? -/
def Work.accepts (w : Work) (r : Reply) : Bool :=
  match w, r with
  | .ident, .identReply _ _ _ => true
  | .readImage _ _, .imageWords _ _ _ => true
  | .write (some t), .staged _ => decide (t.phase = .stage)
  | .write (some t), .committed _ => decide (t.phase = .commit)
  | .sealLock (some _), .locked _ => true
  | .sealLock (some _), .refused => true
  | _, _ => false

/-- R157: do the reply's fields lie in the ranges of its kind? -/
def Work.inRange (w : Work) (wordCount : Nat) (r : Reply) : Bool :=
  match w, r with
  | .ident, .identReply serial tc n => serialOk serial && decide (tc ≠ 0 ∧ tc ≠ 0xFFFF) && within 16 n
  | .readImage off _, .imageWords o n _ => decide (o = off) && decide (n = readCount wordCount off)
  | .write (some t), .staged h => decide (h ≤ t.length)
  | _, _ => true

/-- R161: an accepted IMAGE_WORDS. -/
def State.wordsRead (p : Nat) (i : Item) (off : Nat) (got new : List Word) (n : Nat) (s : State) : State :=
  if off + n = (s.position p).wordCount then (s.endItem p).imageRead p (got ++ new)
  else s.keepItem p { i with work := .readImage (off + n) (got ++ new), attempts := 0 }

/-- R165: an accepted STAGED with high-water offset h. -/
def State.stagedReply (p : Nat) (i : Item) (t : Transfer) (h : Nat) (s : State) : State :=
  if t.confirmed < h then
    s.keepItem p { i with
      work := .write (some { t with confirmed := h, sendOffset := h
                                    phase := if h = t.length then .commit else .stage })
      attempts := 0 }
  else s.countAttempt p { i with work := .write (some { t with sendOffset := t.confirmed }) }

/-- R157: an accepted reply in range, the turn already ended, is taken by the item's kind. -/
def State.takeReply (p : Nat) (i : Item) (r : Reply) (s : State) : State :=
  let h := (s.position p).outcomeHandle
  match i.work, r with
  | .ident, .identReply serial tc n =>
    (s.endItem p).identReplied p { serial := serial, typeCode := tc, wordCount := n, image := none }
  | .readImage off got, .imageWords _ n new => s.wordsRead p i off got new n
  | .write (some t), .staged hw => s.stagedReply p i t hw
  | .write (some t), .committed c =>
    (s.endItem p).send (if c = t.imageCheck then .commitMatch p h else .commitMismatch p h)
  | .sealLock (some k), .locked c => (s.endItem p).send (.locked p h c k.recordCheck)
  | .sealLock (some _), .refused => (s.endItem p).send (.refused p h)
  | _, _ => s

/-- R157: is the frame the reply of the turn of position p on lane l? -/
def ReplyFrame.answers (f : ReplyFrame) (p : Nat) (mark : Byte) (w : Work) : Bool :=
  decide (f.address = probeAddress p) && decide (f.mark = mark) && w.accepts f.reply

/-- R157: a frame arrives on lane l. -/
def State.receive (l : Nat) (bytes : List Byte) (s : State) : State :=
  match (s.lane l).state, readFrame bytes with
  | .awaitReply p, some f =>
    match (s.position p).item with
    | none => s
    | some i =>
      if f.answers p (s.lane l).mark i.work then
        let s1 := s.endTurn l
        if i.work.inRange (s.position p).wordCount f.reply then (s1.takeReply p i f.reply).settle
        else (s1.miss p i).settle
      else s
  | _, _ => s

/-- R158: the reply timer of lane l runs out. -/
def State.replyTimeout (l : Nat) (s : State) : State :=
  match (s.lane l).state with
  | .awaitReply p =>
    match (s.position p).item with
    | none => s
    | some i => ((s.endTurn l).miss p i).settle
  | .idle | .granted _ => s

/-- R152, R156: the last frame of lane l's turn has been sent. -/
def State.sendDone (l : Nat) (s : State) : State :=
  match (s.lane l).state with
  | .granted p =>
    if (s.lane l).frames = [] then s
    else s.updLane l (fun x => { x with state := .awaitReply p, timer := some s.port.bench.replyTimeout })
  | .idle | .awaitReply _ => s

end Sys2Proof.Machine
end

