-- ==== Sys2Proof/Machine/LaneCommands.lean ====
section
/-! DEFINITION. LANE_SEND_DONE, PROBE_FRAME_RECEIVED and LANE_REPLY_TIMEOUT. -/

namespace Sys2Proof.Machine

/-- LANE_SEND_DONE (R156). -/
def execLaneSendDone (lane : Nat) (s : State) : Host.Outcome State Fault Refusal := onLane lane s (State.sendDone lane)

/-- PROBE_FRAME_RECEIVED (R157). -/
def execProbeFrameReceived (lane : Nat) (bytes : List Byte) (s : State) : Host.Outcome State Fault Refusal :=
  onLane lane s (State.receive lane bytes)

/-- LANE_REPLY_TIMEOUT (R158). -/
def execLaneReplyTimeout (lane : Nat) (s : State) : Host.Outcome State Fault Refusal :=
  onLane lane s (State.replyTimeout lane)

end Sys2Proof.Machine
end

