-- ==== Sys2Proof/Machine/OutcomeCommands.lean ====
section
/-! DEFINITION. The start claims and outcomes of lane work that the Record Table takes: WRITE_START_CLAIM,
SEAL_START_CLAIM and the six outcomes (08, 09). -/

namespace Sys2Proof.Machine

/-! ### Start claims (R144, R155, R188) -/

/-- A write start claim's handle. -/
def Claim.asWriteStart : Claim → Option Handle
  | .writeStart _ h => some h
  | .creation _ _ _ | .rebind _ _ | .orphan _ _ _ | .flag _ _ _ | .result _ _ _ _ | .finishing _ | .sealStart _ _
  | .commitMatch _ _ | .stageFailed _ _ | .commitMismatch _ _ | .commitUnknown _ _ | .locked _ _ _ _ | .refused _ _
  | .noReply _ _ | .refLoss => none

/-- The value of a trim of a record, by band and phase. -/
def trimValue (value : Trim → Int) (trims : List Trim) (b : Band) (ph : Phase) : Int :=
  match trims with
  | [] => 0
  | t :: ts => if t.band = b ∧ t.phase = ph then value t else trimValue value ts b ph

/-- R144: the words of a record's targets. -/
def packTargets (pf : Profile) (r : Record) : List Word := pack pf (trimValue (·.target) r.trims)

/-- R149, R150: the words of a record's meter values. -/
def packMeters (pf : Profile) (r : Record) : List Word := pack pf (trimValue (·.meter) r.trims)

/-- R144, R163: the transfer a start claim opens. -/
def newTransfer (pf : Profile) (r : Record) : Transfer :=
  { snapshot := packTargets pf r, imageCheck := imageCheckOf (packTargets pf r), length := pf.imageLength
    sendOffset := 0, confirmed := 0, phase := .stage, commitSent := false }

/-- The work of position p's item is set. -/
def State.setWork (p : Nat) (w : Work) (s : State) : State :=
  s.updPosition p (fun x => { x with item := x.item.map (fun i => { i with work := w }) })

/-- R155: the write start claim of position p is taken: the record goes to WRITING and the turn is sent, or the grant is
void. -/
def State.writeStartTaken (p : Nat) (h : Handle) (s : State) : State :=
  let declined := (s.voidGrant p).settle
  match s.named h with
  | none => declined
  | some r =>
    match s.profileAt r.profile with
    | none => declined
    | some pf =>
      if r.state = .writePending ∧ r.position = some p then
        ((s.moveRecord h.slot .writing).setWork p (.write (some (newTransfer pf r)))).sendTurn (laneOf p) p
      else declined

/-- WRITE_START_CLAIM (R155). -/
def execWriteStartClaim (position : Nat) (s : State) : Host.Outcome State Fault Refusal :=
  onPosition position s (State.takeClaim (ofLaneWork position) Claim.asWriteStart (State.writeStartTaken position))

/-- A seal start claim's handle. -/
def Claim.asSealStart : Claim → Option Handle
  | .sealStart _ h => some h
  | .creation _ _ _ | .rebind _ _ | .orphan _ _ _ | .flag _ _ _ | .result _ _ _ _ | .finishing _ | .writeStart _ _
  | .commitMatch _ _ | .stageFailed _ _ | .commitMismatch _ _ | .commitUnknown _ _ | .locked _ _ _ _ | .refused _ _
  | .noReply _ _ | .refLoss => none

/-- R188: a number is issued to the record of a slot, and the lock proceeds. -/
def State.startLock (p slot : Nat) (pf : Profile) (r : Record) (s : State) : State :=
  let n := s.seals.next
  let lock : Lock := { number := n, recordCheck := recordCheckOf r.serial (packMeters pf r) n }
  ((s.issueSeal.updRecord slot (fun x => { x with sealNumber := some n })).setWork p (.sealLock (some lock))).sendTurn
    (laneOf p) p

/-- R188: the seal start claim of position p is taken. -/
def State.sealStartTaken (p : Nat) (h : Handle) (s : State) : State :=
  let declined := (s.voidGrant p).settle
  match s.named h with
  | none => declined
  | some r =>
    match s.profileAt r.profile with
    | none => declined
    | some pf =>
      if r.state = .sealing ∧ r.position = some p then
        if s.passedCondition r = false then ((s.voidGrant p).returnToPassed h.slot).settle
        else if s.seals.remaining = 0 then
          (((s.voidGrant p).returnToPassed h.slot).raise .sealsExhausted).settle
        else s.startLock p h.slot pf r
      else declined

/-- SEAL_START_CLAIM (R188). -/
def execSealStartClaim (position : Nat) (s : State) : Host.Outcome State Fault Refusal :=
  onPosition position s (State.takeClaim (ofLaneWork position) Claim.asSealStart (State.sealStartTaken position))

/-! ### Write outcomes (R169..R172) -/

/-- R65, R172: does a record's lane work at position p count? It does while the record is bound there, and while the
orphan claim of p for it is on its way: either of the claim and the outcome may be taken first. -/
def State.worksAt (s : State) (r : Record) (p : Nat) : Bool :=
  match r.position with
  | some q => q == p
  | none => (s.orphanOnWay (s.handleOf r)).any (fun c => c.1 == p)

/-- R172: a write outcome of position p is taken for a record in WRITING with its work at p, and discarded otherwise. -/
def State.onWriting (p : Nat) (h : Handle) (f : Record → State → State) (s : State) : State :=
  match s.named h with
  | none => s
  | some r => if r.state = .writing ∧ s.worksAt r p = true then (f r s).settle else s

/-- A COMMIT_MATCH outcome's handle. -/
def Claim.asCommitMatch : Claim → Option Handle
  | .commitMatch _ h => some h
  | .creation _ _ _ | .rebind _ _ | .orphan _ _ _ | .flag _ _ _ | .result _ _ _ _ | .finishing _ | .writeStart _ _
  | .sealStart _ _ | .stageFailed _ _ | .commitMismatch _ _ | .commitUnknown _ _ | .locked _ _ _ _ | .refused _ _
  | .noReply _ _ | .refLoss => none

/-- R169: COMMIT_MATCH is taken. -/
def State.commitMatched (p : Nat) (h : Handle) (s : State) : State := s.onWriting p h (State.confirmWrite h.slot)

/-- COMMIT_MATCH_OUTCOME (R169). -/
def execCommitMatchOutcome (position : Nat) (s : State) : Host.Outcome State Fault Refusal :=
  onPosition position s (State.takeClaim (ofLaneWork position) Claim.asCommitMatch (State.commitMatched position))

/-- A STAGE_FAILED outcome's handle. -/
def Claim.asStageFailed : Claim → Option Handle
  | .stageFailed _ h => some h
  | .creation _ _ _ | .rebind _ _ | .orphan _ _ _ | .flag _ _ _ | .result _ _ _ _ | .finishing _ | .writeStart _ _
  | .sealStart _ _ | .commitMatch _ _ | .commitMismatch _ _ | .commitUnknown _ _ | .locked _ _ _ _ | .refused _ _
  | .noReply _ _ | .refLoss => none

/-- R170: the second stage failure rejects the record; the first gives its position a new WRITE item. -/
def State.failStage (slot : Nat) (r : Record) (s : State) : State :=
  let s1 := s.updRecord slot (fun x => { x with writeFailures := x.writeFailures + 1 })
  if 2 ≤ r.writeFailures + 1 then s1.reject slot .writeFailed else s1.enterWritePending slot

/-- R170: STAGE_FAILED is taken. -/
def State.stageFailedTaken (p : Nat) (h : Handle) (s : State) : State := s.onWriting p h (State.failStage h.slot)

/-- STAGE_FAILED_OUTCOME (R170). -/
def execStageFailedOutcome (position : Nat) (s : State) : Host.Outcome State Fault Refusal :=
  onPosition position s (State.takeClaim (ofLaneWork position) Claim.asStageFailed (State.stageFailedTaken position))

/-- A failed commit's handle and reject cause. -/
def Claim.asCommitFail : Claim → Option (Handle × RejectCause)
  | .commitMismatch _ h => some (h, .commitMismatch)
  | .commitUnknown _ h => some (h, .commitUnknown)
  | .creation _ _ _ | .rebind _ _ | .orphan _ _ _ | .flag _ _ _ | .result _ _ _ _ | .finishing _ | .writeStart _ _
  | .sealStart _ _ | .commitMatch _ _ | .stageFailed _ _ | .locked _ _ _ _ | .refused _ _ | .noReply _ _
  | .refLoss => none

/-- R171: COMMIT_MISMATCH or COMMIT_UNKNOWN is taken. -/
def State.commitFailed (p : Nat) (c : Handle × RejectCause) (s : State) : State :=
  s.onWriting p c.1 (fun _ t => t.reject c.1.slot c.2)

/-- COMMIT_FAIL_OUTCOME (R171). -/
def execCommitFailOutcome (position : Nat) (s : State) : Host.Outcome State Fault Refusal :=
  onPosition position s (State.takeClaim (ofLaneWork position) Claim.asCommitFail (State.commitFailed position))

/-! ### Lock outcomes (R189..R192) -/

/-- R192: a lock outcome of position p is taken for a record in SEALING with its work at p that holds a seal number,
and discarded otherwise. -/
def State.onLock (p : Nat) (h : Handle) (f : State → State) (s : State) : State :=
  match s.named h with
  | none => s
  | some r =>
    if r.state = .sealing ∧ r.sealNumber.isSome = true ∧ s.worksAt r p = true then (f s).settle else s

/-- A LOCKED outcome's handle, reply check and sent check. -/
def Claim.asLocked : Claim → Option (Handle × Check × Check)
  | .locked _ h reply sent => some (h, reply, sent)
  | .creation _ _ _ | .rebind _ _ | .orphan _ _ _ | .flag _ _ _ | .result _ _ _ _ | .finishing _ | .writeStart _ _
  | .sealStart _ _ | .commitMatch _ _ | .stageFailed _ _ | .commitMismatch _ _ | .commitUnknown _ _ | .refused _ _
  | .noReply _ _ | .refLoss => none

/-- R189: the record is sealed with the check its lock carried. -/
def State.sealRecord (slot : Nat) (sent : Check) (s : State) : State :=
  (s.updRecord slot (fun r => { r with recordCheck := some sent })).moveRecord slot .sealed

/-- R189, R190: the number is spoiled and the record rejected. -/
def State.spoilReject (slot : Nat) (cause : RejectCause) (s : State) : State :=
  (s.updRecord slot Record.spoil).reject slot cause

/-- R189: LOCKED is taken. -/
def State.lockedTaken (p : Nat) (c : Handle × Check × Check) (s : State) : State :=
  s.onLock p c.1 (fun t =>
    if c.2.1 = c.2.2 then t.sealRecord c.1.slot c.2.2 else t.spoilReject c.1.slot .sealMismatch)

/-- LOCKED_OUTCOME (R189). -/
def execLockedOutcome (position : Nat) (s : State) : Host.Outcome State Fault Refusal :=
  onPosition position s (State.takeClaim (ofLaneWork position) Claim.asLocked (State.lockedTaken position))

/-- A REFUSED outcome's handle. -/
def Claim.asRefused : Claim → Option Handle
  | .refused _ h => some h
  | .creation _ _ _ | .rebind _ _ | .orphan _ _ _ | .flag _ _ _ | .result _ _ _ _ | .finishing _ | .writeStart _ _
  | .sealStart _ _ | .commitMatch _ _ | .stageFailed _ _ | .commitMismatch _ _ | .commitUnknown _ _ | .locked _ _ _ _
  | .noReply _ _ | .refLoss => none

/-- R190: REFUSED is taken. -/
def State.refusedTaken (p : Nat) (h : Handle) (s : State) : State :=
  s.onLock p h (fun t => t.spoilReject h.slot .sealRefused)

/-- REFUSED_OUTCOME (R190). -/
def execRefusedOutcome (position : Nat) (s : State) : Host.Outcome State Fault Refusal :=
  onPosition position s (State.takeClaim (ofLaneWork position) Claim.asRefused (State.refusedTaken position))

/-- A NO_REPLY outcome's handle. -/
def Claim.asNoReply : Claim → Option Handle
  | .noReply _ h => some h
  | .creation _ _ _ | .rebind _ _ | .orphan _ _ _ | .flag _ _ _ | .result _ _ _ _ | .finishing _ | .writeStart _ _
  | .sealStart _ _ | .commitMatch _ _ | .stageFailed _ _ | .commitMismatch _ _ | .commitUnknown _ _ | .locked _ _ _ _
  | .refused _ _ | .refLoss => none

/-- R191: NO_REPLY is taken. -/
def State.noReplyTaken (p : Nat) (h : Handle) (s : State) : State := s.onLock p h (State.spoilAttempt h.slot)

/-- NO_REPLY_OUTCOME (R191). -/
def execNoReplyOutcome (position : Nat) (s : State) : Host.Outcome State Fault Refusal :=
  onPosition position s (State.takeClaim (ofLaneWork position) Claim.asNoReply (State.noReplyTaken position))

end Sys2Proof.Machine
end

