-- ==== Sys2Proof/Machine/Comparators.lean ====
section
/-! DEFINITION. The comparators: edges, windows and results (05). -/

namespace Sys2Proof.Machine

/-! ### Arithmetic -/

/-- R110: the window error in ppm for a counted value above 0. -/
def windowError (n kref kmeter c : Nat) : Int :=
  roundDiv (((n * kref : Nat) - (c * kmeter : Nat) : Int) * 1000000) (c * kmeter)

/-- R111: the guard clamp. -/
def guardClamp (e : Int) : Int := clamp (-Config.guardLimit) Config.guardLimit e

/-- R113: the clamp of a mean to the stored range. -/
def storedClamp (m : Int) : Int := clamp (-Config.storedLimit) Config.storedLimit m

/-- R113, R115: a result with the mean of the windows completed. -/
def meanResult (kind : ResultKind) (acc : Int) (windows : Nat) : Result :=
  let mean := truncDiv acc windows
  { kind := kind, error := some (storedClamp mean), windows := windows, saturated := decide (storedClamp mean ≠ mean) }

/-- R119: a result without an error. -/
def bareResult (kind : ResultKind) (windows : Nat) : Result :=
  { kind := kind, error := none, windows := windows, saturated := false }

/-- R113, R115: the claims of a result of position p: the SATURATED flag claim first where it is saturated. -/
def resultClaims (p : Nat) (h : Handle) (k : Nat) (res : Result) : List Claim :=
  (if res.saturated then [Claim.flag p h .saturated] else []) ++ [Claim.result p h k res]

/-! ### An accepted edge (R107, R108, R109, R113) -/

/-- R109: the counted value of a window. -/
def countedValue (start capture : Word) : Nat := (capture - start).toNat

/-- The comparator after an accepted edge, and the claims it sends. -/
structure Counted where
  cmp : Comparator
  claims : List Claim
deriving DecidableEq, Repr

/-- R108, R109, R113: the edge that ends a window. -/
def endWindow (p : Nat) (h : Handle) (k : Nat) (pr : PointParams) (x : Comparator) (start capture : Word) : Counted :=
  let c := countedValue start capture
  let x1 := { x with edge := none, count := pr.pulses }
  if c = 0 then
    { cmp := { x1 with state := .done }, claims := [.result p h k (bareResult .refLost 0), .finishing p] }
  else
    let acc := x.acc + guardClamp (windowError pr.pulses pr.kref pr.kmeter c)
    let x2 := { x1 with windows := x.windows + 1, acc := acc }
    if x.windows + 1 = pr.windows then
      { cmp := { x2 with state := .done }
        claims := resultClaims p h k (meanResult .done acc pr.windows) ++ [.finishing p] }
    else { cmp := { x2 with start := some capture, count := 0 }, claims := [] }

/-- R107, R108: the edge under test is accepted. -/
def acceptEdge (p : Nat) (x : Comparator) : Counted :=
  match x.state, x.edge, x.params, x.handle, x.index with
  | .armed, some e, some _, some _, some _ =>
    { cmp := { x with state := .counting, start := some e.capture, edge := none, count := 0, windows := 0, acc := 0 }
      claims := [] }
  | .counting, some e, some pr, some h, some k =>
    match x.start with
    | none => ⟨x, []⟩
    | some st =>
      if x.count + 1 = pr.pulses then endWindow p h k pr x st e.capture
      else { cmp := { x with edge := none, count := x.count + 1 }, claims := [] }
  | _, _, _, _, _ => ⟨x, []⟩

/-- R104, R105: the edge under test is a glitch. -/
def glitchEdge (p : Nat) (x : Comparator) : Counted :=
  match x.params, x.handle, x.index with
  | some pr, some h, some k =>
    match pr.policy with
    | .stall =>
      { cmp := { x with state := .stalled, edge := none }
        claims := [.flag p h .glitch, .result p h k (bareResult .glitch x.windows), .finishing p] }
    | .ignore => { cmp := { x with edge := none }, claims := [.flag p h .glitch] }
  | _, _, _ => ⟨x, []⟩

/-- R100: are meter edges tested in this state? -/
def ComparatorState.tests : ComparatorState → Bool
  | .armed | .counting => true
  | .idle | .stalled | .done => false

/-- R102, R103: an active edge arrives and comes under test with the capture of the counter. -/
def activeEdge (counter : Word) (transition : PulseEdge) (time : Nat) (x : Comparator) : Comparator :=
  match x.params with
  | some pr =>
    if x.state.tests = true ∧ transition = pr.edge then { x with edge := some ⟨counter, time⟩ } else x
  | none => x

/-- R102: an opposite edge arrives. -/
def oppositeEdge (p : Nat) (transition : PulseEdge) (time : Nat) (x : Comparator) : Counted :=
  match x.params, x.edge with
  | some pr, some e =>
    if x.state.tests = true ∧ transition ≠ pr.edge then
      if time - e.arrival < pr.minWidth then glitchEdge p x else acceptEdge p x
    else ⟨x, []⟩
  | _, _ => ⟨x, []⟩

/-- R102: the test of the edge under test ends. -/
def testEnd (p : Nat) (x : Comparator) : Counted := if x.state.tests then acceptEdge p x else ⟨x, []⟩

/-- A comparator's change with the claims it sends, in the order it sends them. -/
def State.count (p : Nat) (f : Comparator → Counted) (s : State) : State :=
  let c := f (s.position p).cmp
  { s.updCmp p (fun _ => c.cmp) with inFlight := s.inFlight ++ c.claims }

/-! ### Arming and closing (R101, R115) -/

/-- R101: the comparator after arming. -/
def armedComparator (h : Handle) (k : Nat) (pt : Point) (pf : Profile) (kref : Nat) : Comparator :=
  { state := .armed, handle := some h, index := some k
    params := some { pulses := pt.pulses, windows := pt.windows, edge := pf.pulseEdge, minWidth := pf.minWidth
                     policy := pf.glitchPolicy, kmeter := pf.kmeter, kref := kref }
    edge := none, start := none, count := 0, windows := 0, acc := 0 }

/-- R115: the closing result of a comparator at an end by COMPLETE, ENDED or TIMED_OUT. -/
def closingResult (x : Comparator) : Option Result :=
  match x.state with
  | .armed => some (bareResult .noPulse 0)
  | .counting => some (if x.windows = 0 then bareResult .incomplete 0 else meanResult .incomplete x.acc x.windows)
  | .idle | .stalled | .done => none

/-- R92, R115: the closing result of a comparator at an end by reference loss. -/
def lossResult (x : Comparator) : Option Result := if x.state.tests then some (bareResult .refLost 0) else none

/-- R115: the claims of position p's closing result, where it gives one. -/
def closingClaims (result : Comparator → Option Result) (p : Nat) (x : Comparator) : List Claim :=
  match result x, x.handle, x.index with
  | some res, some h, some k => resultClaims p h k res
  | _, _, _ => []

end Sys2Proof.Machine
end

