-- ==== Sys2Proof/Machine/Points.lean ====
section
/-! DEFINITION. The sequencer: arming, the ends of a point, the reference watchdog (04, 05). -/

namespace Sys2Proof.Machine

/-! ### The reference watchdog (R97) -/

/-- R97: the watchdog time after an advance of 1 ms. -/
def RefUnit.advanced (u : RefUnit) : RefUnit := { u with watchdog := min Config.watchdogLimit (u.watchdog + 1) }

/-- R97: the comparison of the watchdog time with the reference timeout. -/
def State.compareWatchdog (s : State) : State :=
  if s.seq.running.isSome = true ∧ s.ref.lossReported = false ∧ s.port.bench.refTimeout ≤ s.ref.watchdog then
    ({ s with ref := { s.ref with lossReported := true } }).send .refLoss
  else s

/-! ### Arming (R85) -/

/-- R17: does a record in this state take part in a point of this role? -/
def RecordState.takesPart (role : Role) : RecordState → Bool
  | .measuring => true
  | .passed => decide (role = .check)
  | .writePending | .writing | .sealing | .sealed | .rejected => false

/-- R85: the comparator that START_POINT k arms at position p, where p meets the four conditions. -/
def State.armingOf (s : State) (k p : Nat) : Option Comparator :=
  let x := s.position p
  match x.bound with
  | none => none
  | some h =>
    match s.named h with
    | none => none
    | some r =>
      match s.pointAt k, s.profileAt r.profile with
      | some pt, some pf =>
        if x.state = .bound ∧ r.state.takesPart pt.role = true ∧ s.applies k r = true ∧ x.cmp.state = .idle then
          some (armedComparator h k pt pf s.ref.kref)
        else none
      | _, _ => none

/-- R85: the positions that START_POINT k arms. -/
def State.armable (s : State) (k : Nat) : List Nat := (places 48).filter (fun p => (s.armingOf k p).isSome)

/-- The comparators of the bench, each changed with its position number. -/
def State.mapCmps (f : Nat → Comparator → Comparator) (s : State) : State :=
  { s with positions := s.positions.mapIdx (fun i x => { x with cmp := f (i + 1) x.cmp }) }

/-- R85: the comparators are armed as the positions and records stand when the request is taken. -/
def State.arm (k : Nat) (s : State) : State := s.mapCmps (fun p c => (s.armingOf k p).getD c)

/-! ### The end of a point (R89, R91, R92) -/

/-- Claims of comparators are taken in order. -/
def takeAll (cs : List Claim) (s : State) : State := cs.foldl (fun t c => t.takeComparatorClaim c) s

/-- R89 step 1: every result and flag claim already sent by a comparator is taken. -/
def State.takeSentClaims (s : State) : State :=
  takeAll (s.inFlight.filter isComparatorClaim)
    { s with inFlight := s.inFlight.filter (fun c => !isComparatorClaim c) }

/-- R89 step 2: the closing claims of the comparators, in position order, as they stand. -/
def State.closingOf (result : Comparator → Option Result) (s : State) : List Claim :=
  (places 48).flatMap (fun p => closingClaims result p (s.position p).cmp)

/-- R90: the number of closing results given. -/
def State.closingCount (result : Comparator → Option Result) (s : State) : Nat :=
  ((places 48).filter (fun p => (result (s.position p).cmp).isSome)).length

/-- R89 step 3, R93: every comparator goes to IDLE, and no finishing report arises after it. -/
def State.idleComparators (s : State) : State :=
  { s.mapCmps (fun _ _ => Comparator.idle) with inFlight := s.inFlight.filter (fun c => !isAnyFinishing c) }

/-- R89 step 4: the sequencer after the close of point k. -/
def Sequencer.closed (k : Nat) (cause : EndCause) (q : Sequencer) : Sequencer :=
  { q with running := none, timer := none, armedRemaining := 0, lastClose := some (k, cause) }

/-- R89 step 4: the sequencer goes to IDLE and POINT_CLOSED is raised. -/
def State.closeSequencer (k : Nat) (cause : EndCause) (s : State) : State :=
  ({ s with seq := s.seq.closed k cause }).raise .pointClosed

/-- R89, R92: the end of point k whose unfinished comparators give closing results. -/
def State.endPoint (k : Nat) (cause : EndCause) (result : Comparator → Option Result) (s : State) : State :=
  let s1 := s.takeSentClaims
  ((takeAll (s1.closingOf result) s1).idleComparators).closeSequencer k cause

/-- R91: the end of point k by ABORT_POINT. -/
def State.abortPoint (k : Nat) (s : State) : State :=
  (s.takeSentClaims.idleComparators).closeSequencer k .aborted

/-- R92: the end of point k by reference loss, which raises both conditions. -/
def State.losePoint (k : Nat) (s : State) : State := (s.endPoint k .refLost lossResult).raise .refLost

end Sys2Proof.Machine
end

