-- ==== Sys2Proof/Machine/Presence.lean ====
section
/-! DEFINITION. Presence and removal (R54..R57), and power-on and warm restart (R51, R72, R94, R175, R210, R212). -/

namespace Sys2Proof.Machine

/-! ### Presence (R54, R55, R56) -/

/-- R54: an input level read through the polarity. -/
def senseOf (polarity : Polarity) (pin : Bool) : Bool :=
  match polarity with
  | .activeHigh => pin
  | .activeLow => !pin

/-- R55: the debounce timer after a change of raw sense. -/
def debounceAfter (raw taken : Bool) (time : Nat) : Option Nat := if raw = taken then none else some time

/-- R56: the state of a position after a change of raw sense. -/
def stateAfterSense (raw : Bool) (st : PositionState) : PositionState :=
  match st with
  | .empty => if raw then .settling else .empty
  | .settling => if raw then .settling else .empty
  | .identifying | .waitingSlot | .bound | .conflict | .unknownType | .fault | .spent => st

/-- R55, R56: position p samples its input; a change of raw sense starts or stops the debounce. -/
def State.sample (p : Nat) (s : State) : State :=
  let x := s.position p
  let raw := senseOf s.port.bench.polarity x.pin
  if raw = x.raw then s
  else
    (s.updPosition p (fun x => { x with raw := raw, debounce := debounceAfter raw x.taken s.port.bench.debounce })).moveTo
      p (stateAfterSense raw x.state)

/-- R54: are inputs sampled? They are from the end of the power-on profile load. -/
def State.sampling (s : State) : Bool := decide (s.store.activity ≠ .loading)

/-- R54, R71: every position samples its input. -/
def State.sampleAll (s : State) : State := (places 48).foldl (fun t p => t.sample p) s

/-! ### Removal (R57) -/

/-- R57, R117: a comparator ARMED or COUNTING reports its finishing to the sequencer. -/
def removalReport (p : Nat) (x : Comparator) : List Claim := if x.state.tests then [.finishing p] else []

/-- R57: the orphan claim of a removal, with the phase of any WRITE work the lane reports (R174). -/
def orphanOnRemoval (p : Nat) (x : Position) (phase : Option AbandonPhase) : List Claim :=
  match x.bound with
  | none => []
  | some h => [.orphan p h phase]

/-- R8, R57: the record that position p is bound to, orphaned by a removal: its position field is made absent. -/
def State.orphanBound (p : Nat) (s : State) : State :=
  match (s.position p).bound.bind s.named with
  | none => s
  | some r => s.updRecord r.slot (fun r => { r with position := none })

/-- R57: removal at position p. R8: the record's position field and the bound slot are made absent as one change, and
the orphan claim that is sent settles the record's state (log entry 9). -/
def State.removal (p : Nat) (s : State) : State :=
  let x := s.position p
  let phase := s.writePhase p
  let kept := s.inFlight.filter (fun c => !withdrawnByRemoval p c)
  let s1 := (s.orphanBound p).dropItem p
  let s2 := { s1 with inFlight := kept ++ removalReport p x.cmp ++ orphanOnRemoval p x phase }
  (s2.moveTo p .empty).updPosition p (fun x =>
    { x with cmp := Comparator.idle, identity := none, bound := none, held := false, phase := none })

/-- R55, R56, R57: the debounce timer of position p runs out. -/
def State.debounced (p : Nat) (s : State) : State :=
  let x := s.position p
  match x.debounce with
  | none => s
  | some _ =>
    let s1 := s.updPosition p (fun x => { x with taken := x.raw, debounce := none })
    match x.state with
    | .settling => if x.raw then (s1.enterIdentifying p).settle else s1
    | .empty => s1
    | .identifying | .waitingSlot | .bound | .conflict | .unknownType | .fault | .spent =>
      if x.raw then s1 else (s1.removal p).settle

/-! ### Warm restart (R212) -/

/-- R51: the flash where a save in progress is cut off: the slot in hand may be left cut (log entry 8). -/
def State.cutFlash (s : State) : List FlashSlot :=
  if s.store.activity = .saving ∧ Config.slotCut s.fresh = true then setPlace s.flash s.store.slot .interrupted
  else s.flash

/-- R51: the free-value counter after a save may have been cut off. -/
def State.freshAfterCut (s : State) : Nat := if s.store.activity = .saving then s.fresh + 1 else s.fresh

/-- R32, R51: a restart abandons a save and lets a load go on. -/
def ProfileStore.restarted (t : ProfileStore) : ProfileStore :=
  match t.activity with
  | .saving => { t with activity := .idle, slot := 1 }
  | .loading | .idle => t

/-- R212: the port after a warm restart. -/
def Port.restarted (cause : WarmCause) (q : Port) : Port :=
  { q with requests := [], answers := [], requestTransfer := none, answerTransfer := none, restartPending := false
           pendingSet := Condition.restarted.bit, startKind := .warm, warmCause := cause }

/-- R94: the sequencer after a warm restart. -/
def Sequencer.restarted (q : Sequencer) : Sequencer :=
  { q with running := none, timer := none, armedRemaining := 0
           lastClose := match q.running with
             | some k => some (k, .restart)
             | none => q.lastClose }

/-- R151, R175: a lane after a warm restart; the turn mark is kept. -/
def Lane.restarted (l : Nat) (x : Lane) : Lane :=
  { x with state := .idle, pointer := laneFirst l, budget := 0, timer := none, frames := [] }

/-- R72: the position state after a warm restart, before the raw sense of an EMPTY position is looked at. -/
def restartedState (st : PositionState) : PositionState :=
  match st with
  | .empty | .settling => .empty
  | .spent => .spent
  | .identifying | .waitingSlot | .bound | .conflict | .unknownType | .fault => .identifying

/-- R72: a position after a warm restart, all but its state. -/
def Position.restarted (time : Nat) (x : Position) : Position :=
  let again := decide (restartedState x.state = .identifying)
  { x with
    debounce := debounceAfter x.raw x.taken time
    phase := if again then some .ident else none
    identity := none
    held := decide (x.state = .bound) || (decide (x.state = .identifying) && x.held)
    item := if again then some (Item.fresh .ident) else none
    given := false
    cmp := Comparator.idle }

/-- R72: position p makes its restart effects; an EMPTY position whose raw sense is asserted settles again (log entry
18). -/
def State.restartPosition (p : Nat) (s : State) : State :=
  let x := s.position p
  let s1 := (s.updPosition p (Position.restarted s.port.bench.debounce)).moveTo p (restartedState x.state)
  if restartedState x.state = .empty ∧ x.raw = true then s1.moveTo p .settling else s1

/-- R30: the phase of a record's write transfer: its position's, or, where its orphan claim is on its way, the claim's. -/
def State.transferPhase (s : State) (r : Record) : Option AbandonPhase :=
  match r.position with
  | some p => s.writePhase p
  | none => (s.orphanOnWay (s.handleOf r)).bind (·.2)

/-- R30: the record of a slot is settled by the phase of its work before the restart. -/
def settleAtRestart (before : State) (s : State) (r : Record) : State :=
  s.settleRecord r.slot (before.transferPhase r)

/-- R30, R51, R72, R94, R175, R212: a warm restart. -/
def State.warmRestart (cause : WarmCause) (s : State) : State :=
  let s1 := { s with port := s.port.restarted cause }
  let s2 := s1.records.foldl (settleAtRestart s) s1
  let s3 : State := { s2 with
    inFlight := s2.inFlight.filter isOrphan
    seq := s2.seq.restarted
    ref := { s2.ref with lossReported := false }
    lanes := s2.lanes.mapIdx (fun i x => x.restarted (i + 1))
    store := s2.store.restarted
    flash := s.cutFlash
    fresh := s.freshAfterCut }
  ((places 48).foldl (fun t p => t.restartPosition p) s3).settle

/-! ### Power-on (R210) -/

/-- R29, R51, R71, R210: power is lost and applied again: every block takes its power-on values; the flash, the input
levels and the queue of commands are not the part's own. -/
def State.poweredOn (s : State) : State :=
  { State.reset with
    positions := (places 48).map (fun p => Position.powerOn (s.position p).pin)
    flash := s.cutFlash
    fresh := s.freshAfterCut
    pending := s.pending }

/-! ### Time (log entry 3) -/

/-- A running timer, one ms later; it holds at 0 until its expiry is taken. -/
def tickTimer (t : Option Nat) : Option Nat := t.map (· - 1)

/-- One ms of the part's time base: the watchdog time advances with its comparison (R97), and running timers count
down. -/
def State.tick (s : State) : State :=
  let s1 : State := { s with
    ref := s.ref.advanced
    seq := { s.seq with timer := tickTimer s.seq.timer }
    positions := s.positions.map (fun x => { x with debounce := tickTimer x.debounce })
    lanes := s.lanes.map (fun x => { x with timer := tickTimer x.timer }) }
  s1.compareWatchdog

end Sys2Proof.Machine
end

