-- ==== Sys2Proof/Machine/PipeCommands.lean ====
section
/-! DEFINITION. What happens on the three USB pipes: USB_BUS_RESET, REQUEST_MESSAGE_ACCEPTED, ANSWER_DELIVERED,
ATTENTION_POLL and MALFORMED_REQUEST. -/

namespace Sys2Proof.Machine

/-- R200: the queues are emptied and transfers discarded. -/
def Port.busReset (q : Port) : Port :=
  { q with requests := [], answers := [], requestTransfer := none, answerTransfer := none }

/-- R200, R211: a bus reset; a RESTART whose answer it discards takes effect at once. -/
def State.busReset (s : State) : State :=
  let s1 := { s with port := s.port.busReset }
  if s.port.restartPending then s1.warmRestart .restartRequest else s1

/-- USB_BUS_RESET (R200). -/
def execUsbBusReset (s : State) : Host.Outcome State Fault Refusal := .next s.busReset

/-- R196: does the request pipe accept a message? -/
def State.accepting (s : State) : Bool :=
  decide (s.port.requests.length < Config.queueDepth) && s.sampling && !s.port.restartPending

/-- R196: the message a transfer makes. -/
def messageOf (bytes : List Byte) : Message :=
  { bytes := bytes.take Config.maxRequestBytes, overlong := decide (Config.maxRequestBytes < bytes.length) }

/-- R196: a transfer on the request pipe joins the queue, or is NAKed. -/
def State.acceptMessage (bytes : List Byte) (s : State) : State :=
  if s.accepting then
    { s with port := { s.port with requests := s.port.requests ++ [messageOf bytes], requestWire := .accepted } }
  else { s with port := { s.port with requestWire := .nak } }

/-- REQUEST_MESSAGE_ACCEPTED (R196). -/
def execRequestMessageAccepted (bytes : List Byte) (s : State) : Host.Outcome State Fault Refusal :=
  .next (s.acceptMessage bytes)

/-- R211: is this the OK answer of RESTART? -/
def Answer.isRestartOk (a : Answer) : Bool := decide (a.kind = RequestKind.restart.code) && decide (a.code = .ok)

/-- R199, R211: the oldest answer is delivered and leaves the queue; the delivered answer of a pending RESTART makes the
restart. -/
def State.deliverAnswer (s : State) : State :=
  match s.port.answers with
  | [] => { s with port := { s.port with answerWire := .nak } }
  | a :: rest =>
    let s1 := { s with port := { s.port with answers := rest, answerWire := .data a.wire } }
    if s.port.restartPending = true ∧ a.isRestartOk = true then s1.warmRestart .restartRequest else s1

/-- ANSWER_DELIVERED (R199). -/
def execAnswerDelivered (s : State) : Host.Outcome State Fault Refusal := .next s.deliverAnswer

/-- R205: a poll of the attention pipe. -/
def State.pollAttention (s : State) : State :=
  { s with port := { s.port with
      attentionWire := attentionReport s.port.pendingSet s.port.enableSet s.port.alwaysReport } }

/-- ATTENTION_POLL (R205). -/
def execAttentionPoll (s : State) : Host.Outcome State Fault Refusal := .next s.pollAttention

/-- R198: the oldest message is taken, is malformed, and is answered MALFORMED. -/
def State.rejectMalformed (s : State) : State :=
  match s.takeMessage with
  | none => s
  | some (m, s1) =>
    match openMessage m with
    | .malformed tag kind => s1.putAnswer { tag := tag, kind := kind, code := .malformed, body := [] }
    | .request _ _ _ => s

/-- MALFORMED_REQUEST (R198). -/
def execMalformedRequest (s : State) : Host.Outcome State Fault Refusal := .next s.rejectMalformed

end Sys2Proof.Machine
end

