-- ==== Sys2Proof/Machine/PlanRequests.lean ====
section
/-! DEFINITION. SET_POINT, CLEAR_POINT, GET_PLAN, START_POINT, END_POINT and ABORT_POINT. -/

namespace Sys2Proof.Machine

/-- R80, R81: an index of the plan is set, and the reset claim for it is taken. -/
def State.editPlan (k : Nat) (pt : Option Point) (s : State) : State :=
  (({ s with plan := setPlace s.plan k pt }).resetClaim k).settle

/-- R79. -/
def doSetPoint (args : List Byte) (s : State) : Served :=
  let k := uField args 0 1
  if ¬ (within 24 k = true) then refuse s .badArgument
  else
    match pointArg args with
    | none => refuse s .badArgument
    | some pt => if s.seq.running.isSome then refuse s .busy else taken (s.editPlan k (some pt)) []

/-- SET_POINT (R79). -/
def execSetPoint (s : State) : Host.Outcome State Fault Refusal := .next (serve .setPoint doSetPoint s)

/-- R81. -/
def doClearPoint (args : List Byte) (s : State) : Served :=
  let k := uField args 0 1
  if ¬ (within 24 k = true) then refuse s .badArgument
  else if s.seq.running.isSome then refuse s .busy
  else if (s.pointAt k).isNone then refuse s .noSuch
  else taken (s.editPlan k none) []

/-- CLEAR_POINT (R81). -/
def execClearPoint (s : State) : Host.Outcome State Fault Refusal := .next (serve .clearPoint doClearPoint s)

/-- R82. -/
def doGetPlan (_args : List Byte) (s : State) : Served := taken s (s.plan.flatMap planPlace)

/-- GET_PLAN (R82). -/
def execGetPlan (s : State) : Host.Outcome State Fault Refusal := .next (serve .getPlan doGetPlan s)

/-- R84, R85, R97: point k starts with the comparators armed. -/
def State.startPoint (k : Nat) (pt : Point) (s : State) : State :=
  let n := (s.armable k).length
  let s1 := s.arm k
  let s2 : State := { s1 with
    seq := { s1.seq with running := some k, timer := some (1000 * pt.timeout), armedRemaining := n, armedAtStart := n }
    ref := { s1.ref with lossReported := false }
    inFlight := s1.inFlight.filter (fun c => !isRefLoss c) }
  s2.compareWatchdog

/-- R84. -/
def doStartPoint (args : List Byte) (s : State) : Served :=
  let k := uField args 0 1
  if ¬ (within 24 k = true) then refuse s .badArgument
  else if s.seq.running.isSome then refuse s .busy
  else if s.ref.kref = 0 then refuse s .notReady
  else
    match s.pointAt k with
    | none => refuse s .noSuch
    | some pt => taken (s.startPoint k pt) (u8 k ++ u8 (s.armable k).length)

/-- START_POINT (R84). -/
def execStartPoint (s : State) : Host.Outcome State Fault Refusal := .next (serve .startPoint doStartPoint s)

/-- R90. -/
def doEndPoint (_args : List Byte) (s : State) : Served :=
  match s.seq.running with
  | none => refuse s .badState
  | some k =>
    taken (s.endPoint k .ended closingResult).settle
      (u8 k ++ u8 s.seq.armedAtStart ++ u8 (s.takeSentClaims.closingCount closingResult))

/-- END_POINT (R90). -/
def execEndPoint (s : State) : Host.Outcome State Fault Refusal := .next (serve .endPoint doEndPoint s)

/-- R91. -/
def doAbortPoint (_args : List Byte) (s : State) : Served :=
  match s.seq.running with
  | none => refuse s .badState
  | some k => taken (s.abortPoint k).settle (u8 k ++ u8 s.seq.armedAtStart)

/-- ABORT_POINT (R91). -/
def execAbortPoint (s : State) : Host.Outcome State Fault Refusal := .next (serve .abortPoint doAbortPoint s)

end Sys2Proof.Machine
end

