-- ==== Sys2Proof/Machine/PointCommands.lean ====
section
/-! DEFINITION. REF_EDGE, REF_WATCHDOG_TIMEOUT, REF_LOSS_REPORT, POINT_TIMER_EXPIRY, FINISHING_REPORT and the meter
edges METER_ACTIVE_EDGE, METER_OPPOSITE_EDGE, GLITCH_TEST_END. -/

namespace Sys2Proof.Machine

/-! ### The Reference Unit (R95, R97, R98) -/

/-- R95, R97: a reference rising edge. -/
def RefUnit.edge (u : RefUnit) : RefUnit := { u with counter := u.counter + 1#32, watchdog := 0, lossReported := false }

/-- REF_EDGE (R95). -/
def execRefEdge (s : State) : Host.Outcome State Fault Refusal := .next { s with ref := s.ref.edge }

/-- R97, R98, log entry 4: the advance of the watchdog time that arrives at the reference timeout while a point runs and
the mark is clear. Where the next advance does not arrive there, an edge having come first or the timeout having been
raised, no arrival is due and nothing happens. -/
def State.watchdogTimeout (s : State) : State :=
  if s.seq.running.isSome = true ∧ s.ref.lossReported = false ∧ s.port.bench.refTimeout ≤ s.ref.advanced.watchdog then
    State.compareWatchdog { s with ref := s.ref.advanced }
  else s

/-- REF_WATCHDOG_TIMEOUT (R97). -/
def execRefWatchdogTimeout (s : State) : Host.Outcome State Fault Refusal := .next s.watchdogTimeout

/-- A loss report. -/
def Claim.asRefLoss : Claim → Option Unit
  | .refLoss => some ()
  | .creation _ _ _ | .rebind _ _ | .orphan _ _ _ | .flag _ _ _ | .result _ _ _ _ | .finishing _ | .writeStart _ _
  | .sealStart _ _ | .commitMatch _ _ | .stageFailed _ _ | .commitMismatch _ _ | .commitUnknown _ _ | .locked _ _ _ _
  | .refused _ _ | .noReply _ _ => none

/-- R92: the sequencer takes a loss report: in RUNNING it ends the point, in IDLE it is discarded. -/
def State.lossTaken (_u : Unit) (s : State) : State :=
  match s.seq.running with
  | none => s
  | some k => (s.losePoint k).settle

/-- REF_LOSS_REPORT (R92). -/
def execRefLossReport (s : State) : Host.Outcome State Fault Refusal :=
  .next (s.takeClaim isRefLoss Claim.asRefLoss State.lossTaken)

/-! ### The sequencer (R87, R88) -/

/-- R88: the point timer runs out. -/
def State.timerExpired (s : State) : State :=
  match s.seq.running, s.seq.timer with
  | some k, some _ => (s.endPoint k .timedOut closingResult).settle
  | _, _ => s

/-- POINT_TIMER_EXPIRY (R88). -/
def execPointTimerExpiry (s : State) : Host.Outcome State Fault Refusal := .next s.timerExpired

/-- A finishing report. -/
def Claim.asFinishing : Claim → Option Unit
  | .finishing _ => some ()
  | .creation _ _ _ | .rebind _ _ | .orphan _ _ _ | .flag _ _ _ | .result _ _ _ _ | .writeStart _ _ | .sealStart _ _
  | .commitMatch _ _ | .stageFailed _ _ | .commitMismatch _ _ | .commitUnknown _ _ | .locked _ _ _ _ | .refused _ _
  | .noReply _ _ | .refLoss => none

/-- R87: the sequencer takes a finishing report; the count reaching 0 ends the point COMPLETE. -/
def State.finishingTaken (_u : Unit) (s : State) : State :=
  match s.seq.running with
  | none => s
  | some k =>
    match s.seq.armedRemaining with
    | 0 => s
    | n + 1 =>
      let s1 := { s with seq := { s.seq with armedRemaining := n } }
      if n = 0 then (s1.endPoint k .complete closingResult).settle else s1

/-- FINISHING_REPORT (R87). -/
def execFinishingReport (position : Nat) (s : State) : Host.Outcome State Fault Refusal :=
  onPosition position s (State.takeClaim (isFinishing position) Claim.asFinishing State.finishingTaken)

/-! ### Meter edges (R102) -/

/-- R102, R103: an active edge at position p. -/
def State.meterActive (p : Nat) (transition : PulseEdge) (time : Nat) (s : State) : State :=
  s.updCmp p (activeEdge s.ref.counter transition time)

/-- METER_ACTIVE_EDGE (R102). -/
def execMeterActiveEdge (position : Nat) (transition : PulseEdge) (time : Nat) (s : State) :
    Host.Outcome State Fault Refusal :=
  onPosition position s (State.meterActive position transition time)

/-- R102: an opposite edge at position p. -/
def State.meterOpposite (p : Nat) (transition : PulseEdge) (time : Nat) (s : State) : State :=
  s.count p (oppositeEdge p transition time)

/-- METER_OPPOSITE_EDGE (R102). -/
def execMeterOppositeEdge (position : Nat) (transition : PulseEdge) (time : Nat) (s : State) :
    Host.Outcome State Fault Refusal :=
  onPosition position s (State.meterOpposite position transition time)

/-- R102: the glitch test of position p's edge under test ends. -/
def State.glitchTestEnded (p : Nat) (s : State) : State := s.count p (testEnd p)

/-- GLITCH_TEST_END (R102). -/
def execGlitchTestEnd (position : Nat) (s : State) : Host.Outcome State Fault Refusal :=
  onPosition position s (State.glitchTestEnded position)

end Sys2Proof.Machine
end

