-- ==== Sys2Proof/Machine/PortRequests.lean ====
section
/-! DEFINITION. The requests of the port itself: GET_STATUS, SET_BENCH, GET_BENCH, RESTART, SET_ATTENTION,
ACK_ATTENTION. -/

namespace Sys2Proof.Machine

/-! ### GET_STATUS (R209, [PORT:FMT:STAT]) -/

/-- R209: the record count of a state. -/
def State.recordCount (s : State) (st : RecordState) : Nat := (s.records.filter (fun r => r.state = st)).length

/-- R209: the position count of a state. -/
def State.positionCount (s : State) (st : PositionState) : Nat := (s.positions.filter (fun x => x.state = st)).length

/-- R209: the time left in whole seconds rounded up, 0 when stopped. -/
def Sequencer.secondsLeft (q : Sequencer) : Nat := ceilDiv (q.timer.getD 0) 1000

/-- R209, [PORT:FMT:STAT]: the status report, 52 bytes. -/
def State.statusReport (s : State) : List Byte :=
  u16 Config.vendorCode ++ u16 Config.partNumber ++ u8 Config.firmwareLevel ++ u8 s.port.startKind.code ++
  u8 s.port.warmCause.code ++ RecordState.all.flatMap (fun st => u8 (s.recordCount st)) ++
  u8 (64 - s.records.length) ++ u32 s.admissions ++ PositionState.all.flatMap (fun st => u8 (s.positionCount st)) ++
  boolByte s.seq.running.isSome ++ u8 (s.seq.running.getD 0) ++ u8 s.seq.armedRemaining ++ u16 s.seq.secondsLeft ++
  u8 s.seq.armedAtStart ++ optBytes 2 (fun c => u8 c.1 ++ u8 c.2.code) s.seq.lastClose ++ u32 s.seals.remaining ++
  u8 s.store.activity.code ++ u8 s.store.faults ++ u32 s.ref.counter.toNat ++ u16 s.ref.watchdog ++
  [s.port.pendingSet, s.port.enableSet] ++ boolByte s.port.alwaysReport

/-- R209. -/
def doGetStatus (_args : List Byte) (s : State) : Served := taken s s.statusReport

/-- GET_STATUS (R209). -/
def execGetStatus (s : State) : Host.Outcome State Fault Refusal := .next (serve .getStatus doGetStatus s)

/-! ### SET_BENCH and GET_BENCH (R206, R207, R208) -/

/-- R208: the nine parameters in code order. -/
def State.benchReport (s : State) : List Byte :=
  let b := s.port.bench
  u32 s.ref.kref ++ u16 b.refTimeout ++ u16 b.replyTimeout ++ u8 b.retryLimit ++ u8 b.burstCap ++ u16 b.debounce ++
  u8 (match b.polarity with | .activeLow => 0 | .activeHigh => 1) ++ boolByte b.autoSeal ++ u16 b.sealLow

/-- R206, R207 check 4: is a value within the range of its parameter? -/
def benchInRange (code value : Nat) : Bool :=
  match code with
  | 1 => within 4000000000 value
  | 2 => decide (100 ≤ value ∧ value ≤ 10000)
  | 3 => decide (10 ≤ value ∧ value ≤ 500)
  | 4 => within 7 value
  | 5 => decide (8 ≤ value ∧ value ≤ 64)
  | 6 => decide (20 ≤ value ∧ value ≤ 2000)
  | 7 => decide (value ≤ 1)
  | 8 => decide (value ≤ 1)
  | 9 => decide (value ≤ 1000)
  | _ => false

/-- R207: one assignment, made. -/
def State.assign (a : Nat × Nat) (s : State) : State :=
  let b := s.port.bench
  let withBench (b' : Bench) : State := { s with port := { s.port with bench := b' } }
  match a.1 with
  | 1 => { s with ref := { s.ref with kref := a.2 } }
  | 2 => withBench { b with refTimeout := a.2 }
  | 3 => withBench { b with replyTimeout := a.2 }
  | 4 => withBench { b with retryLimit := a.2 }
  | 5 => withBench { b with burstCap := a.2 }
  | 6 => withBench { b with debounce := a.2 }
  | 7 => withBench { b with polarity := if a.2 = 0 then .activeLow else .activeHigh }
  | 8 => withBench { b with autoSeal := decide (a.2 = 1) }
  | 9 => withBench { b with sealLow := a.2 }
  | _ => s

/-- R54, R97: what a change of the reference timeout and of the polarity brings about when it is taken. -/
def State.benchEffects (before : Bench) (s : State) : State :=
  let s1 := if s.port.bench.refTimeout = before.refTimeout then s else s.compareWatchdog
  if s1.port.bench.polarity ≠ before.polarity ∧ s1.sampling = true then s1.sampleAll else s1

/-- R207: no code named twice. -/
def namedOnce : List Nat → Bool
  | [] => true
  | c :: cs => !cs.contains c && namedOnce cs

/-- R207. -/
def doSetBench (args : List Byte) (s : State) : Served :=
  let n := uField args 0 1
  let as := assignments n (args.drop 1)
  if n = 0 then refuse s .badArgument
  else if 9 < n then refuse s .full
  else if ¬ (as.all (fun a => within 9 a.1) = true ∧ namedOnce (as.map (·.1)) = true) then refuse s .badArgument
  else if ¬ (as.all (fun a => benchInRange a.1 a.2) = true) then refuse s .badArgument
  else if s.seq.running.isSome = true ∧ as.any (fun a => decide (a.1 = 1 ∧ a.2 ≠ s.ref.kref)) = true then refuse s .busy
  else
    let s1 := (as.foldl (fun t a => t.assign a) s).benchEffects s.port.bench
    taken s1 s1.benchReport

/-- SET_BENCH (R207). -/
def execSetBench (s : State) : Host.Outcome State Fault Refusal := .next (serve .setBench doSetBench s)

/-- R208. -/
def doGetBench (_args : List Byte) (s : State) : Served := taken s s.benchReport

/-- GET_BENCH (R208). -/
def execGetBench (s : State) : Host.Outcome State Fault Refusal := .next (serve .getBench doGetBench s)

/-! ### RESTART (R211) -/

/-- R211: taking RESTART sets the restart pending mark. -/
def doRestart (_args : List Byte) (s : State) : Served :=
  taken { s with port := { s.port with restartPending := true } } []

/-- RESTART (R211). -/
def execRestart (s : State) : Host.Outcome State Fault Refusal := .next (serve .restart doRestart s)

/-! ### Attention (R203, R204) -/

/-- R203. -/
def doSetAttention (args : List Byte) (s : State) : Served :=
  let enable := BitVec.ofNat 8 (uField args 0 1)
  let always := uField args 1 1
  if 1 < always then refuse s .badArgument
  else taken { s with port := { s.port with enableSet := enable, alwaysReport := decide (always = 1) } }
    [s.port.pendingSet, enable]

/-- SET_ATTENTION (R203). -/
def execSetAttention (s : State) : Host.Outcome State Fault Refusal := .next (serve .setAttention doSetAttention s)

/-- R204. -/
def doAckAttention (args : List Byte) (s : State) : Served :=
  let left := acknowledged s.port.pendingSet (BitVec.ofNat 8 (uField args 0 1))
  taken { s with port := { s.port with pendingSet := left } } [left]

/-- ACK_ATTENTION (R204). -/
def execAckAttention (s : State) : Host.Outcome State Fault Refusal := .next (serve .ackAttention doAckAttention s)

end Sys2Proof.Machine
end

