-- ==== Sys2Proof/Machine/PositionCommands.lean ====
section
/-! DEFINITION. GET_POSITIONS, RETRY_POSITION, PRESENCE_CHANGE and DEBOUNCE_EXPIRY. -/

namespace Sys2Proof.Machine

/-- R74. -/
def doGetPositions (_args : List Byte) (s : State) : Served :=
  taken s ((places 48).flatMap (fun p => positionReport p (s.position p)))

/-- GET_POSITIONS (R74). -/
def execGetPositions (s : State) : Host.Outcome State Fault Refusal := .next (serve .getPositions doGetPositions s)

/-- R69. -/
def doRetryPosition (args : List Byte) (s : State) : Served :=
  let p := uField args 0 1
  if ¬ (isPosition p = true) then refuse s .badArgument
  else
    match (s.position p).state with
    | .fault | .conflict | .unknownType => taken (s.enterIdentifying p).settle []
    | .empty | .settling | .identifying | .waitingSlot | .bound | .spent => refuse s .badState

/-- RETRY_POSITION (R69). -/
def execRetryPosition (s : State) : Host.Outcome State Fault Refusal := .next (serve .retryPosition doRetryPosition s)

/-- R54, R55: the presence input of position p takes a level, and the position samples it. -/
def State.presence (p : Nat) (high : Bool) (s : State) : State :=
  let s1 := s.updPosition p (fun x => { x with pin := high })
  if s1.sampling then s1.sample p else s1

/-- PRESENCE_CHANGE (R54, R55). -/
def execPresenceChange (position : Nat) (high : Bool) (s : State) : Host.Outcome State Fault Refusal :=
  onPosition position s (State.presence position high)

/-- DEBOUNCE_EXPIRY (R55). -/
def execDebounceExpiry (position : Nat) (s : State) : Host.Outcome State Fault Refusal :=
  onPosition position s (State.debounced position)

end Sys2Proof.Machine
end

