-- ==== Sys2Proof/Machine/ProfileRequests.lean ====
section
/-! DEFINITION. LOAD_PROFILE, DROP_PROFILE, GET_PROFILE and SAVE_PROFILES. -/

namespace Sys2Proof.Machine

/-- R43 check 5: does a profile at another code hold the type code? -/
def State.typeElsewhere (s : State) (code typeCode : Nat) : Bool :=
  (places 16).any (fun c => c ≠ code && (s.profileAt c).any (fun p => p.typeCode == typeCode))

/-- R44: the positions in UNKNOWN_TYPE whose meter reported a type code identify again. -/
def State.announce (typeCode : Nat) (s : State) : State :=
  (places 48).foldl (fun t p =>
    if (t.position p).state = .unknownType ∧ (t.position p).identity.map (·.typeCode) = some typeCode then
      t.enterIdentifying p
    else t) s

/-- R44: the validated profile is installed and announced. -/
def State.installProfile (code : Nat) (pf : Profile) (s : State) : State :=
  (({ s with profiles := setPlace s.profiles code (some ⟨pf, 0⟩) }).announce pf.typeCode).settle

/-- R43. -/
def doLoadProfile (args : List Byte) (s : State) : Served :=
  let code := uField args 0 1
  if s.store.activity = .saving then refuse s .busy
  else if ¬ (within 16 code = true) then refuse s .badArgument
  else
    match validate (rawProfile (args.drop 1)) with
    | .error idx => ⟨s, .badProfile, u8 idx⟩
    | .ok pf =>
      if (s.profileSlot code).any (fun ps => decide (0 < ps.pins)) then refuse s .pinned
      else if s.typeElsewhere code pf.typeCode then refuse s .duplicate
      else taken (s.installProfile code pf) (u8 pf.imageLength ++ u16 (layoutWidth pf.layout))

/-- LOAD_PROFILE (R43). -/
def execLoadProfile (s : State) : Host.Outcome State Fault Refusal := .next (serve .loadProfile doLoadProfile s)

/-- R46. -/
def doDropProfile (args : List Byte) (s : State) : Served :=
  let code := uField args 0 1
  if s.store.activity = .saving then refuse s .busy
  else if ¬ (within 16 code = true) then refuse s .badArgument
  else
    match s.profileSlot code with
    | none => refuse s .noSuch
    | some ps =>
      if 0 < ps.pins then refuse s .pinned
      else taken { s with profiles := setPlace s.profiles code none } []

/-- DROP_PROFILE (R46). -/
def execDropProfile (s : State) : Host.Outcome State Fault Refusal := .next (serve .dropProfile doDropProfile s)

/-- R47. -/
def doGetProfile (args : List Byte) (s : State) : Served :=
  let code := uField args 0 1
  if ¬ (within 16 code = true) then refuse s .badArgument
  else
    match s.profileSlot code with
    | none => refuse s .noSuch
    | some ps =>
      taken s (u8 code ++ profileBlock ps.profile ++ u16 (layoutWidth ps.profile.layout) ++ u8 ps.pins)

/-- GET_PROFILE (R47). -/
def execGetProfile (s : State) : Host.Outcome State Fault Refusal := .next (serve .getProfile doGetProfile s)

/-- R50. -/
def doSaveProfiles (_args : List Byte) (s : State) : Served :=
  if s.store.activity = .saving then refuse s .busy
  else ⟨{ s with store := { s.store with activity := .saving, slot := 1 } }, .accepted, []⟩

/-- SAVE_PROFILES (R50). -/
def execSaveProfiles (s : State) : Host.Outcome State Fault Refusal := .next (serve .saveProfiles doSaveProfiles s)

end Sys2Proof.Machine
end

