-- ==== Sys2Proof/Machine/RecordRequests.lean ====
section
/-! DEFINITION. FIND, LIST, READ_RECORD, AMEND_TRIM, REJECT, RETIRE and CLEAR_FLAGS. -/

namespace Sys2Proof.Machine

/-- R3: a request that names a record by handle resolves the handle before any other check. -/
def withRecord (h : Handle) (s : State) (f : Record → Served) : Served :=
  match s.resolve h with
  | .error c => refuse s c
  | .ok r => f r

/-! ### Reading (R23, R24, R25) -/

/-- R23. -/
def doFind (args : List Byte) (s : State) : Served :=
  match serialArg args with
  | none => refuse s .badArgument
  | some serial =>
    match s.recordOf serial with
    | none => refuse s .noSuch
    | some r => taken s (handleBytes (s.handleOf r))

/-- FIND (R23). -/
def execFind (s : State) : Host.Outcome State Fault Refusal := .next (serve .find doFind s)

/-- R24: does a record match a state set and a filter? -/
def Record.listed (states : Nat) (filter : ListFilter) (r : Record) : Bool :=
  states.testBit r.state.code &&
    match filter with
    | .all => true
    | .boundOnly => r.position.isSome
    | .orphanedOnly => r.position.isNone

/-- R24. -/
def doList (args : List Byte) (s : State) : Served :=
  let states := uField args 0 1
  match listFilterOfCode (uField args 1 1) with
  | none => refuse s .badArgument
  | some filter =>
    if states = 0 ∨ 128 ≤ states then refuse s .badArgument
    else
      let found := s.records.filter (fun r => r.listed states filter)
      taken s (u8 found.length ++ found.flatMap (fun r => handleBytes (s.handleOf r)))

/-- LIST (R24). -/
def execList (s : State) : Host.Outcome State Fault Refusal := .next (serve .list doList s)

/-- R25. -/
def doReadRecord (args : List Byte) (s : State) : Served :=
  withRecord (handleArg args 0) s (fun r => taken s (readOut (s.tag r.slot) r))

/-- READ_RECORD (R25). -/
def execReadRecord (s : State) : Host.Outcome State Fault Refusal := .next (serve .readRecord doReadRecord s)

/-! ### AMEND_TRIM (R131, R132, R133) -/

/-- R131: the trim of a record that the band and phase bytes name, with its field width, where the value is in its
range. -/
def State.amendTarget (s : State) (r : Record) (band phase : Nat) (value : Int) : Option Trim :=
  match bandOfCode band, phaseOfCode phase, s.profileAt r.profile with
  | some b, some ph, some pf =>
    match r.trims.find? (fun t => t.band == b && t.phase == ph), trimWidth b ph pf.layout with
    | some t, some w => if trimMin w ≤ value ∧ value ≤ trimMax w then some t else none
    | _, _ => none
  | _, _, _ => none

/-- R132: is the comparator of a bound record's position ARMED or COUNTING? -/
def State.measuringNow (s : State) (r : Record) : Bool :=
  match r.position with
  | some p => (s.position p).cmp.state.tests
  | none => false

/-- R133: the target of a trim is set to a value. -/
def Record.amend (b : Band) (ph : Phase) (value : Int) (r : Record) : Record :=
  { r with trims := r.trims.map (fun t => if t.band = b ∧ t.phase = ph then { t with target := value } else t) }

/-- R133: a taken AMEND_TRIM: the record goes to WRITE_PENDING where some target now differs from its meter value. -/
def State.amendTrim (slot : Nat) (t : Trim) (value : Int) (r : Record) (s : State) : State :=
  let s1 := s.updRecord slot (Record.amend t.band t.phase value)
  if (r.amend t.band t.phase value).differs then (s1.enterWritePending slot).settle else s1

/-- R131, R132, R133. -/
def doAmendTrim (args : List Byte) (s : State) : Served :=
  let h := handleArg args 0
  let value := signed32 (uField args 4 4)
  withRecord h s (fun r =>
    match s.amendTarget r (uField args 2 1) (uField args 3 1) value with
    | none => refuse s .badArgument
    | some t =>
      match r.state with
      | .measuring | .passed =>
        if s.measuringNow r then refuse s .busy
        else taken (s.amendTrim h.slot t value r)
          (u8 t.band.code ++ u8 t.phase.code ++ s32Bytes t.meter ++ s32Bytes value)
      | .writePending | .writing | .sealing => refuse s .busy
      | .sealed | .rejected => refuse s .badState)

/-- AMEND_TRIM (R131). -/
def execAmendTrim (s : State) : Host.Outcome State Fault Refusal := .next (serve .amendTrim doAmendTrim s)

/-! ### REJECT (R26) -/

/-- R26. -/
def doReject (args : List Byte) (s : State) : Served :=
  let h := handleArg args 0
  withRecord h s (fun r =>
    match r.state with
    | .measuring | .passed | .writePending | .rejected =>
      taken (s.reject h.slot (.byRequest (BitVec.ofNat 8 (uField args 2 1)))) []
    | .writing | .sealing => refuse s .busy
    | .sealed => refuse s .badState)

/-- REJECT (R26). -/
def execReject (s : State) : Host.Outcome State Fault Refusal := .next (serve .reject doReject s)

/-! ### RETIRE (R27, R70) -/

/-- R70: a position goes to SPENT: an identification item is withdrawn or abandoned, and the bound slot, the held
binding mark and the identity are cleared. -/
def State.toSpent (p : Nat) (s : State) : State :=
  let s1 := match (s.position p).item.map (·.work) with
    | some .ident | some (.readImage _ _) => s.dropItem p
    | some (.write _) | some (.sealLock _) | none => s
  (s1.moveTo p .spent).updPosition p (fun x => { x with bound := none, held := false, identity := none, phase := none })

/-- R27, R70: the position of a bound record goes to SPENT. -/
def State.retirePosition (r : Record) (s : State) : State :=
  match r.position with
  | none => s
  | some p => s.toSpent p

/-- R2, R27, R41: the record leaves the table. -/
def State.removeRecord (r : Record) (s : State) : State :=
  ({ s with records := s.records.filter (fun x => x.slot ≠ r.slot)
            tags := updPlace s.tags r.slot (· + 1#8) }.updPins r.profile (· - 1)).raise .recordsChanged

/-- R27: a taken RETIRE. -/
def State.retire (r : Record) (s : State) : State :=
  (((((s.withdrawWrite r).retirePosition r).removeRecord r).handFreed r.slot)).settle

/-- R27. -/
def doRetire (args : List Byte) (s : State) : Served :=
  withRecord (handleArg args 0) s (fun r =>
    if r.state = .writing ∨ r.state = .sealing ∨ s.measuringNow r = true then refuse s .busy
    else taken (s.retire r) (readOut (s.tag r.slot) r))

/-- RETIRE (R27). -/
def execRetire (s : State) : Host.Outcome State Fault Refusal := .next (serve .retire doRetire s)

/-! ### CLEAR_FLAGS (R28) -/

/-- R28: the flags are cleared, and the auto-seal test is made for a PASSED record with none left. -/
def State.clearFlags (slot : Nat) (r : Record) (s : State) : State :=
  let s1 := s.updRecord slot (fun r => { r with flags := r.flags.cleared })
  if r.state = .passed ∧ r.flags.cleared.any = false then (s1.autoSealTest slot).settle else s1

/-- R28. -/
def doClearFlags (args : List Byte) (s : State) : Served :=
  let h := handleArg args 0
  withRecord h s (fun r =>
    if r.state = .sealed then refuse s .badState
    else taken (s.clearFlags h.slot r) (u8 r.flags.cleared.set))

/-- CLEAR_FLAGS (R28). -/
def execClearFlags (s : State) : Host.Outcome State Fault Refusal := .next (serve .clearFlags doClearFlags s)

end Sys2Proof.Machine
end

