-- ==== Sys2Proof/Machine/SealRequests.lean ====
section
/-! DEFINITION. SEAL, SEAL ALL, SET_SEAL_RANGE and GET_SEAL_RANGE (09). -/

namespace Sys2Proof.Machine

/-- R183, checks 2 to 5: the answer of the first that fails, none where the record may be sealed. -/
def State.sealRefusal (s : State) (r : Record) : Option AnswerCode :=
  if r.state ≠ .passed then some .badState
  else if s.reachable r = false then some .notReady
  else if r.flags.imageOdd then some .imageOdd
  else if r.flags.otherThanImageOdd then some .flagsSet
  else none

/-- R183. -/
def doSeal (args : List Byte) (s : State) : Served :=
  let h := handleArg args 0
  withRecord h s (fun r =>
    if r.state = .sealing then refuse s .busy
    else
      match s.sealRefusal r with
      | some c => refuse s c
      | none =>
        if s.seals.remaining = 0 then refuse s .sealsExhausted
        else taken (s.enterSealing h.slot).settle (u32 s.seals.remaining))

/-- SEAL (R183). -/
def execSeal (s : State) : Host.Outcome State Fault Refusal := .next (serve .seal doSeal s)

/-- R184: the records that SEAL ALL puts into SEALING, oldest first. -/
def State.sealable (s : State) : List Record := s.records.filter (fun r => (s.sealRefusal r).isNone)

/-- R184. -/
def doSealAll (_args : List Byte) (s : State) : Served :=
  if s.seals.remaining = 0 then refuse s .sealsExhausted
  else taken (s.sealable.foldl (fun t r => t.enterSealing r.slot) s).settle
    (u8 s.sealable.length ++ u32 s.seals.remaining)

/-- SEAL ALL (R184). -/
def execSealAll (s : State) : Host.Outcome State Fault Refusal := .next (serve .sealAll doSealAll s)

/-- R180: the allocator with a new range. -/
def SealAllocator.withRange (first last : Nat) (a : SealAllocator) : SealAllocator :=
  { a with first := first, last := last, next := first }

/-- R180: the unissued remainder of the range, both 0 when empty. -/
def SealAllocator.remainder (a : SealAllocator) : Nat × Nat := if a.remaining = 0 then (0, 0) else (a.next, a.last)

/-- R180. -/
def doSetSealRange (args : List Byte) (s : State) : Served :=
  let first := uField args 0 4
  let last := uField args 4 4
  if ¬ (within Config.lastSeal first = true ∧ within Config.lastSeal last = true) then refuse s .badArgument
  else if last < first then refuse s .badArgument
  else if first ≤ s.seals.lastIssued then refuse s .badArgument
  else
    let seals := s.seals.withRange first last
    taken ({ s with seals := seals }.raiseIf (decide (seals.remaining < s.port.bench.sealLow)) .sealLow)
      (u32 s.seals.remainder.1 ++ u32 s.seals.remainder.2 ++ u32 seals.remaining)

/-- SET_SEAL_RANGE (R180). -/
def execSetSealRange (s : State) : Host.Outcome State Fault Refusal := .next (serve .setSealRange doSetSealRange s)

/-- R182. -/
def doGetSealRange (_args : List Byte) (s : State) : Served :=
  taken s (u32 s.seals.first ++ u32 s.seals.last ++ u32 s.seals.next ++ u32 s.seals.remaining ++
    u32 s.seals.lastIssued ++ u16 s.port.bench.sealLow)

/-- GET_SEAL_RANGE (R182). -/
def execGetSealRange (s : State) : Host.Outcome State Fault Refusal := .next (serve .getSealRange doGetSealRange s)

end Sys2Proof.Machine
end

