-- ==== Sys2Proof/Machine/StartCommands.lean ====
section
/-! DEFINITION. POWER_ON, WARM_RESTART and the flash steps PROFILE_LOAD_SLOT and PROFILE_SAVE_SLOT. -/

namespace Sys2Proof.Machine

/-- POWER_ON (R210). -/
def execPowerOn (s : State) : Host.Outcome State Fault Refusal := .next s.poweredOn

/-- WARM_RESTART (R212): the RESET line. -/
def execWarmRestart (s : State) : Host.Outcome State Fault Refusal := .next (s.warmRestart .resetLine)

/-- R49: the profile a stored slot installs, none for an empty code, or a load fault. `taken` are the type codes loaded
earlier. -/
def storedOutcome (taken : Nat → Bool) (f : FlashSlot) : Except Unit (Option Profile) :=
  match readStored f with
  | .empty => .ok none
  | .loadFault => .error ()
  | .candidate raw =>
    match validate raw with
    | .error _ => .error ()
    | .ok pf => if taken pf.typeCode then .error () else .ok (some pf)

/-- R49: stored slot n is treated. -/
def State.loadStored (n : Nat) (s : State) : State :=
  let s1 := { s with profiles := setPlace s.profiles n none }
  match storedOutcome (fun tc => (s1.codeOfType tc).isSome) ((place s.flash n).getD FlashSlot.erased) with
  | .ok none => s1
  | .ok (some pf) => { s1 with profiles := setPlace s1.profiles n (some ⟨pf, 0⟩) }
  | .error () => { s1 with store := { s1.store with faults := s1.store.faults + 1 } }

/-- R49: the load treats the slot it has reached; after slot 16 the state is IDLE and every position samples. -/
def State.loadSlot (s : State) : State :=
  match s.store.activity with
  | .loading =>
    let n := s.store.slot
    let s1 := s.loadStored n
    if n < 16 then { s1 with store := { s1.store with slot := n + 1 } }
    else ({ s1 with store := { s1.store with activity := .idle, slot := 1 } }).sampleAll
  | .idle | .saving => s

/-- PROFILE_LOAD_SLOT (R49). -/
def execProfileLoadSlot (s : State) : Host.Outcome State Fault Refusal := .next s.loadSlot

/-- R50: the save writes the slot it has reached; after slot 16 the state is IDLE and PROFILE_STORE_DONE is raised. -/
def State.saveSlot (s : State) : State :=
  match s.store.activity with
  | .saving =>
    let n := s.store.slot
    let s1 := { s with flash := setPlace s.flash n (storedSlot (s.profileSlot n)) }
    if n < 16 then { s1 with store := { s1.store with slot := n + 1 } }
    else ({ s1 with store := { s1.store with activity := .idle, slot := 1 } }).raise .profileStoreDone
  | .idle | .loading => s

/-- PROFILE_SAVE_SLOT (R50). -/
def execProfileSaveSlot (s : State) : Host.Outcome State Fault Refusal := .next s.saveSlot

end Sys2Proof.Machine
end

