-- ==== Sys2Proof/Machine/Dispatch.lean ====
section
/-! DEFINITION. What each command does: one arm per constructor of Instr, each a call of its meaning. -/

namespace Sys2Proof.Machine

def exec (i : Instr) (s : State) : Host.Outcome State Fault Refusal :=
  match i with
  | .powerOn => Sys2Proof.Machine.execPowerOn s
  | .warmRestart => Sys2Proof.Machine.execWarmRestart s
  | .profileLoadSlot => Sys2Proof.Machine.execProfileLoadSlot s
  | .profileSaveSlot => Sys2Proof.Machine.execProfileSaveSlot s
  | .usbBusReset => Sys2Proof.Machine.execUsbBusReset s
  | .requestMessageAccepted bytes => Sys2Proof.Machine.execRequestMessageAccepted bytes s
  | .answerDelivered => Sys2Proof.Machine.execAnswerDelivered s
  | .attentionPoll => Sys2Proof.Machine.execAttentionPoll s
  | .malformedRequest => Sys2Proof.Machine.execMalformedRequest s
  | .getStatus => Sys2Proof.Machine.execGetStatus s
  | .setBench => Sys2Proof.Machine.execSetBench s
  | .getBench => Sys2Proof.Machine.execGetBench s
  | .restart => Sys2Proof.Machine.execRestart s
  | .setAttention => Sys2Proof.Machine.execSetAttention s
  | .ackAttention => Sys2Proof.Machine.execAckAttention s
  | .loadProfile => Sys2Proof.Machine.execLoadProfile s
  | .dropProfile => Sys2Proof.Machine.execDropProfile s
  | .getProfile => Sys2Proof.Machine.execGetProfile s
  | .saveProfiles => Sys2Proof.Machine.execSaveProfiles s
  | .setPoint => Sys2Proof.Machine.execSetPoint s
  | .clearPoint => Sys2Proof.Machine.execClearPoint s
  | .getPlan => Sys2Proof.Machine.execGetPlan s
  | .startPoint => Sys2Proof.Machine.execStartPoint s
  | .endPoint => Sys2Proof.Machine.execEndPoint s
  | .abortPoint => Sys2Proof.Machine.execAbortPoint s
  | .find => Sys2Proof.Machine.execFind s
  | .list => Sys2Proof.Machine.execList s
  | .readRecord => Sys2Proof.Machine.execReadRecord s
  | .amendTrim => Sys2Proof.Machine.execAmendTrim s
  | .reject => Sys2Proof.Machine.execReject s
  | .retire => Sys2Proof.Machine.execRetire s
  | .clearFlags => Sys2Proof.Machine.execClearFlags s
  | .seal => Sys2Proof.Machine.execSeal s
  | .sealAll => Sys2Proof.Machine.execSealAll s
  | .getPositions => Sys2Proof.Machine.execGetPositions s
  | .retryPosition => Sys2Proof.Machine.execRetryPosition s
  | .setSealRange => Sys2Proof.Machine.execSetSealRange s
  | .getSealRange => Sys2Proof.Machine.execGetSealRange s
  | .presenceChange position high => Sys2Proof.Machine.execPresenceChange position high s
  | .debounceExpiry position => Sys2Proof.Machine.execDebounceExpiry position s
  | .laneSendDone lane => Sys2Proof.Machine.execLaneSendDone lane s
  | .probeFrameReceived lane bytes => Sys2Proof.Machine.execProbeFrameReceived lane bytes s
  | .laneReplyTimeout lane => Sys2Proof.Machine.execLaneReplyTimeout lane s
  | .creationClaim position => Sys2Proof.Machine.execCreationClaim position s
  | .rebindClaim position => Sys2Proof.Machine.execRebindClaim position s
  | .orphanClaim position => Sys2Proof.Machine.execOrphanClaim position s
  | .resultClaim position => Sys2Proof.Machine.execResultClaim position s
  | .flagClaim position => Sys2Proof.Machine.execFlagClaim position s
  | .writeStartClaim position => Sys2Proof.Machine.execWriteStartClaim position s
  | .sealStartClaim position => Sys2Proof.Machine.execSealStartClaim position s
  | .commitMatchOutcome position => Sys2Proof.Machine.execCommitMatchOutcome position s
  | .stageFailedOutcome position => Sys2Proof.Machine.execStageFailedOutcome position s
  | .commitFailOutcome position => Sys2Proof.Machine.execCommitFailOutcome position s
  | .lockedOutcome position => Sys2Proof.Machine.execLockedOutcome position s
  | .refusedOutcome position => Sys2Proof.Machine.execRefusedOutcome position s
  | .noReplyOutcome position => Sys2Proof.Machine.execNoReplyOutcome position s
  | .refEdge => Sys2Proof.Machine.execRefEdge s
  | .refWatchdogTimeout => Sys2Proof.Machine.execRefWatchdogTimeout s
  | .refLossReport => Sys2Proof.Machine.execRefLossReport s
  | .pointTimerExpiry => Sys2Proof.Machine.execPointTimerExpiry s
  | .finishingReport position => Sys2Proof.Machine.execFinishingReport position s
  | .meterActiveEdge position transition time => Sys2Proof.Machine.execMeterActiveEdge position transition time s
  | .meterOppositeEdge position transition time => Sys2Proof.Machine.execMeterOppositeEdge position transition time s
  | .glitchTestEnd position => Sys2Proof.Machine.execGlitchTestEnd position s

end Sys2Proof.Machine
end

