-- ==== Sys2Proof/Safety.lean ====
section
/-! DEFINITION. The invariants of the part that statements name: its shape, its queues, its lanes, its seal numbers and
its sequencer. -/

namespace Sys2Proof.Machine

/-- The part has its fixed numbers of things: 48 positions (R52), 6 lanes (R151), 24 indices (R75), 64 slots (R1, R2),
16 profile codes (R32) and 16 stored slots (R48). -/
def State.Shaped (s : State) : Prop :=
  s.positions.length = 48 ∧ s.lanes.length = 6 ∧ s.plan.length = 24 ∧ s.tags.length = 64 ∧ s.profiles.length = 16 ∧
    s.flash.length = 16

/-- R195: each queue of the port holds at most 4 messages. -/
def State.QueuesBounded (s : State) : Prop :=
  s.port.requests.length ≤ Config.queueDepth ∧ s.port.answers.length ≤ Config.queueDepth

/-- R152: a lane stands IDLE only while no position of its lane is requesting. -/
def State.LanesServed (s : State) : Prop :=
  ∀ l, isLane l = true → (s.lane l).state = .idle → ∀ p, isPosition p = true → laneOf p = l → s.requesting p = false

/-- R151: each lane's pointer is a position of the lane. -/
def State.PointersOwn (s : State) : Prop :=
  ∀ l, isLane l = true → isPosition (s.lane l).pointer = true ∧ laneOf (s.lane l).pointer = l

/-- R177, R178: no range is loaded and the numbers are 0, or next stands within first..last + 1; every number issued
lies below next. -/
def SealAllocator.Sound (a : SealAllocator) : Prop :=
  (a.first = 0 → a.last = 0 ∧ a.next = 0 ∧ a.lastIssued = 0) ∧
    (a.first ≠ 0 → a.first ≤ a.next ∧ a.next ≤ a.last + 1 ∧ a.first ≤ a.last ∧ a.last ≤ Config.lastSeal ∧
      a.lastIssued < a.next)

/-- R83: the sequencer in IDLE has its timer stopped and waits for no comparator. -/
def Sequencer.Rested (q : Sequencer) : Prop := q.running = none → q.timer = none ∧ q.armedRemaining = 0

/-- R97: the watchdog time is within 0..10,000 ms. -/
def RefUnit.Bounded (u : RefUnit) : Prop := u.watchdog ≤ Config.watchdogLimit

/-- R49, R71, R196, R209: while the power-on load runs, no request waits, no point runs, no record is held, no claim is
on its way, and every position and lane is as power-on left it. -/
def State.LoadingQuiet (s : State) : Prop :=
  s.store.activity = .loading → s.port.requests = [] ∧ s.seq.running = none ∧ s.records = [] ∧ s.inFlight = [] ∧
    (∀ p, isPosition p = true → s.position p = Position.powerOn (s.position p).pin) ∧
    (∀ l, isLane l = true → (s.lane l).state = .idle)

/-- R1, R5, R6: the table holds each record once: its slots are 1..64 and no two records share a slot or a serial. -/
def State.TableSound (s : State) : Prop :=
  (s.records.map (·.slot)).Nodup ∧ (s.records.map (·.serial)).Nodup ∧ ∀ r ∈ s.records, within 64 r.slot = true

/-- R41: every profile code held by a record names a loaded profile, and the pin count of a loaded profile is the number
of records that hold its code. -/
def State.PinsCounted (s : State) : Prop :=
  (∀ r ∈ s.records, within 16 r.profile = true ∧ (s.profileSlot r.profile).isSome = true) ∧
    (∀ c ps, within 16 c = true → s.profileSlot c = some ps →
      ps.pins = (s.records.filter (fun r => r.profile = c)).length)

/-- R13: the five counts of every record lie in their ranges; outside REJECTED the write failures and the seal attempts
are at most 1, and no more numbers are spoiled than attempts counted. -/
def State.CountsInRange (s : State) : Prop :=
  ∀ r ∈ s.records, (∀ pf, s.profileAt r.profile = some pf → r.rounds ≤ pf.maxRounds) ∧ r.generation ≤ 255 ∧
    r.writeFailures ≤ 2 ∧ r.sealAttempts ≤ 2 ∧ r.spoiled.length ≤ 2 ∧
    (r.state ≠ .rejected → r.writeFailures ≤ 1 ∧ r.sealAttempts ≤ 1 ∧ r.spoiled.length ≤ r.sealAttempts)

/-- R58: is a work item one of identification? -/
def Work.identifies : Work → Bool
  | .ident | .readImage _ _ => true
  | .write _ | .sealLock _ => false

/-- R58: does a position hold an identification item? -/
def Position.identifies (x : Position) : Bool := x.item.any (fun i => i.work.identifies)

/-- R8: both sides of every binding: a position holds a bound slot exactly when the record it names has its position
field naming the position. The rest is what keeps this so: which states hold a bound slot (R53), that a position with a
held binding reads no image (R73), and the order of a position's claims, at most one orphan claim before at most one
creation or rebind claim, which only an IDENTIFYING position without a binding sends (R58..R61, R66). -/
structure State.BindingsSound (s : State) : Prop where
  bound : ∀ p h, isPosition p = true → (s.position p).bound = some h → ∃ r, s.named h = some r ∧ r.position = some p
  position : ∀ r p, r ∈ s.records → r.position = some p → isPosition p = true ∧
    (s.position p).bound = some (s.handleOf r)
  holder : ∀ p, isPosition p = true →
    ((s.position p).bound.isSome = true ↔ (s.position p).state = .bound ∨ (s.position p).held = true)
  held : ∀ p, isPosition p = true → (s.position p).held = true → (s.position p).state = .identifying ∧
    ∀ i off words, (s.position p).item = some i → i.work ≠ .readImage off words
  identifies : ∀ p, isPosition p = true → (s.position p).identifies = true → (s.position p).state = .identifying
  claims : ∀ p, isPosition p = true → ∃ orphans admissions, s.inFlight.filter (ofPosition p) = orphans ++ admissions ∧
    orphans.length ≤ 1 ∧ admissions.length ≤ 1 ∧ (∀ c ∈ orphans, isOrphan c = true) ∧
    (∀ c ∈ admissions, isOrphan c = false ∧ (s.position p).state = .identifying ∧ (s.position p).held = false ∧
      (s.position p).identifies = false) ∧
    ((s.position p).bound.isSome = true ∨ (s.position p).state = .waitingSlot → orphans = [] ∧ admissions = [])

/-- The part with its lane work taken away: the lanes, the work items and the claims on their way. Two states that agree
here differ in lane work alone. -/
def State.withoutLaneWork (s : State) : State :=
  { s with lanes := [], inFlight := [], positions := s.positions.map (fun x => { x with item := none }) }

/-! ### What statements say of a request and of a restart -/

/-- R197: the port may take a request, and its oldest message is request k with these arguments. -/
def State.Offers (s : State) (k : RequestKind) (tag : BitVec 16) (args : List Byte) (rest : List Message) : Prop :=
  ∃ m, s.port.requests = m :: rest ∧ openMessage m = .request tag k args ∧
    s.port.answers.length < Config.queueDepth ∧ s.port.restartPending = false

/-- R197: the oldest message has left the request queue. -/
def State.dequeued (s : State) (rest : List Message) : State := { s with port := { s.port with requests := rest } }

/-- R201: the answer of request k stands at the end of the answer queue. -/
def State.answered (s : State) (tag : BitVec 16) (k : RequestKind) (c : AnswerCode) (body : List Byte) : State :=
  s.putAnswer { tag := tag, kind := k.code, code := c, body := body }

/-- R54, R55, R56: a position after a sample of its input under the bench parameters: where the raw sense changes, the
debounce timer starts or stops, and an EMPTY or SETTLING position moves. -/
def sampledPosition (b : Bench) (x : Position) : Position :=
  let raw := if b.polarity = .activeHigh then x.pin else !x.pin
  if raw = x.raw then x
  else { x with
    raw := raw
    debounce := if raw = x.taken then none else some b.debounce
    state := if x.state = .empty ∧ raw = true then .settling
      else if x.state = .settling ∧ raw = false then .empty else x.state }

/-- R21, R22: the state of a record that returns to PASSED and is evaluated. -/
def State.stateOnReturn (s : State) (r : Record) : RecordState :=
  if s.passedCondition r = true then .passed else .measuring

/-- R10, R192: a record whose issued number is spoiled by an orphaning or a restart. -/
def Record.numberSpoiled (n : Nat) (r : Record) : Record :=
  { r with spoiled := r.spoiled ++ [n], sealNumber := none, sealAttempts := r.sealAttempts + 1 }

/-- R53: position p changed by f; POSITIONS_CHANGED, bit 2, joins the pending set where its state changes. -/
def State.positionBecomes (p : Nat) (f : Position → Position) (s : State) : State :=
  let t := s.updPosition p f
  if (f (s.position p)).state = (s.position p).state then t
  else { t with port := { t.port with pendingSet := t.port.pendingSet ||| 0x04#8 } }

/-- R52, R153: an item newly queued, requesting and not yet granted. -/
def newItem (w : Work) : Item := { work := w, requesting := true, granted := false, attempts := 0 }

/-- R72: the state of a position after a warm restart. -/
def stateAfterRestart (x : Position) : PositionState :=
  match x.state with
  | .empty | .settling => if x.raw then .settling else .empty
  | .spent => .spent
  | .identifying | .waitingSlot | .bound | .conflict | .unknownType | .fault => .identifying

/-- What a warm restart makes of a state: the port (R212), its pending set with it (RESTARTED, and what the restart
itself raises: log entry 18), the sequencer (R94), the Reference Unit (R95..R97), the Profile Table and its flash (R32,
R51: the slot in hand may be left cut, log entry 8), the numbers of the Record Table (R30) and the seals (R177), the comparators (R99), the
positions (R72), the claims (R30), the lanes (R175) and the records (R30). The lanes arbitrate last: `u` is the part
before that. -/
structure RestartedFrom (cause : WarmCause) (s t : State) : Prop where
  queues : t.port.requests = [] ∧ t.port.answers = [] ∧ t.port.restartPending = false
  start : t.port.startKind = .warm ∧ t.port.warmCause = cause
  kept : t.port.enableSet = s.port.enableSet ∧ t.port.alwaysReport = s.port.alwaysReport ∧ t.port.bench = s.port.bench
  pending : ∃ records positions : Byte, t.port.pendingSet = 0x80#8 ||| records ||| positions ∧
    (let moved : Prop := ∃ n r, s.recordAt n = some r ∧ (r.state = .writing ∨ r.state = .sealing)
     (moved → records = 0x02#8) ∧ (¬ moved → records = 0#8)) ∧
    (let moved : Prop := ∃ p, isPosition p = true ∧
       (stateAfterRestart (s.position p) ≠ (s.position p).state ∨ (s.position p).state = .settling)
     (moved → positions = 0x04#8) ∧ (¬ moved → positions = 0#8))
  sequencer : t.seq.running = none ∧ t.seq.timer = none ∧ t.seq.armedRemaining = 0 ∧
    t.seq.armedAtStart = s.seq.armedAtStart
  lastClose : t.seq.lastClose = match s.seq.running with
    | some k => some (k, .restart)
    | none => s.seq.lastClose
  reference : t.ref = { s.ref with lossReported := false }
  tables : t.plan = s.plan ∧ t.tags = s.tags ∧ t.admissions = s.admissions ∧ t.profiles = s.profiles ∧ t.seals = s.seals
  store : t.store.activity = (if s.store.activity = .saving then .idle else s.store.activity) ∧
    t.store.faults = s.store.faults ∧ (s.store.activity = .loading → t.store.slot = s.store.slot)
  flash : (∀ n, n ≠ s.store.slot ∨ s.store.activity ≠ .saving → place t.flash n = place s.flash n) ∧
    (place t.flash s.store.slot = place s.flash s.store.slot ∨ place t.flash s.store.slot = some .interrupted)
  positions : ∀ p, isPosition p = true → (t.position p).state = stateAfterRestart (s.position p) ∧
    (t.position p).cmp = Comparator.idle ∧ (t.position p).taken = (s.position p).taken ∧
    (t.position p).bound = (s.position p).bound ∧ (t.position p).identity = none ∧
    (t.position p).pin = (s.position p).pin ∧ (t.position p).raw = (s.position p).raw ∧
    (t.position p).debounce =
      (if (s.position p).raw = (s.position p).taken then none else some s.port.bench.debounce) ∧
    (t.position p).given = false ∧
    ((t.position p).held = true ↔ (s.position p).state = .bound ∨
      ((s.position p).state = .identifying ∧ (s.position p).held = true)) ∧
    (stateAfterRestart (s.position p) = .identifying → (t.position p).phase = some .ident ∧
      (t.position p).item.map (·.work) = some .ident) ∧
    (stateAfterRestart (s.position p) ≠ .identifying → (t.position p).phase = none ∧ (t.position p).item = none)
  claims : t.inFlight = s.inFlight.filter isOrphan
  lanes : ∃ u : State, t = u.settle ∧
    (∀ l, isLane l = true → u.lane l = { s.lane l with
      state := .idle, pointer := 8 * (l - 1) + 1, budget := 0, timer := none, frames := [] }) ∧
    (∀ p, isPosition p = true → (u.position p).item =
      if stateAfterRestart (s.position p) = .identifying then some ⟨.ident, true, false, 0⟩ else none)
  records : ∀ n r, s.recordAt n = some r → r.state ≠ .writing → r.state ≠ .sealing → t.recordAt n = some r
  writing : ∀ n r, s.recordAt n = some r → r.state = .writing →
    (s.transferPhase r = some .commitSent →
      t.recordAt n = some { r with state := .rejected, cause := some .commitUnknown }) ∧
    (s.transferPhase r ≠ some .commitSent → t.recordAt n = some { r with state := .writePending })
  sealing : ∀ n r, s.recordAt n = some r → r.state = .sealing →
    (r.sealNumber = none → t.recordAt n = some { r with state := s.stateOnReturn r }) ∧
    (∀ number, r.sealNumber = some number → 2 ≤ r.sealAttempts + 1 →
      t.recordAt n = some { r.numberSpoiled number with state := .rejected, cause := some .sealFailed }) ∧
    (∀ number, r.sealNumber = some number → r.sealAttempts + 1 < 2 →
      t.recordAt n = some { r.numberSpoiled number with state := s.stateOnReturn r })

/-- The oldest claim of a stream on its way is c (R10, R65, R116). -/
def State.Claims (s : State) (stream : Claim → Bool) (c : Claim) : Prop := s.inFlight.find? stream = some c

/-- The oldest claim of a stream has been taken. -/
def State.claimTaken (s : State) (stream : Claim → Bool) : State := { s with inFlight := s.inFlight.eraseP stream }

/-- R206: the value of a bench parameter by its code. -/
def State.benchValue (s : State) (code : Nat) : Nat :=
  match code with
  | 1 => s.ref.kref
  | 2 => s.port.bench.refTimeout
  | 3 => s.port.bench.replyTimeout
  | 4 => s.port.bench.retryLimit
  | 5 => s.port.bench.burstCap
  | 6 => s.port.bench.debounce
  | 7 => if s.port.bench.polarity = .activeLow then 0 else 1
  | 8 => if s.port.bench.autoSeal then 1 else 0
  | 9 => s.port.bench.sealLow
  | _ => 0

/-- R76, R89, R91, R92, R93: what the end of point k by a cause leaves: the sequencer IDLE with its last close, every
comparator IDLE, POINT_CLOSED pending, no comparator's claim or finishing report on its way, and the records as the
taking of the comparators' claims leaves them (`taken`). -/
structure PointEnded (k : Nat) (cause : EndCause) (taken s t : State) : Prop where
  sequencer : t.seq = { s.seq with running := none, timer := none, armedRemaining := 0, lastClose := some (k, cause) }
  comparators : ∀ p, isPosition p = true → (t.position p).cmp = Comparator.idle
  raised : t.port.pendingSet &&& 0x01#8 = 0x01#8
  claims : ∀ c ∈ t.inFlight, isComparatorClaim c = false ∧ isAnyFinishing c = false
  positions : ∀ p, isPosition p = true → (t.position p).state = (s.position p).state ∧
    (t.position p).bound = (s.position p).bound ∧ (t.position p).taken = (s.position p).taken
  records : t.records = taken.records ∧ t.records.map (·.slot) = s.records.map (·.slot) ∧
    t.records.map (·.serial) = s.records.map (·.serial)
  tables : t.plan = s.plan ∧ t.ref = s.ref ∧ t.seals = s.seals ∧ t.profiles = s.profiles ∧ t.tags = s.tags ∧
    t.admissions = s.admissions ∧ t.flash = s.flash ∧ t.store = s.store
  port : t.port.requests = s.port.requests ∧ t.port.answers = s.port.answers ∧ t.port.bench = s.port.bench

/-- The command of a request kind. -/
def RequestKind.command : RequestKind → Instr
  | .getStatus => .getStatus | .setBench => .setBench | .getBench => .getBench | .restart => .restart
  | .setAttention => .setAttention | .ackAttention => .ackAttention | .loadProfile => .loadProfile | .dropProfile => .dropProfile
  | .getProfile => .getProfile | .saveProfiles => .saveProfiles | .setPoint => .setPoint | .clearPoint => .clearPoint
  | .getPlan => .getPlan | .startPoint => .startPoint | .endPoint => .endPoint | .abortPoint => .abortPoint
  | .find => .find | .list => .list | .readRecord => .readRecord | .amendTrim => .amendTrim
  | .reject => .reject | .retire => .retire | .clearFlags => .clearFlags | .seal => .seal
  | .sealAll => .sealAll | .getPositions => .getPositions | .retryPosition => .retryPosition | .setSealRange => .setSealRange
  | .getSealRange => .getSealRange

end Sys2Proof.Machine
end

