-- ==== Sys2Proof/Certificates/Slice0/Obligations.lean ====
section
/-! DEFINITION. The statements about the part, for the provers. -/

open Sys2Proof Sys2Proof.Machine

/-! ### Steps -/

/-- A step takes the command at the front of the queue and runs it with the queue's rest. -/
def Obligations.StepRunsFrontCommand : Prop :=
  ∀ (c : Instr) (rest : List Instr) (s : State), s.pending = c :: rest → step s = exec c { s with pending := rest }

/-- Log entry 3 (the model's choice): on an empty queue a step is one ms: the watchdog time advances and holds at 10,000,
running timers count down, and R97's comparison is made. -/
def Obligations.EmptyQueueIsOneMillisecond : Prop :=
  ∀ s : State, s.pending = [] → ∃ t, step s = .next t ∧
    t.ref.watchdog = min 10000 (s.ref.watchdog + 1) ∧ t.ref.counter = s.ref.counter ∧
    t.seq = { s.seq with timer := s.seq.timer.map (· - 1) } ∧
    (∀ p, isPosition p = true →
      t.position p = { s.position p with debounce := (s.position p).debounce.map (· - 1) }) ∧
    (∀ l, isLane l = true → t.lane l = { s.lane l with timer := (s.lane l).timer.map (· - 1) }) ∧
    (if s.seq.running.isSome = true ∧ s.ref.lossReported = false ∧
        s.port.bench.refTimeout ≤ min 10000 (s.ref.watchdog + 1) then
      t.ref.lossReported = true ∧ t.inFlight = s.inFlight ++ [.refLoss]
    else t.ref.lossReported = s.ref.lossReported ∧ t.inFlight = s.inFlight) ∧
    t.port = s.port ∧ t.records = s.records ∧ t.plan = s.plan ∧ t.seals = s.seals ∧ t.profiles = s.profiles

/-- Every command the world can give completes and leaves the queue of waiting commands alone; a command that names no
position or lane of the part stops with the fault that says so: a command of a position with noSuchPosition, and
LANE_SEND_DONE, PROBE_FRAME_RECEIVED and LANE_REPLY_TIMEOUT with noSuchLane (log entry 23, the model's choice). -/
def Obligations.CommandsCompleteAndLeaveTheQueue : Prop :=
  (∀ (i : Instr) (s : State), i.wellFormed = true → ∃ t : State, exec i s = .next t ∧ t.pending = s.pending) ∧
  (∀ (i : Instr) (s : State), i.wellFormed = false →
    exec i s = .fault .noSuchPosition ∨ exec i s = .fault .noSuchLane) ∧
  (∀ (i : Instr) (p : Nat) (s : State), i.position? = some p → isPosition p = false →
    exec i s = .fault .noSuchPosition) ∧
  (∀ (l : Nat) (bytes : List Byte) (s : State), isLane l = false →
    exec (.laneSendDone l) s = .fault .noSuchLane ∧ exec (.probeFrameReceived l bytes) s = .fault .noSuchLane ∧
    exec (.laneReplyTimeout l) s = .fault .noSuchLane)

/-! ### Invariants -/

/-- R52, R151, R75, R1, R32, R48: every step keeps the numbers of positions, lanes, indices, slots, profile codes and
stored slots; R195: every step leaves at most 4 messages in each queue of the port. -/
def Obligations.ShapeAndQueuesKeptByEveryStep : Prop :=
  (∀ s t : State, s.Shaped → step s = .next t → t.Shaped) ∧
  (∀ s t : State, s.QueuesBounded → step s = .next t → t.QueuesBounded)

/-- R152: after every step no lane stands IDLE while a position of its lane is requesting. -/
def Obligations.LanesStayServed : Prop :=
  ∀ s t : State, s.Shaped → s.LanesServed → step s = .next t → t.LanesServed

/-- R177, R178: every step keeps next within first..last + 1 and above the last number issued, and no step but POWER_ON
lowers the last number issued. -/
def Obligations.SealNumbersStaySoundAndIncrease : Prop :=
  ∀ s t : State, s.seals.Sound → step s = .next t →
    t.seals.Sound ∧ (s.pending.head? ≠ some .powerOn → s.seals.lastIssued ≤ t.seals.lastIssued)

/-- R83: the plan and Kref are fixed for the whole of a point. -/
def Obligations.PlanAndKrefFixedWhileRunning : Prop :=
  ∀ s t : State, s.seq.running.isSome = true → s.pending.head? ≠ some .powerOn → step s = .next t →
    t.plan = s.plan ∧ t.ref.kref = s.ref.kref

/-- R1, R5, R6: every step keeps the records in slots 1..64, one to a slot and one to a serial. R49, R209: it keeps the
part at rest while the power-on load runs. R41: it keeps every record's profile loaded and every pin count the number of
records with the code. R13: it keeps the five counts of every record in their ranges. R8: it keeps both sides of every
binding in agreement: a position holds a bound slot exactly when that record's position field names the position. -/
def Obligations.RecordTableStaysSound : Prop :=
  (∀ s t : State, s.TableSound → step s = .next t → t.TableSound) ∧
  (∀ s t : State, s.LoadingQuiet → step s = .next t → t.LoadingQuiet) ∧
  (∀ s t : State, s.TableSound → s.LoadingQuiet → s.PinsCounted → step s = .next t → t.PinsCounted) ∧
  (∀ s t : State, s.TableSound → s.LoadingQuiet → s.PinsCounted → s.CountsInRange → step s = .next t →
    t.CountsInRange) ∧
  (∀ s t : State, s.Shaped → s.TableSound → s.BindingsSound → step s = .next t → t.BindingsSound)

/-- R19: while a SEALED record stays in the table, a step changes its position field alone. -/
def Obligations.SealedRecordsAreFrozen : Prop :=
  ∀ (s t : State) (n : Nat) (r r' : Record), s.Shaped → s.TableSound → s.recordAt n = some r → r.state = .sealed →
    step s = .next t → t.recordAt n = some r' → t.tag n = s.tag n → s.pending.head? ≠ some .powerOn →
    r' = { r with position := r'.position }

/-- R83, R97: every step keeps the sequencer at rest in IDLE and the watchdog time within 10,000 ms. -/
def Obligations.TimersStayBounded : Prop :=
  ∀ s t : State, s.seq.Rested → s.ref.Bounded → s.port.bench.refTimeout ≤ 10000 → step s = .next t →
    t.seq.Rested ∧ t.ref.Bounded ∧ t.port.bench.refTimeout ≤ 10000

/-- The invariants hold in the state right after power is applied, and that state is as R210 and the blocks' power-on
columns say (R29, R32, R51, R52, R71, R83, R95..R97, R99, R151, R177, R195, R206). The values that the manual does not
give are the model's choice: the input levels (log entry 6), the raw sense before the first sample and the load that has
yet to begin (log entry 7), the erased flash (log entry 8), the mark of R130's item (log entry 12), the burst cap of a
lane (log entry 14), the wires and frames (log entry 20), the transfers and the codec at rest (log entry 21) and the empty
queue of commands (log entry 24). -/
def Obligations.ResetIsPowerOnState : Prop :=
  State.reset.Shaped ∧ State.reset.QueuesBounded ∧ State.reset.LanesServed ∧ State.reset.seals.Sound ∧
    State.reset.TableSound ∧ State.reset.seq.Rested ∧ State.reset.ref.Bounded ∧
    State.reset.port.bench.refTimeout ≤ 10000 ∧ State.reset.LoadingQuiet ∧ State.reset.PinsCounted ∧
    State.reset.CountsInRange ∧ State.reset.BindingsSound ∧ State.reset.PointersOwn ∧
    State.reset.port = {
      requests := [], answers := [], requestTransfer := none, answerTransfer := none, restartPending := false
      pendingSet := 0x80#8, enableSet := 0#8, alwaysReport := false, startKind := .powerOn, warmCause := .none
      bench := { refTimeout := 1000, replyTimeout := 50, retryLimit := 3, burstCap := 32, debounce := 200
                 polarity := .activeLow, autoSeal := false, sealLow := 20 }
      requestWire := .quiet, answerWire := .quiet, attentionWire := .quiet } ∧
    State.reset.ref = { counter := 0#32, kref := 0, watchdog := 0, lossReported := false } ∧
    State.reset.plan = List.replicate 24 none ∧
    State.reset.seq = { running := none, timer := none, armedRemaining := 0, armedAtStart := 0, lastClose := none } ∧
    State.reset.records = [] ∧ State.reset.tags = List.replicate 64 0#8 ∧ State.reset.admissions = 0 ∧
    State.reset.profiles = List.replicate 16 none ∧
    State.reset.store = { activity := .loading, slot := 1, faults := 0 } ∧
    State.reset.flash = List.replicate 16 (.stored (List.replicate 224 0xFF#8)) ∧
    State.reset.seals = { first := 0, last := 0, next := 0, lastIssued := 0 } ∧
    (∀ p, isPosition p = true → State.reset.position p = {
      pin := true, raw := false, taken := false, debounce := none, state := .empty, phase := none, identity := none
      bound := none, held := false, item := none, given := false
      cmp := { state := .idle, handle := none, index := none, params := none, edge := none, start := none, count := 0
               windows := 0, acc := 0 } }) ∧
    (∀ l, isLane l = true → State.reset.lane l = {
      state := .idle, pointer := 8 * (l - 1) + 1, budget := 0, timer := none, mark := 0#8, cap := 32, frames := [] }) ∧
    State.reset.codec = none ∧ State.reset.inFlight = [] ∧ State.reset.pending = []

/-! ### Lanes, codec and arithmetic -/

/-- R152, R154: arbitration leaves everything but lane work. An IDLE lane with a requesting position grants the first
requesting position after its pointer in ascending order, wrapping from the lane's last position to its first and ending
with the pointer's own; the pointer becomes that position, the turn mark increments, wrapping from 255 to 0, and the
burst budget in use starts from 0 and counts the words that the turn sends. R155: the first grant of a WRITE or SEAL item
sends its start claim and no frame; any other grant sends the frames of the item's turn. That these frames are composed
in the grant itself, with the burst cap read there and held in the lane, and that the budget, the send offset and the
COMMIT sent mark (R166) have moved by them in the grant's next state, is log entry 14, the model's reading. R151: every
step keeps each lane's pointer a position of the lane. -/
def Obligations.ArbitrationIsRoundRobin : Prop :=
  (∀ (s : State) (l : Nat), s.Shaped → isLane l = true →
    s.settle.withoutLaneWork = s.withoutLaneWork ∧ s.settle.LanesServed ∧
    ((s.lane l).state ≠ .idle → s.arbitrate l = s) ∧
    ((∀ q, isPosition q = true → laneOf q = l → s.requesting q = false) → s.arbitrate l = s) ∧
    (∀ (p : Nat) (i : Item), s.PointersOwn → (s.lane l).state = .idle → isPosition p = true → laneOf p = l →
      (s.position p).item = some i → i.requesting = true →
      let distance (q : Nat) : Nat := if (s.lane l).pointer < q then q - (s.lane l).pointer else q + 8 - (s.lane l).pointer
      (∀ q, isPosition q = true → laneOf q = l → s.requesting q = true → distance p ≤ distance q) →
      let t := s.arbitrate l
      let mark := (s.lane l).mark + 1#8
      let cap := s.port.bench.burstCap
      let turn := turnOf (p - 8 * (l - 1)) cap mark (s.position p).wordCount i.work
      let granted (frames : List (List Byte)) (budget : Nat) (work : Work) : Prop :=
        t.lane l = { s.lane l with
          state := .granted p, pointer := p, mark := mark, cap := cap, budget := budget, frames := frames } ∧
        t.position p = { s.position p with
          item := some { i with work := work, requesting := false, granted := true } }
      (∀ m, isLane m = true → m ≠ l → t.lane m = s.lane m) ∧
      (∀ q, isPosition q = true → q ≠ p → t.position q = s.position q) ∧
      (∀ h, (s.position p).bound = some h →
        (i.work = .write none → granted [] 0 i.work ∧ t.inFlight = s.inFlight ++ [.writeStart p h]) ∧
        (i.work = .sealLock none → granted [] 0 i.work ∧ t.inFlight = s.inFlight ++ [.sealStart p h])) ∧
      (i.work ≠ .write none → i.work ≠ .sealLock none →
        granted turn.frames turn.budget turn.work ∧ t.inFlight = s.inFlight))) ∧
  (∀ s t : State, s.PointersOwn → step s = .next t → t.PointersOwn)

/-- R139, R140: PACK gives the image length's words; bit i of field j stands at stream bit p_j + i, p_j the sum of the
widths before it, stream bit b at bit b mod 32 of word b / 32, a trim in two's complement on the field's width; the
padding is 0. R141, R142: UNPACK reads each trim from those bits in two's complement and gives the trims in trim order
(R12, R36); the mismatch mark is set exactly when some FIXED field differs. Unpacking a packed image gives the packed
trims, with no mismatch. R37, R38: a trim's width is that of the TRIM field which names it. -/
def Obligations.UnpackOfPackIsIdentity : Prop :=
  ∀ (r : RawProfile) (pf : Profile), validate r = .ok pf →
    let width : LayoutField → Nat := fun f => match f with
      | .trim _ _ w => w
      | .fixed w _ => w
    let offset (j : Nat) : Nat := ((pf.layout.take j).map width).sum
    let streamBit (words : List Word) (b : Nat) : Bool := ((words[b / 32]?).getD 0#32).getLsbD (b % 32)
    (∀ value : Band → Phase → Int,
      (pack pf value).length = pf.imageLength ∧
      (∀ j b ph w i, pf.layout[j]? = some (.trim b ph w) → i < w →
        streamBit (pack pf value) (offset j + i) = (BitVec.ofInt w (value b ph)).getLsbD i) ∧
      (∀ j w v i, pf.layout[j]? = some (.fixed w v) → i < w →
        streamBit (pack pf value) (offset j + i) = v.testBit i) ∧
      (∀ b, offset pf.layout.length ≤ b → streamBit (pack pf value) b = false) ∧
      ((∀ b ph w, trimWidth b ph pf.layout = some w → trimMin w ≤ value b ph ∧ value b ph ≤ trimMax w) →
        unpack pf.layout pf.trimSet (pack pf value) =
          { trims := pf.trimSet.map (fun bp => ⟨bp.1, bp.2, value bp.1 bp.2⟩), mismatch := false })) ∧
    (∀ words : List Word,
      let image := unpack pf.layout pf.trimSet words
      image.trims.map (fun u => (u.band, u.phase)) = pf.trimSet ∧
      (∀ j w u, u ∈ image.trims → pf.layout[j]? = some (.trim u.band u.phase w) →
        -(2 ^ (w - 1) : Nat) ≤ u.value ∧ u.value ≤ (2 ^ (w - 1) : Nat) - 1 ∧
        ∀ i, i < w → (BitVec.ofInt w u.value).getLsbD i = streamBit words (offset j + i)) ∧
      (image.mismatch = true ↔ ∃ j w v i, pf.layout[j]? = some (.fixed w v) ∧ i < w ∧
        streamBit words (offset j + i) ≠ v.testBit i)) ∧
    (∀ b ph w, trimWidth b ph pf.layout = some w ↔ .trim b ph w ∈ pf.layout) ∧
    (∀ w, trimMin w = -(2 ^ (w - 1) : Nat) ∧ trimMax w = (2 ^ (w - 1) : Nat) - 1) ∧
    (let bands : List Band :=
       if pf.bandCount = 1 then [.nominal] else if pf.bandCount = 2 then [.low, .nominal] else [.low, .nominal, .high]
     let phases : List Phase := if pf.elementCount = 3 then [.a, .b, .c] else [.a]
     pf.trimSet = bands.flatMap (fun b => phases.map (fun ph => (b, ph))))

/-- R110, R111: the window error is the integer nearest to the quotient, exact halves away from zero, and is clamped to
the guard range. -/
def Obligations.WindowErrorIsNearestInteger : Prop :=
  ∀ (n kref kmeter c : Nat), 0 < c → 0 < kmeter →
    let num : Int := ((n * kref : Nat) - (c * kmeter : Nat) : Int) * 1000000
    let den : Int := ((c * kmeter : Nat) : Int)
    let e := windowError n kref kmeter c
    2 * (num - e * den).natAbs ≤ den.natAbs ∧
    (2 * (num - e * den).natAbs = den.natAbs → (e * den).natAbs > num.natAbs) ∧
    guardClamp e = (if 9999999 < e then 9999999 else if e < -9999999 then -9999999 else e)

/-- R21, R185: the evaluation of a record, and the auto-seal test that follows a move to PASSED. R64, R129, R186: a
record that enters WRITE_PENDING or SEALING gives its position the work item, which a BOUND position queues. An orphaned
record, a position that is not BOUND, and one that holds an item already are given none (for the last see log entry 12,
the model's choice). -/
def Obligations.EvaluationAutoSealAndWork : Prop :=
  (∀ (s : State) (n : Nat) (r : Record), s.recordAt n = some r →
     let eligible := s.port.bench.autoSeal = true ∧ r.flags.any = false ∧ r.sealAttempts = 0 ∧ s.reachable r = true
     (r.state = .measuring → s.passedCondition r = true → s.evaluate n = (s.moveRecord n .passed).autoSealTest n) ∧
     (r.state = .measuring → s.passedCondition r = false → s.evaluate n = s) ∧
     (r.state = .passed → s.passedCondition r = true → s.evaluate n = s) ∧
     (r.state = .passed → s.passedCondition r = false → s.evaluate n = s.moveRecord n .measuring) ∧
     (r.state ≠ .measuring → r.state ≠ .passed → s.evaluate n = s) ∧
     (¬ eligible → s.autoSealTest n = s) ∧
     (eligible → s.seals.remaining = 0 → s.autoSealTest n = s.raise .sealsExhausted) ∧
     (eligible → 1 ≤ s.seals.remaining → s.autoSealTest n = s.enterSealing n)) ∧
  (∀ (s : State) (n : Nat) (r : Record), s.recordAt n = some r →
     (∀ p, r.position = some p → (s.position p).state = .bound → (s.position p).item = none →
       s.enterWritePending n = (s.moveRecord n .writePending).updPosition p
         (fun x => { x with item := some ⟨.write none, true, false, 0⟩ }) ∧
       s.enterSealing n = (s.moveRecord n .sealing).updPosition p
         (fun x => { x with item := some ⟨.sealLock none, true, false, 0⟩ })) ∧
     ((∀ p, r.position = some p → (s.position p).item ≠ none ∨ (s.position p).state ≠ .bound) →
       s.enterWritePending n = s.moveRecord n .writePending ∧ s.enterSealing n = s.moveRecord n .sealing))

/-- R21: the PASSED condition is that some defined point applies to the record and every point that applies has a PASS
entry. -/
def Obligations.PassedConditionIsAllPass : Prop :=
  ∀ (s : State) (r : Record) (pf : Profile), s.profileAt r.profile = some pf →
    let applies (k : Nat) : Prop := ∃ pt, s.pointAt k = some pt ∧ within 16 r.profile = true ∧
      pt.mask.getLsbD (r.profile - 1) = true ∧ (pt.elements = .a ∨ pt.elements = .abc ∨ pf.elementCount = 3)
    s.passedCondition r = true ↔ (∃ k, within 24 k = true ∧ applies k) ∧
      ∀ k, within 24 k = true → applies k → (r.entry k).status = .pass

/-! ### Starts and the profile flash -/

/-- R29, R51, R71, R210: POWER_ON rebuilds every block from its power-on values; the flash stays but for a slot a save was
writing (log entry 8). The model's choice: the input levels are kept, being the world's (log entry 6), and the raw sense
is deasserted until the first sample (log entry 7). -/
def Obligations.PowerOnRebuildsTheBlocks : Prop :=
  ∀ s : State, ∃ t : State, exec .powerOn s = .next t ∧ t.port = Port.powerOn ∧ t.records = [] ∧
    t.tags = List.replicate 64 0#8 ∧ t.admissions = 0 ∧ t.plan = List.replicate 24 none ∧
    t.profiles = List.replicate 16 none ∧ t.store = { activity := .loading, slot := 1, faults := 0 } ∧
    t.seals = { first := 0, last := 0, next := 0, lastIssued := 0 } ∧
    t.ref = { counter := 0#32, kref := 0, watchdog := 0, lossReported := false } ∧
    t.seq = { running := none, timer := none, armedRemaining := 0, armedAtStart := 0, lastClose := none } ∧
    (∀ p, isPosition p = true → t.position p = Position.powerOn (s.position p).pin) ∧
    (∀ l, isLane l = true → t.lane l = Lane.powerOn l) ∧ t.inFlight = [] ∧
    (s.store.activity ≠ .saving → t.flash = s.flash) ∧
    (∀ n, n ≠ s.store.slot → place t.flash n = place s.flash n)

/-- R212, R200, R211: the RESET line restarts the part; a RESTART takes effect when its OK answer is delivered, or is
discarded by a bus reset. What a restart makes of every block (R30, R51, R72, R94, R175) is `RestartedFrom`; log entries
8, 16, 17 and 18 name what it reads from the manual by inference. R30, R175: the phase of a record's transfer is that of
its position's write, or that its orphan claim on its way carries. -/
def Obligations.WarmRestartsByLineAndRequest : Prop :=
  (∀ (s : State) (r : Record),
    (∀ p, r.position = some p → s.transferPhase r = s.writePhase p) ∧
    (r.position = none →
      (∀ p ph, s.Claims (isOrphanFor ⟨r.slot, s.tag r.slot⟩) (.orphan p ⟨r.slot, s.tag r.slot⟩ ph) →
        s.transferPhase r = ph) ∧
      ((∀ p ph, Claim.orphan p ⟨r.slot, s.tag r.slot⟩ ph ∉ s.inFlight) → s.transferPhase r = none))) ∧
  ∀ s : State, s.Shaped →
    (∃ t : State, exec .warmRestart s = .next t ∧ RestartedFrom .resetLine s t) ∧
    (s.port.restartPending = true → ∃ t : State, exec .usbBusReset s = .next t ∧ RestartedFrom .restartRequest s t) ∧
    (∀ a rest, s.port.restartPending = true → s.port.answers = a :: rest → a.kind = 0x04#8 → a.code = .ok →
      ∃ t : State, exec .answerDelivered s = .next t ∧ RestartedFrom .restartRequest s t ∧ t.port.answerWire = .data a.wire)

/-- R48: what a stored slot reads as, by its check and its mark. R49: the power-on load treats the stored slot it has
reached, by the rows of R49's table. R54, R71: at the end of the load, after slot 16, every position takes its first
sample. R50: the save writes the stored slot it has reached; after slot 16 the state is IDLE and PROFILE_STORE_DONE is
raised, 40h in the pending set. R202: raising a condition adds its bit to the pending set, the bits of [PORT:ATTN]. -/
def Obligations.FlashIsLoadedAndSavedBySlots : Prop :=
  (∀ (s : State) (c : Condition),
     let bit : Byte := match c with
       | .pointClosed => 0x01 | .recordsChanged => 0x02 | .positionsChanged => 0x04 | .refLost => 0x08
       | .sealLow => 0x10 | .sealsExhausted => 0x20 | .profileStoreDone => 0x40 | .restarted => 0x80
     s.raise c = { s with port := { s.port with pendingSet := s.port.pendingSet ||| bit } }) ∧
  (∀ bytes : List Byte,
     let sum := leNat ((bytes.drop 222).take 2)
     let mark := leNat (bytes.take 1)
     let matching : Prop := sum = (check (bytes.take 222)).toNat
     (¬ matching ∨ (mark ≠ 0x3C ∧ mark ≠ 0xA5) → readStored (.stored bytes) = .loadFault) ∧
     (matching → mark = 0x3C → readStored (.stored bytes) = .empty) ∧
     (matching → mark = 0xA5 → readStored (.stored bytes) = .candidate (rawProfile (bytes.drop 1)))) ∧
  (∀ (s : State) (n : Nat), s.Shaped → s.store.activity = .loading → s.store.slot = n → 1 ≤ n → n ≤ 16 →
     ∃ t : State, exec .profileLoadSlot s = .next t ∧
       (n < 16 → t.store.activity = .loading ∧ t.store.slot = n + 1) ∧ (n = 16 → t.store.activity = .idle) ∧
       (let read := readStored ((place s.flash n).getD (.stored (List.replicate 224 0xFF#8)))
        let held (typeCode : Nat) : Prop := ∃ c q, within 16 c = true ∧ c ≠ n ∧ s.profileAt c = some q ∧
          q.typeCode = typeCode
        let empty : Prop := place t.profiles n = some none ∧ t.store.faults = s.store.faults
        let fault : Prop := place t.profiles n = some none ∧ t.store.faults = s.store.faults + 1
        (read = .empty → empty) ∧ (read = .loadFault → fault) ∧
        (∀ raw, read = .candidate raw →
          (∀ idx, validate raw = .error idx → fault) ∧
          (∀ pf, validate raw = .ok pf → (held pf.typeCode → fault) ∧
            (¬ held pf.typeCode → place t.profiles n = some (some ⟨pf, 0⟩) ∧ t.store.faults = s.store.faults)))) ∧
       (∀ m, m ≠ n → place t.profiles m = place s.profiles m) ∧
       (∀ p, isPosition p = true →
         t.position p = if n = 16 then sampledPosition s.port.bench (s.position p) else s.position p) ∧
       t.flash = s.flash ∧ t.records = s.records ∧ t.lanes = s.lanes ∧ t.ref = s.ref ∧ t.seq = s.seq ∧ t.seals = s.seals) ∧
  (∀ (s : State) (n : Nat), s.store.activity = .saving → s.store.slot = n →
     let flash := setPlace s.flash n (storedSlot (s.profileSlot n))
     (n < 16 → exec .profileSaveSlot s = .next { s with flash := flash, store := { s.store with slot := n + 1 } }) ∧
     (n = 16 → exec .profileSaveSlot s = .next { s with
       flash := flash, store := { s.store with activity := .idle, slot := 1 }
       port := { s.port with pendingSet := s.port.pendingSet ||| 0x40#8 } }))

/-! ### The pipes -/

/-- R196: the request pipe accepts a message, cut to 256 bytes, or NAKs it. R199, R200: the oldest answer is
delivered and leaves the queue, an empty queue NAKs, and a bus reset with no RESTART pending empties both queues;
nothing else changes. -/
def Obligations.PipesAcceptAndDeliver : Prop :=
  (∀ (s : State) (bytes : List Byte),
     (s.port.requests.length < 4 → s.store.activity ≠ .loading → s.port.restartPending = false →
       exec (.requestMessageAccepted bytes) s = .next { s with port := { s.port with
         requests := s.port.requests ++ [⟨bytes.take 256, decide (256 < bytes.length)⟩], requestWire := .accepted } }) ∧
     (4 ≤ s.port.requests.length ∨ s.store.activity = .loading ∨ s.port.restartPending = true →
       exec (.requestMessageAccepted bytes) s = .next { s with port := { s.port with requestWire := .nak } })) ∧
  (∀ s : State,
     (∀ a rest, s.port.answers = a :: rest → (s.port.restartPending = false ∨ a.kind ≠ 0x04#8 ∨ a.code ≠ .ok) →
       exec .answerDelivered s = .next { s with port := { s.port with answers := rest, answerWire := .data a.wire } }) ∧
     (s.port.answers = [] → exec .answerDelivered s = .next { s with port := { s.port with answerWire := .nak } }) ∧
     (s.port.restartPending = false → exec .usbBusReset s = .next { s with port := { s.port with
       requests := [], answers := [], requestTransfer := none, answerTransfer := none } }))

/-- R198: the five conditions that make a message malformed, and the tag and kind its answer echoes, 0 below 3 bytes; a
malformed message is answered MALFORMED and changes no state but the queues. Where the oldest message is not malformed,
or may not be taken, nothing happens (log entry 2, the model's choice). R213: the kind codes and argument lengths are
those of the catalogue, SET_BENCH's by its count, whose assignments are code and value. R201, R213: an answer is sent as
tag, kind, code and body length, then the body, the codes those of [PORT:CODES]. -/
def Obligations.MalformedMessagesAreAnsweredMalformed : Prop :=
  (∀ k : RequestKind, k.code = match k with
    | .getStatus => 0x01#8 | .setBench => 0x02#8 | .getBench => 0x03#8 | .restart => 0x04#8 | .setAttention => 0x05#8
    | .ackAttention => 0x06#8 | .loadProfile => 0x10#8 | .dropProfile => 0x11#8 | .getProfile => 0x12#8
    | .saveProfiles => 0x13#8 | .setPoint => 0x20#8 | .clearPoint => 0x21#8 | .getPlan => 0x22#8
    | .startPoint => 0x28#8 | .endPoint => 0x29#8 | .abortPoint => 0x2A#8 | .find => 0x30#8 | .list => 0x31#8
    | .readRecord => 0x32#8 | .amendTrim => 0x33#8 | .reject => 0x34#8 | .retire => 0x35#8 | .clearFlags => 0x36#8
    | .seal => 0x37#8 | .sealAll => 0x38#8 | .getPositions => 0x40#8 | .retryPosition => 0x41#8
    | .setSealRange => 0x48#8 | .getSealRange => 0x49#8) ∧
  (∀ (k : RequestKind) (args : List Byte), k.argLength args = match k with
    | .getStatus => 0 | .setBench => 1 + 5 * leNat (args.take 1) | .getBench => 0 | .restart => 0 | .setAttention => 2
    | .ackAttention => 1 | .loadProfile => 222 | .dropProfile => 1 | .getProfile => 1 | .saveProfiles => 0
    | .setPoint => 30 | .clearPoint => 1 | .getPlan => 0 | .startPoint => 1 | .endPoint => 0 | .abortPoint => 0
    | .find => 21 | .list => 2 | .readRecord => 2 | .amendTrim => 8 | .reject => 3 | .retire => 2 | .clearFlags => 2
    | .seal => 2 | .sealAll => 0 | .getPositions => 0 | .retryPosition => 1 | .setSealRange => 8
    | .getSealRange => 0) ∧
  (∀ (n : Nat) (bs : List Byte), assignments 0 bs = [] ∧
    assignments (n + 1) bs = (leNat (bs.take 1), leNat ((bs.drop 1).take 4)) :: assignments n (bs.drop 5)) ∧
  (∀ a : Answer,
    let code : Byte := match a.code with
      | .ok => 0 | .accepted => 1 | .busy => 2 | .badState => 3 | .badArgument => 4 | .badProfile => 5 | .noSuch => 6
      | .staleHandle => 7 | .full => 8 | .duplicate => 9 | .pinned => 10 | .notReady => 11 | .sealsExhausted => 12
      | .flagsSet => 13 | .imageOdd => 14 | .malformed => 15
    a.wire = leBytes 2 a.tag.toNat ++ [a.kind, code] ++ leBytes 2 a.body.length ++ a.body) ∧
  (∀ m : Message,
    let args := m.bytes.drop 5
    let tag : BitVec 16 := if m.bytes.length < 3 then 0 else BitVec.ofNat 16 (leNat (m.bytes.take 2))
    let kind : Byte := if m.bytes.length < 3 then 0 else (m.bytes.drop 2).headD 0
    let short : Prop := m.bytes.length < 5
    let lengthDiffers : Prop := leNat ((m.bytes.drop 3).take 2) ≠ m.bytes.length - 5
    let noSuchKind : Prop := ∀ k : RequestKind, k.code ≠ kind
    let wrongArguments : Prop := ∃ k : RequestKind, k.code = kind ∧ args.length ≠ k.argLength args
    let malformed : Prop := short ∨ m.overlong = true ∨ lengthDiffers ∨ noSuchKind ∨ wrongArguments
    (malformed → openMessage m = .malformed tag kind) ∧
    (¬ malformed → ∃ k : RequestKind, k.code = kind ∧ openMessage m = .request tag k args)) ∧
  (∀ (tag : BitVec 16) (k : RequestKind) (args : List Byte), args.length = k.argLength args → args.length < 65536 →
    openMessage ⟨leBytes 2 tag.toNat ++ [k.code] ++ leBytes 2 args.length ++ args, false⟩ = .request tag k args) ∧
  (∀ (tag : BitVec 16) (k : RequestKind) (args : List Byte), args.length ≠ k.argLength args → args.length < 65536 →
    openMessage ⟨leBytes 2 tag.toNat ++ [k.code] ++ leBytes 2 args.length ++ args, false⟩ = .malformed tag k.code) ∧
  (∀ (s : State) (m : Message) (rest : List Message) (tag : BitVec 16) (kind : Byte),
    s.port.requests = m :: rest → s.port.answers.length < 4 → s.port.restartPending = false →
    openMessage m = .malformed tag kind →
    exec .malformedRequest s = .next { s with port := { s.port with
      requests := rest, answers := s.port.answers ++ [⟨tag, kind, .malformed, []⟩] } }) ∧
  (∀ s : State, (s.port.requests = [] ∨ 4 ≤ s.port.answers.length ∨ s.port.restartPending = true) →
    exec .malformedRequest s = .next s) ∧
  (∀ (s : State) (m : Message) (rest : List Message) (tag : BitVec 16) (k : RequestKind) (args : List Byte),
    s.port.requests = m :: rest → openMessage m = .request tag k args → exec .malformedRequest s = .next s)

/-- R197, R201: a request taken is answered once, the answer standing at the end of the answer queue, and an answer that
is neither OK nor ACCEPTED changes no state; where the port may not take the request, or the oldest message is not this
request, nothing happens (log entry 2, the model's choice). -/
def Obligations.RequestsAreAnsweredOnce : Prop :=
  ∀ (k : RequestKind) (s : State),
    (∀ tag args rest, s.Offers k tag args rest → ∃ (t : State) (c : AnswerCode) (body : List Byte),
      exec k.command s = .next (t.answered tag k c body) ∧
      t.port.answers = s.port.answers ∧ t.port.requests = rest ∧
      (c ≠ .ok → c ≠ .accepted → t = s.dequeued rest ∧ (c ≠ .badProfile → body = []))) ∧
    ((∀ tag args rest, ¬ s.Offers k tag args rest) → exec k.command s = .next s)

/-! ### Requests that read -/

/-- R74, R82, R209: GET_STATUS, GET_PLAN and GET_POSITIONS answer OK with their reports and change no state but the
queues. The fields of the status report, 52 bytes, of a plan place, 30 bytes, and of a position report, 34 bytes, stand in
the order and widths of [PORT:FMT:STAT] and [PORT:FMT:BLK], with the codes of [PORT:FMT]. -/
def Obligations.ReportsChangeNoState : Prop :=
  (∀ s : State,
    let records (st : RecordState) : Nat := (s.records.filter (fun r => decide (r.state = st))).length
    let positions (st : PositionState) : Nat := (s.positions.filter (fun x => decide (x.state = st))).length
    let cause : WarmCause → Nat := fun c => match c with
      | .none => 0 | .resetLine => 1 | .restartRequest => 2
    let close : EndCause → Nat := fun c => match c with
      | .complete => 0 | .ended => 1 | .timedOut => 2 | .refLost => 3 | .aborted => 4 | .restart => 5
    s.statusReport.length = 52 ∧
    s.statusReport =
      leBytes 2 0x5348 ++ leBytes 2 4860 ++ leBytes 1 1 ++
      leBytes 1 (if s.port.startKind = .powerOn then 0 else 1) ++ leBytes 1 (cause s.port.warmCause) ++
      leBytes 1 (records .measuring) ++ leBytes 1 (records .writePending) ++ leBytes 1 (records .writing) ++
      leBytes 1 (records .passed) ++ leBytes 1 (records .sealing) ++ leBytes 1 (records .sealed) ++
      leBytes 1 (records .rejected) ++
      leBytes 1 (64 - s.records.length) ++ leBytes 4 s.admissions ++
      leBytes 1 (positions .empty) ++ leBytes 1 (positions .settling) ++ leBytes 1 (positions .identifying) ++
      leBytes 1 (positions .waitingSlot) ++ leBytes 1 (positions .bound) ++ leBytes 1 (positions .conflict) ++
      leBytes 1 (positions .unknownType) ++ leBytes 1 (positions .fault) ++ leBytes 1 (positions .spent) ++
      leBytes 1 (if s.seq.running.isSome = true then 1 else 0) ++ leBytes 1 (s.seq.running.getD 0) ++
      leBytes 1 s.seq.armedRemaining ++ leBytes 2 ((s.seq.timer.getD 0 + 999) / 1000) ++ leBytes 1 s.seq.armedAtStart ++
      (match s.seq.lastClose with
        | none => [0#8, 0#8, 0#8]
        | some c => [1#8] ++ leBytes 1 c.1 ++ leBytes 1 (close c.2)) ++
      leBytes 4 (if s.seals.first = 0 then 0 else s.seals.last + 1 - s.seals.next) ++
      leBytes 1 (if s.store.activity = .saving then 1 else 0) ++ leBytes 1 s.store.faults ++
      leBytes 4 s.ref.counter.toNat ++ leBytes 2 s.ref.watchdog ++ [s.port.pendingSet, s.port.enableSet] ++
      [if s.port.alwaysReport = true then 1#8 else 0#8]) ∧
  (∀ (p : Nat) (x : Position),
    let state : PositionState → Nat := fun st => match st with
      | .empty => 0 | .settling => 1 | .identifying => 2 | .waitingSlot => 3 | .bound => 4 | .conflict => 5
      | .unknownType => 6 | .fault => 7 | .spent => 8
    let cmp : ComparatorState → Nat := fun st => match st with
      | .idle => 0 | .armed => 1 | .counting => 2 | .stalled => 3 | .done => 4
    let work : Work → Nat := fun w => match w with
      | .ident => 1 | .readImage _ _ => 2 | .write _ => 3 | .sealLock _ => 4
    let serial : List Byte := match x.identity with
      | none => List.replicate 21 0#8
      | some d => leBytes 1 d.serial.length ++ d.serial ++ List.replicate (20 - d.serial.length) 0#8
    ((∀ d, x.identity = some d → d.serial.length ≤ 20) → (positionReport p x).length = 34) ∧
    positionReport p x =
      leBytes 1 p ++ leBytes 1 ((p - 1) / 8 + 1) ++ leBytes 1 (state x.state) ++ [if x.taken = true then 1#8 else 0#8] ++
      (match x.bound with
        | none => [0#8, 0#8, 0#8]
        | some h => [1#8] ++ leBytes 1 h.slot ++ [h.tag]) ++
      [if x.held = true then 1#8 else 0#8] ++
      leBytes 1 (if x.phase = some .ident then 1 else if x.phase = some .image then 2 else 0) ++ serial ++
      leBytes 2 ((x.identity.map (·.typeCode)).getD 0) ++ leBytes 1 ((x.item.map (fun i => work i.work)).getD 0) ++
      leBytes 1 (cmp x.cmp.state)) ∧
  ∀ (s : State) (tag : BitVec 16) (args : List Byte) (rest : List Message),
    (s.Offers .getStatus tag args rest →
      exec .getStatus s = .next ((s.dequeued rest).answered tag .getStatus .ok s.statusReport)) ∧
    (s.Offers .getPlan tag args rest →
      exec .getPlan s = .next ((s.dequeued rest).answered tag .getPlan .ok (s.plan.flatMap (fun place => match place with
        | none => List.replicate 30 0#8
        | some pt => [1#8] ++
          leBytes 1 (match pt.elements with
            | .a => 0 | .b => 1 | .c => 2 | .abc => 3) ++
          leBytes 4 pt.current ++ [if pt.role = .adjust then 0#8 else 1#8] ++ leBytes 2 pt.pulses ++
          leBytes 1 pt.windows ++ pt.tolerances.flatMap (leBytes 4) ++ leBytes 2 pt.timeout ++
          leBytes 2 pt.mask.toNat)))) ∧
    (s.Offers .getPositions tag args rest →
      exec .getPositions s = .next ((s.dequeued rest).answered tag .getPositions .ok
        ((places 48).flatMap (fun p => positionReport p (s.position p)))))

/-- R208: GET_BENCH answers with the nine parameters and changes no state. -/
def Obligations.GetBenchReportsParameters : Prop :=
  ∀ (s : State) (tag : BitVec 16) (args : List Byte) (rest : List Message), s.Offers .getBench tag args rest →
    exec .getBench s = .next ((s.dequeued rest).answered tag .getBench .ok
      (leBytes 4 s.ref.kref ++ leBytes 2 s.port.bench.refTimeout ++ leBytes 2 s.port.bench.replyTimeout ++
       leBytes 1 s.port.bench.retryLimit ++ leBytes 1 s.port.bench.burstCap ++ leBytes 2 s.port.bench.debounce ++
       [if s.port.bench.polarity = .activeLow then 0#8 else 1#8] ++
       [if s.port.bench.autoSeal = true then 1#8 else 0#8] ++ leBytes 2 s.port.bench.sealLow))

/-- R23: FIND answers with the handle of the record that holds the serial, NO_SUCH or BAD_ARGUMENT, and changes no
state. R24: LIST answers with the handles of the records that match, in admission order, or BAD_ARGUMENT. -/
def Obligations.FindAndListAnswer : Prop :=
  (∀ (s : State) (tag : BitVec 16) (rest : List Message), s.TableSound →
     (∀ serial r, serialOk serial = true → s.Offers .find tag (serialBytes (some serial)) rest → r ∈ s.records →
       r.serial = serial →
       exec .find s = .next ((s.dequeued rest).answered tag .find .ok [BitVec.ofNat 8 r.slot, s.tag r.slot])) ∧
     (∀ serial, serialOk serial = true → s.Offers .find tag (serialBytes (some serial)) rest →
       (∀ r ∈ s.records, r.serial ≠ serial) →
       exec .find s = .next ((s.dequeued rest).answered tag .find .noSuch [])) ∧
     (∀ args, s.Offers .find tag args rest →
       (uField args 0 1 < 4 ∨ 20 < uField args 0 1 ∨
         serialOk ((args.drop 1).take (uField args 0 1)) = false) →
       exec .find s = .next ((s.dequeued rest).answered tag .find .badArgument []))) ∧
  (∀ (s : State) (tag : BitVec 16) (states filter : Byte) (rest : List Message),
     s.Offers .list tag [states, filter] rest →
     ((states = 0#8 ∨ 128 ≤ states.toNat ∨ 3 ≤ filter.toNat) →
       exec .list s = .next ((s.dequeued rest).answered tag .list .badArgument [])) ∧
     (states ≠ 0#8 → states.toNat < 128 → filter.toNat < 3 →
       let found := s.records.filter (fun r => states.toNat.testBit r.state.code &&
         (filter == 0#8 || (filter == 1#8 && r.position.isSome) || (filter == 2#8 && r.position.isNone)))
       exec .list s = .next ((s.dequeued rest).answered tag .list .ok
         (leBytes 1 found.length ++ found.flatMap (fun r => [BitVec.ofNat 8 r.slot, s.tag r.slot])))))

/-- R3: the checks of a handle in their order. R25, R47: READ_RECORD and GET_PROFILE answer with the record and the
profile as held and change no state. The fields of the read-out, 273 + 10n bytes for n trims, stand in the order and
widths of [PORT:FMT:REC], with the codes of [PORT:FMT]; those of a profile block, 221 bytes, in the order and widths of
[PORT:FMT:BLK]. R214: the bytes of a handle, a serial and an S32. -/
def Obligations.HandlesResolveAndReadsAnswer : Prop :=
  (∀ pf : Profile,
    let band : Band → Byte := fun b => match b with
      | .low => 0 | .nominal => 1 | .high => 2
    let phase : Phase → Byte := fun p => match p with
      | .a => 0 | .b => 1 | .c => 2
    let width : LayoutField → Nat := fun f => match f with
      | .trim _ _ w => w
      | .fixed w _ => w
    (pf.layout.length ≤ 24 → (profileBlock pf).length = 221) ∧
    profileBlock pf =
      leBytes 2 pf.typeCode ++ leBytes 1 pf.elementCount ++ leBytes 4 pf.kmeter ++
      [if pf.pulseEdge = .rising then 0#8 else 1#8] ++ leBytes 2 pf.minWidth ++
      [if pf.glitchPolicy = .stall then 0#8 else 1#8] ++ leBytes 1 pf.bandCount ++ leBytes 4 pf.t1 ++
      leBytes 4 pf.t2 ++ leBytes 1 pf.accuracyClass ++ leBytes 1 pf.trimUnit ++ leBytes 4 pf.adjustLimit ++
      leBytes 1 pf.maxRounds ++ leBytes 1 pf.layout.length ++
      (pf.layout.flatMap (fun f => match f with
        | .trim b ph w => [1#8, band b, phase ph] ++ leBytes 1 w ++ leBytes 4 0
        | .fixed w v => [2#8, 0#8, 0#8] ++ leBytes 1 w ++ leBytes 4 v) ++
        List.replicate (192 - 8 * pf.layout.length) 0#8) ++
      leBytes 1 pf.imageLength ∧
    layoutWidth pf.layout = (pf.layout.map width).sum) ∧
  (∀ (h : Handle) (v : Int) (args serial : List Byte),
    handleBytes h = leBytes 1 h.slot ++ [h.tag] ∧ s32Bytes v = leBytes 4 (v % 2 ^ 32).toNat ∧
    handleArg args 0 = ⟨leNat (args.take 1), BitVec.ofNat 8 (leNat ((args.drop 1).take 1))⟩ ∧
    serialBytes (some serial) = leBytes 1 serial.length ++ serial ++ List.replicate (20 - serial.length) 0#8) ∧
  (∀ (t : Byte) (r : Record),
    let state : RecordState → Nat := fun st => match st with
      | .measuring => 0 | .writePending => 1 | .writing => 2 | .passed => 3 | .sealing => 4 | .sealed => 5 | .rejected => 6
    let status : EntryStatus → Nat := fun st => match st with
      | .none => 0 | .pass => 1 | .fail => 2 | .adjusted => 3 | .stale => 4 | .noPulse => 5 | .incomplete => 6
      | .glitch => 7 | .refLost => 8
    let cause : RejectCause → List Byte := fun c => match c with
      | .outOfRange => [1, 0] | .adjustLimit => [2, 0] | .writeFailed => [3, 0] | .commitUnknown => [4, 0]
      | .commitMismatch => [5, 0] | .sealMismatch => [6, 0] | .sealRefused => [7, 0] | .sealFailed => [8, 0]
      | .byRequest b => [9, b]
    let bit (b : Bool) (value : Nat) : Nat := if b = true then value else 0
    let band : Band → Byte := fun b => match b with
      | .low => 0 | .nominal => 1 | .high => 2
    let phase : Phase → Byte := fun p => match p with
      | .a => 0 | .b => 1 | .c => 2
    (r.serial.length ≤ 20 → r.spoiled.length ≤ 2 → r.results.length = 24 →
      (readOut t r).length = 273 + 10 * r.trims.length) ∧
    readOut t r =
      leBytes 1 r.slot ++ [t] ++ leBytes 4 r.admission ++
      (leBytes 1 r.serial.length ++ r.serial ++ List.replicate (20 - r.serial.length) 0#8) ++
      leBytes 1 r.profile ++ leBytes 1 (state r.state) ++
      (match r.position with
        | none => [0#8, 0#8]
        | some p => [1#8] ++ leBytes 1 p) ++
      leBytes 1 r.rounds ++ leBytes 1 r.generation ++ leBytes 1 r.writeFailures ++ leBytes 1 r.sealAttempts ++
      leBytes 1 (bit r.flags.saturated 1 + bit r.flags.glitch 2 + bit r.flags.trimLimit 4 + bit r.flags.imageOdd 8) ++
      (match r.sealNumber with
        | none => List.replicate 5 0#8
        | some n => [1#8] ++ leBytes 4 n) ++
      (match r.recordCheck with
        | none => List.replicate 3 0#8
        | some c => [1#8] ++ leBytes 2 c.toNat) ++
      (match r.cause with
        | none => List.replicate 3 0#8
        | some c => [1#8] ++ cause c) ++
      leBytes 1 r.spoiled.length ++
      (r.spoiled.flatMap (leBytes 4) ++ List.replicate (8 - 4 * r.spoiled.length) 0#8) ++
      leBytes 1 r.trims.length ++
      r.trims.flatMap (fun u => [band u.band, phase u.phase] ++ s32Bytes u.meter ++ s32Bytes u.target) ++
      r.results.flatMap (fun e => leBytes 1 (status e.status) ++
        (match e.error with
          | none => List.replicate 5 0#8
          | some v => [1#8] ++ s32Bytes v) ++
        leBytes 1 e.windows ++ [if e.saturated = true then 1#8 else 0#8] ++ leBytes 1 e.generation)) ∧
  ∀ (s : State) (h : Handle) (tag : BitVec 16) (args : List Byte) (rest : List Message),
    (within 64 h.slot = false → s.resolve h = .error .badArgument) ∧
    (within 64 h.slot = true → s.recordAt h.slot = none → s.resolve h = .error .noSuch) ∧
    (∀ r, within 64 h.slot = true → s.recordAt h.slot = some r → s.tag h.slot ≠ h.tag →
      s.resolve h = .error .staleHandle) ∧
    (∀ r, within 64 h.slot = true → s.recordAt h.slot = some r → s.tag h.slot = h.tag → s.resolve h = .ok r) ∧
    (∀ r, s.Offers .readRecord tag args rest → s.resolve (handleArg args 0) = .ok r →
      exec .readRecord s = .next ((s.dequeued rest).answered tag .readRecord .ok (readOut (s.tag r.slot) r))) ∧
    (∀ c, s.Offers .readRecord tag args rest → s.resolve (handleArg args 0) = .error c →
      exec .readRecord s = .next ((s.dequeued rest).answered tag .readRecord c [])) ∧
    (∀ ps, s.Offers .getProfile tag args rest → within 16 (uField args 0 1) = true →
      s.profileSlot (uField args 0 1) = some ps →
      exec .getProfile s = .next ((s.dequeued rest).answered tag .getProfile .ok
        (leBytes 1 (uField args 0 1) ++ profileBlock ps.profile ++ leBytes 2 (layoutWidth ps.profile.layout) ++
         leBytes 1 ps.pins))) ∧
    (s.Offers .getProfile tag args rest → within 16 (uField args 0 1) = true →
      s.profileSlot (uField args 0 1) = none →
      exec .getProfile s = .next ((s.dequeued rest).answered tag .getProfile .noSuch [])) ∧
    (s.Offers .getProfile tag args rest → within 16 (uField args 0 1) = false →
      exec .getProfile s = .next ((s.dequeued rest).answered tag .getProfile .badArgument []))

/-! ### Requests of the port -/

/-- R203: SET_ATTENTION replaces the enable set and always-report, or is answered BAD_ARGUMENT. R205: a poll reports
pending and enabled conditions, an empty report, or a NAK, and changes nothing else. -/
def Obligations.AttentionIsSetAndReported : Prop :=
  (∀ (s : State) (tag : BitVec 16) (enable always : Byte) (rest : List Message),
     s.Offers .setAttention tag [enable, always] rest →
     let port : Port := { s.port with requests := rest, enableSet := enable, alwaysReport := decide (always = 1#8) }
     (always.toNat ≤ 1 →
       exec .setAttention s = .next (({ s with port := port } : State).answered tag .setAttention .ok
         [s.port.pendingSet, enable])) ∧
     (1 < always.toNat →
       exec .setAttention s = .next ((s.dequeued rest).answered tag .setAttention .badArgument []))) ∧
  (∀ s : State,
     let seen := s.port.pendingSet &&& s.port.enableSet
     let report : PipeResponse :=
       if seen ≠ 0#8 then .data [seen] else if s.port.alwaysReport = true then .data [0#8] else .nak
     exec .attentionPoll s = .next { s with port := { s.port with attentionWire := report } })

/-- R204: ACK_ATTENTION removes the named conditions. R211: taking RESTART sets the restart pending mark. -/
def Obligations.AcknowledgeAndRestartRequests : Prop :=
  ∀ (s : State) (tag : BitVec 16) (named : Byte) (rest : List Message),
    let acked : Port := { s.port with requests := rest, pendingSet := s.port.pendingSet &&& ~~~named }
    let marked : Port := { s.port with requests := rest, restartPending := true }
    (s.Offers .ackAttention tag [named] rest →
      exec .ackAttention s = .next (({ s with port := acked } : State).answered tag .ackAttention .ok
        [s.port.pendingSet &&& ~~~named])) ∧
    (s.Offers .restart tag [] rest →
      exec .restart s = .next (({ s with port := marked } : State).answered tag .restart .ok []))

/-- R206, R207: SET_BENCH makes all its assignments or none. R97, R98: one that changes the reference timeout makes the
watchdog's comparison, and reports the loss where the watchdog time is at or above the new timeout. R54: one that changes
the polarity makes every position sample its input through the new one (log entry 6: the next sample is in the same
step, the model's choice). -/
def Obligations.SetBenchAssignsAllOrNone : Prop :=
  ∀ (s : State) (tag : BitVec 16) (args : List Byte) (rest : List Message), s.Offers .setBench tag args rest →
    let n := uField args 0 1
    let as := assignments n (args.drop 1)
    let refused (c : AnswerCode) : Prop :=
      exec .setBench s = .next ((s.dequeued rest).answered tag .setBench c [])
    let inRange (a : Nat × Nat) : Prop :=
      (a.1 = 1 ∧ 1 ≤ a.2 ∧ a.2 ≤ 4000000000) ∨ (a.1 = 2 ∧ 100 ≤ a.2 ∧ a.2 ≤ 10000) ∨
      (a.1 = 3 ∧ 10 ≤ a.2 ∧ a.2 ≤ 500) ∨ (a.1 = 4 ∧ 1 ≤ a.2 ∧ a.2 ≤ 7) ∨ (a.1 = 5 ∧ 8 ≤ a.2 ∧ a.2 ≤ 64) ∨
      (a.1 = 6 ∧ 20 ≤ a.2 ∧ a.2 ≤ 2000) ∨ (a.1 = 7 ∧ a.2 ≤ 1) ∨ (a.1 = 8 ∧ a.2 ≤ 1) ∨ (a.1 = 9 ∧ a.2 ≤ 1000)
    let sound : Prop := (as.map (·.1)).Nodup ∧ ∀ a ∈ as, inRange a
    let krefOk : Prop := s.seq.running = none ∨ ∀ a ∈ as, a.1 = 1 → a.2 = s.ref.kref
    (n = 0 → refused .badArgument) ∧ (9 < n → refused .full) ∧
    (1 ≤ n → n ≤ 9 → ¬ sound → refused .badArgument) ∧
    (1 ≤ n → n ≤ 9 → sound → ¬ krefOk → refused .busy) ∧
    (1 ≤ n → n ≤ 9 → sound → krefOk →
      ∃ t : State, exec .setBench s = .next (t.answered tag .setBench .ok t.benchReport) ∧
        (∀ a ∈ as, t.benchValue a.1 = a.2) ∧
        (∀ c, c ∉ as.map (·.1) → t.benchValue c = s.benchValue c) ∧
        (let late : Prop := t.port.bench.refTimeout ≠ s.port.bench.refTimeout ∧ s.seq.running ≠ none ∧
           s.ref.lossReported = false ∧ t.port.bench.refTimeout ≤ s.ref.watchdog
         (late → t.ref.lossReported = true ∧ t.inFlight = s.inFlight ++ [.refLoss]) ∧
         (¬ late → t.ref.lossReported = s.ref.lossReported ∧ t.inFlight = s.inFlight)) ∧
        (let sampled : Prop := t.port.bench.polarity ≠ s.port.bench.polarity ∧ s.store.activity ≠ .loading
         (s.Shaped → sampled → (∀ p, isPosition p = true →
             t.position p = sampledPosition t.port.bench (s.position p)) ∧
           ((∃ p, isPosition p = true ∧ (t.position p).state ≠ (s.position p).state) →
             t.port.pendingSet = s.port.pendingSet ||| 0x04#8) ∧
           ((∀ p, isPosition p = true → (t.position p).state = (s.position p).state) →
             t.port.pendingSet = s.port.pendingSet)) ∧
         (¬ sampled → t.positions = s.positions ∧ t.port.pendingSet = s.port.pendingSet)) ∧
        t.port.requests = rest ∧ t.port.answers = s.port.answers ∧ t.port.enableSet = s.port.enableSet ∧
        t.ref.counter = s.ref.counter ∧ t.ref.watchdog = s.ref.watchdog ∧ t.seq = s.seq ∧ t.plan = s.plan ∧
        t.records = s.records ∧ t.profiles = s.profiles ∧ t.seals = s.seals ∧ t.lanes = s.lanes)

/-! ### Profiles -/

/-- R38, R39, R40: what validation checks, in which order, which index it reports, and the forced fields of the profile
it passes. R43, R44: LOAD_PROFILE's checks in their order, and what a taken one does. The fields of a profile block are
read in the order and widths of [PORT:FMT:BLK]. -/
def Obligations.LoadProfileInstallsAndAnnounces : Prop :=
  (∀ (bs : List Byte) (offset width : Nat), uField bs offset width = leNat ((bs.drop offset).take width)) ∧
  (∀ bs : List Byte,
    let field (offset width : Nat) : Nat := leNat ((bs.drop offset).take width)
    rawProfile bs =
      { typeCode := field 0 2, elementCount := field 2 1, kmeter := field 3 4, pulseEdge := field 7 1
        minWidth := field 8 2, glitchPolicy := field 10 1, bandCount := field 11 1, t1 := field 12 4, t2 := field 16 4
        accuracyClass := field 20 1, trimUnit := field 21 1, adjustLimit := field 22 4, maxRounds := field 26 1
        fieldCount := field 27 1
        places := (List.range 24).map (fun j =>
          { kind := field (28 + 8 * j) 1, band := field (29 + 8 * j) 1, phase := field (30 + 8 * j) 1
            width := field (31 + 8 * j) 1, value := field (32 + 8 * j) 4 }) }) ∧
  (∀ r : RawProfile,
    let inRange (i : Nat) : Prop :=
      (i = 1 → 1 ≤ r.typeCode ∧ r.typeCode ≤ 0xFFFE) ∧ (i = 2 → r.elementCount = 1 ∨ r.elementCount = 3) ∧
      (i = 3 → 1 ≤ r.kmeter ∧ r.kmeter ≤ 1000000) ∧ (i = 4 → r.pulseEdge ≤ 1) ∧
      (i = 5 → 1 ≤ r.minWidth ∧ r.minWidth ≤ 10000) ∧ (i = 6 → r.glitchPolicy ≤ 1) ∧
      (i = 7 → r.bandCount = 1 ∨ r.bandCount = 2 ∨ r.bandCount = 3) ∧
      (i = 8 → (r.bandCount = 2 → 1 ≤ r.t1 ∧ r.t1 ≤ 200000) ∧ (r.bandCount = 3 → 1 ≤ r.t1 ∧ r.t1 ≤ 199999)) ∧
      (i = 9 → r.bandCount = 3 → r.t1 + 1 ≤ r.t2 ∧ r.t2 ≤ 200000) ∧ (i = 10 → r.accuracyClass ≤ 3) ∧
      (i = 11 → 1 ≤ r.trimUnit ∧ r.trimUnit ≤ 100) ∧ (i = 12 → 1 ≤ r.adjustLimit ∧ r.adjustLimit ≤ 200000) ∧
      (i = 13 → 1 ≤ r.maxRounds ∧ r.maxRounds ≤ 4) ∧ (i = 14 → 1 ≤ r.fieldCount ∧ r.fieldCount ≤ 24)
    let fields := r.places.take r.fieldCount
    let present (band phase : Nat) : Prop :=
      (band = 1 ∨ (band = 0 ∧ 2 ≤ r.bandCount) ∨ (band = 2 ∧ r.bandCount = 3)) ∧
      (phase = 0 ∨ (r.elementCount = 3 ∧ (phase = 1 ∨ phase = 2)))
    let fieldOk (j : Nat) (f : RawField) : Prop :=
      ((f.kind = 1 ∧ 4 ≤ f.width ∧ f.width ≤ 24 ∧ present f.band f.phase ∧
          ∀ g ∈ fields.take (j - 1), g.kind = 1 → ¬ (g.band = f.band ∧ g.phase = f.phase)) ∨
        (f.kind = 2 ∧ 1 ≤ f.width ∧ f.width ≤ 24 ∧ f.value < 2 ^ f.width)) ∧
      ((fields.take j).map (·.width)).sum ≤ 512
    let passes (j : Nat) : Prop := ∀ f, fields[j - 1]? = some f → fieldOk j f
    let named (band phase : Nat) : Prop := ∃ f ∈ fields, f.kind = 1 ∧ f.band = band ∧ f.phase = phase
    (∀ i, 1 ≤ i → i ≤ 14 → ¬ inRange i → (∀ j, 1 ≤ j → j < i → inRange j) → validate r = .error i) ∧
    ((∀ i, 1 ≤ i → i ≤ 14 → inRange i) →
      (∀ j, 1 ≤ j → j ≤ fields.length → ¬ passes j → (∀ i, 1 ≤ i → i < j → passes i) → validate r = .error (14 + j)) ∧
      ((∀ j, 1 ≤ j → j ≤ fields.length → passes j) →
        (∀ band phase, present band phase → ¬ named band phase → validate r = .error 14) ∧
        ((∀ band phase, present band phase → named band phase) → validate r = .ok
          { typeCode := r.typeCode, elementCount := r.elementCount, kmeter := r.kmeter
            pulseEdge := if r.pulseEdge = 0 then .rising else .falling
            minWidth := r.minWidth, glitchPolicy := if r.glitchPolicy = 0 then .stall else .ignore
            bandCount := r.bandCount
            t1 := if r.bandCount = 1 then 0 else r.t1
            t2 := if r.bandCount = 3 then r.t2 else 0
            accuracyClass := r.accuracyClass, trimUnit := r.trimUnit, adjustLimit := r.adjustLimit
            maxRounds := r.maxRounds
            layout := fields.map (fun f =>
              if f.kind = 1 then
                .trim (if f.band = 0 then .low else if f.band = 1 then .nominal else .high)
                  (if f.phase = 0 then .a else if f.phase = 1 then .b else .c) f.width
              else .fixed f.width f.value)
            imageLength := ((fields.map (·.width)).sum + 31) / 32 })))) ∧
  ∀ (s : State) (tag : BitVec 16) (args : List Byte) (rest : List Message), s.Shaped →
    s.Offers .loadProfile tag args rest →
    let code := uField args 0 1
    let refused (c : AnswerCode) (body : List Byte) : Prop :=
      exec .loadProfile s = .next ((s.dequeued rest).answered tag .loadProfile c body)
    let pinned : Prop := ∃ ps, s.profileSlot code = some ps ∧ 0 < ps.pins
    let elsewhere (typeCode : Nat) : Prop := ∃ c q, within 16 c = true ∧ c ≠ code ∧ s.profileAt c = some q ∧
      q.typeCode = typeCode
    (s.store.activity = .saving → refused .busy []) ∧
    (s.store.activity ≠ .saving → within 16 code = false → refused .badArgument []) ∧
    (∀ idx, s.store.activity ≠ .saving → within 16 code = true → validate (rawProfile (args.drop 1)) = .error idx →
      refused .badProfile (leBytes 1 idx)) ∧
    (∀ pf, s.store.activity ≠ .saving → within 16 code = true → validate (rawProfile (args.drop 1)) = .ok pf →
      (pinned → refused .pinned []) ∧
      (¬ pinned → elsewhere pf.typeCode → refused .duplicate []) ∧
      (¬ pinned → ¬ elsewhere pf.typeCode →
        ∃ t : State, exec .loadProfile s = .next (t.answered tag .loadProfile .ok
            (leBytes 1 pf.imageLength ++ leBytes 2 (layoutWidth pf.layout))) ∧
          place t.profiles code = some (some ⟨pf, 0⟩) ∧
          (∀ c, c ≠ code → place t.profiles c = place s.profiles c) ∧
          (∀ p, isPosition p = true → (s.position p).state = .unknownType →
            (s.position p).identity.map (·.typeCode) = some pf.typeCode →
            (t.position p).state = .identifying ∧ (t.position p).phase = some .ident ∧
            (t.position p).identity = none ∧ (t.position p).item.map (·.work) = some .ident) ∧
          (∀ p, isPosition p = true → ¬ ((s.position p).state = .unknownType ∧
            (s.position p).identity.map (·.typeCode) = some pf.typeCode) →
            { t.position p with item := none } = { s.position p with item := none }) ∧
          t.records = s.records ∧ t.plan = s.plan ∧ t.flash = s.flash ∧ t.store = s.store ∧ t.seq = s.seq ∧
          t.ref = s.ref ∧ t.seals = s.seals))

/-- R46: DROP_PROFILE's checks in their order, and its effect. R50: SAVE_PROFILES is answered ACCEPTED and starts the
save at stored slot 1. -/
def Obligations.DropAndSaveProfiles : Prop :=
  ∀ (s : State) (tag : BitVec 16) (code : Byte) (rest : List Message),
    let dropped (t : State) (c : AnswerCode) : Prop := exec .dropProfile s = .next (t.answered tag .dropProfile c [])
    (s.Offers .dropProfile tag [code] rest →
      (s.store.activity = .saving → dropped (s.dequeued rest) .busy) ∧
      (s.store.activity ≠ .saving → within 16 code.toNat = false → dropped (s.dequeued rest) .badArgument) ∧
      (s.store.activity ≠ .saving → within 16 code.toNat = true → s.profileSlot code.toNat = none →
        dropped (s.dequeued rest) .noSuch) ∧
      (∀ ps, s.store.activity ≠ .saving → within 16 code.toNat = true → s.profileSlot code.toNat = some ps →
        (0 < ps.pins → dropped (s.dequeued rest) .pinned) ∧
        (ps.pins = 0 →
          dropped { s.dequeued rest with profiles := setPlace s.profiles code.toNat none } .ok))) ∧
    (s.Offers .saveProfiles tag [] rest →
      (s.store.activity = .saving →
        exec .saveProfiles s = .next ((s.dequeued rest).answered tag .saveProfiles .busy [])) ∧
      (s.store.activity ≠ .saving →
        exec .saveProfiles s = .next (State.answered
          { s.dequeued rest with store := { s.store with activity := .saving, slot := 1 } }
          tag .saveProfiles .accepted [])))

/-! ### Plan and points -/

/-- R75, R79, R81: SET_POINT and CLEAR_POINT: their checks in their order, and their effect: the index is set and the
reset claim for it is taken in the same change. The fields that pass check 2 of R79 are those within the ranges of R75
with the codes of [PORT:FMT], and the point set holds them. -/
def Obligations.PlanEditsSetAndReset : Prop :=
  (∀ args : List Byte,
    let field (offset width : Nat) : Nat := leNat ((args.drop offset).take width)
    let tolerances := [field 10 4, field 14 4, field 18 4, field 22 4]
    let sound : Prop := field 1 1 ≤ 3 ∧ 1 ≤ field 2 4 ∧ field 2 4 ≤ 200000 ∧ field 6 1 ≤ 1 ∧ 1 ≤ field 7 2 ∧
      field 7 2 ≤ 1000 ∧ 1 ≤ field 9 1 ∧ field 9 1 ≤ 8 ∧ (∀ x ∈ tolerances, 1 ≤ x ∧ x ≤ 100000) ∧ 1 ≤ field 26 2 ∧
      field 26 2 ≤ 3600
    (¬ sound → pointArg args = none) ∧
    (sound → pointArg args = some
      { elements := if field 1 1 = 0 then .a else if field 1 1 = 1 then .b else if field 1 1 = 2 then .c else .abc
        current := field 2 4, role := if field 6 1 = 0 then .adjust else .check, pulses := field 7 2
        windows := field 9 1, tolerances := tolerances, timeout := field 26 2
        mask := BitVec.ofNat 16 (field 28 2) })) ∧
  ∀ (s : State) (tag : BitVec 16) (args : List Byte) (rest : List Message),
    let k := uField args 0 1
    let edited (pt : Option Point) : State := (({ s.dequeued rest with plan := setPlace s.plan k pt }).resetClaim k).settle
    let set (t : State) (c : AnswerCode) : Prop := exec .setPoint s = .next (t.answered tag .setPoint c [])
    let clear (t : State) (c : AnswerCode) : Prop := exec .clearPoint s = .next (t.answered tag .clearPoint c [])
    (s.Offers .setPoint tag args rest →
      (within 24 k = false ∨ pointArg args = none → set (s.dequeued rest) .badArgument) ∧
      (∀ pt, within 24 k = true → pointArg args = some pt →
        (s.seq.running ≠ none → set (s.dequeued rest) .busy) ∧
        (s.seq.running = none → set (edited (some pt)) .ok))) ∧
    (s.Offers .clearPoint tag args rest →
      (within 24 k = false → clear (s.dequeued rest) .badArgument) ∧
      (within 24 k = true → s.seq.running ≠ none → clear (s.dequeued rest) .busy) ∧
      (within 24 k = true → s.seq.running = none → s.pointAt k = none → clear (s.dequeued rest) .noSuch) ∧
      (within 24 k = true → s.seq.running = none → s.pointAt k ≠ none → clear (edited none) .ok))

/-- R80, R81: the reset claim for index k makes entry k of every record outside SEALED NONE and evaluates it. R185: a
record that moves from MEASURING to PASSED goes on to SEALING exactly where the auto-seal test puts it there. -/
def Obligations.ResetClaimClearsAndEvaluates : Prop :=
  ∀ (s : State) (k n : Nat) (r : Record), s.TableSound → within 24 k = true → s.recordAt n = some r →
    let t := s.resetClaim k
    let cleared := r.withEntry k ⟨.none, none, 0, false, 0⟩
    (r.state = .sealed → t.recordAt n = some r) ∧
    (r.state = .writePending ∨ r.state = .writing ∨ r.state = .sealing ∨ r.state = .rejected →
      t.recordAt n = some cleared) ∧
    (r.state = .measuring ∨ r.state = .passed → s.passedCondition cleared = false →
      t.recordAt n = some { cleared with state := .measuring }) ∧
    (r.state = .passed → s.passedCondition cleared = true → t.recordAt n = some { cleared with state := .passed }) ∧
    (r.state = .measuring → s.passedCondition cleared = true →
      let sealing : Prop := s.port.bench.autoSeal = true ∧ r.flags = ⟨false, false, false, false⟩ ∧ r.sealAttempts = 0 ∧
        (∃ p, r.position = some p ∧ (s.position p).state = .bound) ∧ 1 ≤ s.seals.remaining
      (sealing → t.recordAt n = some { cleared with state := .sealing }) ∧
      (¬ sealing → t.recordAt n = some { cleared with state := .passed })) ∧
    t.records.map (·.slot) = s.records.map (·.slot) ∧ t.plan = s.plan ∧ t.seq = s.seq ∧ t.seals = s.seals

/-- R84, R85: START_POINT's checks in their order, which comparators it arms, and what it leaves. R97: it clears the
loss-reported mark and then makes the watchdog's comparison, so that a reference silent for the timeout or longer is
reported lost at once. A loss report left from an ended point is dropped (log entry 15, the model's choice). -/
def Obligations.StartPointArmsComparators : Prop :=
  ∀ (s : State) (tag : BitVec 16) (k : Byte) (rest : List Message), s.Shaped → s.Offers .startPoint tag [k] rest →
    let refused (c : AnswerCode) : Prop :=
      exec .startPoint s = .next ((s.dequeued rest).answered tag .startPoint c [])
    (within 24 k.toNat = false → refused .badArgument) ∧
    (within 24 k.toNat = true → s.seq.running ≠ none → refused .busy) ∧
    (within 24 k.toNat = true → s.seq.running = none → s.ref.kref = 0 → refused .notReady) ∧
    (within 24 k.toNat = true → s.seq.running = none → s.ref.kref ≠ 0 → s.pointAt k.toNat = none →
      refused .noSuch) ∧
    (∀ pt, within 24 k.toNat = true → s.seq.running = none → s.ref.kref ≠ 0 → s.pointAt k.toNat = some pt →
      ∃ (t : State) (n : Nat), exec .startPoint s = .next (t.answered tag .startPoint .ok [k, BitVec.ofNat 8 n]) ∧
        n = ((places 48).filter (fun p => (s.armingOf k.toNat p).isSome)).length ∧
        t.seq = { s.seq with running := some k.toNat, timer := some (1000 * pt.timeout), armedRemaining := n,
                             armedAtStart := n } ∧
        (∀ p, isPosition p = true →
          t.position p = { s.position p with cmp := (s.armingOf k.toNat p).getD (s.position p).cmp }) ∧
        t.records = s.records ∧ t.plan = s.plan ∧ t.lanes = s.lanes ∧ t.seals = s.seals ∧
        t.profiles = s.profiles ∧ t.ref.counter = s.ref.counter ∧ t.ref.kref = s.ref.kref ∧
        t.ref.watchdog = s.ref.watchdog ∧ t.port = { s.port with requests := rest } ∧
        (s.port.bench.refTimeout ≤ s.ref.watchdog → t.ref.lossReported = true ∧
          t.inFlight = s.inFlight.filter (fun c => decide (c ≠ .refLoss)) ++ [.refLoss]) ∧
        (s.ref.watchdog < s.port.bench.refTimeout → t.ref.lossReported = false ∧
          t.inFlight = s.inFlight.filter (fun c => decide (c ≠ .refLoss))))

/-- R85, R101: the four conditions of arming, and what an armed comparator takes. -/
def Obligations.ArmingFollowsItsConditions : Prop :=
  ∀ (s : State) (k p : Nat) (c : Comparator),
    s.armingOf k p = some c ↔ ∃ h r pt pf, (s.position p).bound = some h ∧ s.named h = some r ∧
      s.pointAt k = some pt ∧ s.profileAt r.profile = some pf ∧ (s.position p).state = .bound ∧
      (r.state = .measuring ∨ (r.state = .passed ∧ pt.role = .check)) ∧
      within 16 r.profile = true ∧ pt.mask.getLsbD (r.profile - 1) = true ∧
      (pt.elements = .a ∨ pt.elements = .abc ∨ pf.elementCount = 3) ∧ (s.position p).cmp.state = .idle ∧
      c = { state := .armed, handle := some h, index := some k
            params := some ⟨pt.pulses, pt.windows, pf.pulseEdge, pf.minWidth, pf.glitchPolicy, pf.kmeter, s.ref.kref⟩
            edge := none, start := none, count := 0, windows := 0, acc := 0 }

/-- R87, R88, R89, R90, R91, R92: each of the ends of a point makes the end whole with its own cause. R89 step 1, R91:
every result and flag claim already sent by a comparator is taken, in the order sent, as FLAG_CLAIM and RESULT_CLAIM
take it. Step 2, R92: then the closing results of the unfinished comparators are taken, in position order, each
saturated one after its flag claim; ABORT_POINT gives none. Steps 3 and 4 are `PointEnded`. R90: END_POINT answers the
number of comparators in ARMED or COUNTING, each of which gives a closing result. -/
def Obligations.PointEndsAreWhole : Prop :=
  (∀ (u : State) (p : Nat) (h : Handle), isPosition p = true →
    (∀ f, exec (.flagClaim p) { u with inFlight := .flag p h f :: u.inFlight } =
      .next (u.takeComparatorClaim (.flag p h f))) ∧
    (∀ k res, exec (.resultClaim p) { u with inFlight := .result p h k res :: u.inFlight } =
      .next (u.takeComparatorClaim (.result p h k res)).settle)) ∧
  (∀ (s : State) (k : Nat), s.Shaped → s.seq.running = some k →
    let sent (u : State) : State := (u.inFlight.filter isComparatorClaim).foldl (fun v c => v.takeComparatorClaim c)
      { u with inFlight := u.inFlight.filter (fun c => !isComparatorClaim c) }
    let closing (result : Comparator → Option Result) (u : State) : List Claim := (places 48).flatMap (fun p =>
      match result (u.position p).cmp, (u.position p).cmp.handle, (u.position p).cmp.index with
      | some res, some h, some j => resultClaims p h j res
      | _, _, _ => [])
    let closed (result : Comparator → Option Result) (u : State) : State :=
      (closing result (sent u)).foldl (fun v c => v.takeComparatorClaim c) (sent u)
    (∀ tag rest, s.Offers .endPoint tag [] rest →
      ∃ t : State, exec .endPoint s = .next (t.answered tag .endPoint .ok [BitVec.ofNat 8 k, BitVec.ofNat 8 s.seq.armedAtStart,
          BitVec.ofNat 8 ((places 48).filter (fun p =>
            decide ((s.position p).cmp.state = .armed ∨ (s.position p).cmp.state = .counting))).length]) ∧
        PointEnded k .ended (closed closingResult (s.dequeued rest)) (s.dequeued rest) t) ∧
    (∀ tag rest, s.Offers .abortPoint tag [] rest →
      ∃ t : State, exec .abortPoint s = .next (t.answered tag .abortPoint .ok [BitVec.ofNat 8 k,
          BitVec.ofNat 8 s.seq.armedAtStart]) ∧
        PointEnded k .aborted (sent (s.dequeued rest)) (s.dequeued rest) t) ∧
    (s.seq.timer.isSome = true → ∃ t : State, exec .pointTimerExpiry s = .next t ∧
      PointEnded k .timedOut (closed closingResult s) s t) ∧
    (s.Claims isRefLoss .refLoss → ∃ t : State, exec .refLossReport s = .next t ∧
      PointEnded k .refLost (closed lossResult (s.claimTaken isRefLoss)) s t ∧ t.port.pendingSet &&& 0x08#8 = 0x08#8) ∧
    (∀ p, isPosition p = true → s.Claims (isFinishing p) (.finishing p) → s.seq.armedRemaining = 1 →
      ∃ t : State, exec (.finishingReport p) s = .next t ∧
        PointEnded k .complete (closed closingResult
          { s.claimTaken (isFinishing p) with seq := { s.seq with armedRemaining := 0 } }) s t))

/-- R87, R90, R91, R92, R93: a report that does not bring the count to 0 decrements it; in IDLE, END_POINT and
ABORT_POINT are answered BAD_STATE, and reports and expiries have no effect. R92, R115: the closing results of a
comparator. -/
def Obligations.ReportsAndClosingResults : Prop :=
  (∀ s : State,
     (∀ k p n, isPosition p = true → s.seq.running = some k → s.Claims (isFinishing p) (.finishing p) →
       s.seq.armedRemaining = n + 2 → exec (.finishingReport p) s = .next
         { s.claimTaken (isFinishing p) with seq := { s.seq with armedRemaining := n + 1 } }) ∧
     (∀ k p, isPosition p = true → s.seq.running = some k → s.Claims (isFinishing p) (.finishing p) →
       s.seq.armedRemaining = 0 → exec (.finishingReport p) s = .next (s.claimTaken (isFinishing p))) ∧
     (s.seq.running = none →
       (∀ tag rest, s.Offers .endPoint tag [] rest →
         exec .endPoint s = .next ((s.dequeued rest).answered tag .endPoint .badState [])) ∧
       (∀ tag rest, s.Offers .abortPoint tag [] rest →
         exec .abortPoint s = .next ((s.dequeued rest).answered tag .abortPoint .badState [])) ∧
       exec .pointTimerExpiry s = .next s ∧
       (s.Claims isRefLoss .refLoss → exec .refLossReport s = .next (s.claimTaken isRefLoss)) ∧
       (∀ p, isPosition p = true → s.Claims (isFinishing p) (.finishing p) →
         exec (.finishingReport p) s = .next (s.claimTaken (isFinishing p))))) ∧
  (∀ x : Comparator,
     (x.state = .armed → closingResult x = some ⟨.noPulse, none, 0, false⟩) ∧
     (x.state = .counting → x.windows = 0 → closingResult x = some ⟨.incomplete, none, 0, false⟩) ∧
     (x.state = .counting → 0 < x.windows →
       let m := Int.tdiv x.acc x.windows
       closingResult x = some ⟨.incomplete, some (if m < -500000 then -500000 else if 500000 < m then 500000 else m),
         x.windows, decide (m < -500000 ∨ 500000 < m)⟩) ∧
     (x.state = .armed ∨ x.state = .counting → lossResult x = some ⟨.refLost, none, 0, false⟩) ∧
     (x.state = .idle ∨ x.state = .stalled ∨ x.state = .done → closingResult x = none ∧ lossResult x = none) ∧
     (∀ p h k (res : Result), resultClaims p h k res =
       if res.saturated = true then [.flag p h .saturated, .result p h k res] else [.result p h k res]))

/-! ### Requests on records -/

/-- R131, R132, R133: AMEND_TRIM: its checks in their order, and its effect. The arguments that pass the checks of R131
are those of a trim of the record with a value in the range of its field, and no others. -/
def Obligations.AmendTrimSetsTarget : Prop :=
  ∀ (s : State) (tag : BitVec 16) (h : Handle) (band phase : Byte) (v : Int) (rest : List Message),
    h.slot < 256 → -2147483648 ≤ v → v < 2147483648 →
    s.Offers .amendTrim tag (handleBytes h ++ [band, phase] ++ s32Bytes v) rest →
    let refused (c : AnswerCode) : Prop := exec .amendTrim s = .next ((s.dequeued rest).answered tag .amendTrim c [])
    let measured (r : Record) : Prop := ∃ p, r.position = some p ∧
      ((s.position p).cmp.state = .armed ∨ (s.position p).cmp.state = .counting)
    (∀ c, s.resolve h = .error c → refused c) ∧
    (∀ r, s.resolve h = .ok r →
      (∀ (t : Trim) (pf : Profile) (w : Nat),
        r.trims.find? (fun u => decide (u.band.code = band.toNat ∧ u.phase.code = phase.toNat)) = some t →
        s.profileAt r.profile = some pf → trimWidth t.band t.phase pf.layout = some w →
        -(2 ^ (w - 1) : Nat) ≤ v → v ≤ (2 ^ (w - 1) : Nat) - 1 →
        s.amendTarget r band.toNat phase.toNat v = some t) ∧
      (s.amendTarget r band.toNat phase.toNat v = none → refused .badArgument) ∧
      (∀ t, s.amendTarget r band.toNat phase.toNat v = some t →
        (t ∈ r.trims ∧ t.band.code = band.toNat ∧ t.phase.code = phase.toNat ∧
          ∃ pf w, s.profileAt r.profile = some pf ∧ trimWidth t.band t.phase pf.layout = some w ∧
            -(2 ^ (w - 1) : Nat) ≤ v ∧ v ≤ (2 ^ (w - 1) : Nat) - 1) ∧
        (r.state = .writePending ∨ r.state = .writing ∨ r.state = .sealing → refused .busy) ∧
        (r.state = .sealed ∨ r.state = .rejected → refused .badState) ∧
        (r.state = .measuring ∨ r.state = .passed → measured r → refused .busy) ∧
        (r.state = .measuring ∨ r.state = .passed → ¬ measured r →
          let amended (x : Record) : Record :=
            { x with trims := x.trims.map (fun u => if u.band = t.band ∧ u.phase = t.phase then { u with target := v } else u) }
          let set := (s.dequeued rest).updRecord h.slot amended
          exec .amendTrim s = .next ((if (amended r).trims.all (fun u => u.target == u.meter) then set
              else (set.enterWritePending h.slot).settle).answered tag .amendTrim .ok
            ([band, phase] ++ s32Bytes t.meter ++ s32Bytes v)))))

/-- R18, R26: REJECT by the record's state; it withdraws the WRITE work item of the record's position where the item has
not had its first grant, and leaves any other (R64); of an orphaned record it withdraws the item that R130 gave, which
is to clear the mark `given` of the position whose orphan claim is on its way (log entry 12, the model's reading). R18,
R20: a move to REJECTED by any cause withdraws in the same way. R28: CLEAR_FLAGS by the record's state. R185: a record
is reachable at a BOUND position. -/
def Obligations.RejectAndClearFlags : Prop :=
  (∀ (u : State) (n : Nat) (cause : RejectCause) (r : Record),
    (∀ f, u.updRecord n f = { u with records := u.records.map (fun x => if x.slot = n then f x else x) }) ∧
    (u.reachable r = true ↔ ∃ p, r.position = some p ∧ (u.position p).state = .bound) ∧
    (u.recordAt n = some r → u.reject n cause = ((u.withdrawWrite r).updRecord n (fun x =>
      { x with state := .rejected, cause := some cause })).raise .recordsChanged)) ∧
  (∀ (u : State) (r : Record),
    (r.position = none →
      (∀ p ph, u.Claims (isOrphanFor ⟨r.slot, u.tag r.slot⟩) (.orphan p ⟨r.slot, u.tag r.slot⟩ ph) →
        u.withdrawWrite r = u.updPosition p (fun x => { x with given := false })) ∧
      ((∀ p ph, Claim.orphan p ⟨r.slot, u.tag r.slot⟩ ph ∉ u.inFlight) → u.withdrawWrite r = u)) ∧
    (∀ p, r.position = some p →
      ((u.position p).item = none → u.withdrawWrite r = u) ∧
      (∀ i, (u.position p).item = some i →
        (∀ w, i.work = .write w → i.granted = false →
          u.withdrawWrite r = u.updPosition p (fun x => { x with item := none })) ∧
        ((∀ w, i.work ≠ .write w) ∨ i.granted = true → u.withdrawWrite r = u)))) ∧
  ∀ (s : State) (tag : BitVec 16) (h : Handle) (cause : Byte) (rest : List Message), h.slot < 256 →
    let rejectRefused (c : AnswerCode) : Prop := exec .reject s = .next ((s.dequeued rest).answered tag .reject c [])
    (s.Offers .reject tag (handleBytes h ++ [cause]) rest →
      (∀ c, s.resolve h = .error c → rejectRefused c) ∧
      (∀ r, s.resolve h = .ok r →
        (r.state = .writing ∨ r.state = .sealing → rejectRefused .busy) ∧
        (r.state = .sealed → rejectRefused .badState) ∧
        (r.state = .measuring ∨ r.state = .passed ∨ r.state = .writePending ∨ r.state = .rejected →
          exec .reject s = .next (((((s.dequeued rest).withdrawWrite r).updRecord h.slot (fun x =>
            { x with state := .rejected, cause := some (.byRequest cause) })).raise .recordsChanged).answered tag
              .reject .ok [])))) ∧
    (s.Offers .clearFlags tag (handleBytes h) rest →
      (∀ c, s.resolve h = .error c → exec .clearFlags s = .next ((s.dequeued rest).answered tag .clearFlags c [])) ∧
      (∀ r, s.resolve h = .ok r →
        (r.state = .sealed →
          exec .clearFlags s = .next ((s.dequeued rest).answered tag .clearFlags .badState [])) ∧
        (r.state ≠ .sealed →
          let cleared := (s.dequeued rest).updRecord h.slot (fun x =>
            { x with flags := ⟨false, false, false, x.flags.imageOdd⟩ })
          exec .clearFlags s = .next ((if r.state = .passed ∧ r.flags.imageOdd = false
              then (cleared.autoSealTest h.slot).settle else cleared).answered tag .clearFlags .ok
            [if r.flags.imageOdd = true then 8#8 else 0#8]))))

/-- R2, R5, R27, R41, R70: RETIRE's checks, its answer, and the next state: `v`, the state with the record removed, with
the freed slot handed on and the lanes arbitrated. In `v` the record has left the list, its tag is incremented and its
profile's pin count decremented; the position of a bound record, BOUND or IDENTIFYING under the held binding mark, is
SPENT, its queued WRITE item and any identification item withdrawn, the latter's turn ended where it is in progress
(R174); of an orphaned record the item that R130 gave is withdrawn, the mark `given` of the position whose orphan claim
is on its way (log entry 12, the model's reading); all else is as before. R1, R4, R7, R45, R63: the freed slot is handed
to the lowest position in WAITING_SLOT: a record is created in it, or the position goes to IDENTIFYING or CONFLICT or is
rebound and the slot passes on; none is handed while the admission counter stands at its end. -/
def Obligations.RetireRemovesAndHandsTheSlot : Prop :=
  (∀ (s : State) (tag : BitVec 16) (h : Handle) (rest : List Message), h.slot < 256 → s.Shaped →
     s.Offers .retire tag (handleBytes h) rest →
     let refused (c : AnswerCode) : Prop := exec .retire s = .next ((s.dequeued rest).answered tag .retire c [])
     (∀ c, s.resolve h = .error c → refused c) ∧
     (∀ r, s.resolve h = .ok r →
       let busy : Prop := r.state = .writing ∨ r.state = .sealing ∨ ∃ p, r.position = some p ∧
         ((s.position p).cmp.state = .armed ∨ (s.position p).cmp.state = .counting)
       (busy → refused .busy) ∧
       (¬ busy → ∃ v : State,
         exec .retire s = .next ((v.handFreed h.slot).settle.answered tag .retire .ok (readOut h.tag r)) ∧
         v.records = s.records.filter (fun x => decide (x.slot ≠ h.slot)) ∧
         v.tag h.slot = h.tag + 1#8 ∧ (∀ n, n ≠ h.slot → v.tag n = s.tag n) ∧
         v.profileSlot r.profile = (s.profileSlot r.profile).map (fun ps => { ps with pins := ps.pins - 1 }) ∧
         (∀ c, c ≠ r.profile → v.profileSlot c = s.profileSlot c) ∧
         (∀ p, r.position = some p → isPosition p = true →
           let x := s.position p
           let kept (i : Item) : Bool := match i.work with
             | .ident | .readImage _ _ => false
             | .write _ => i.granted
             | .sealLock _ => true
           let identifying : Prop := ∃ i, x.item = some i ∧ (i.work = .ident ∨ ∃ off ws, i.work = .readImage off ws)
           let turn : Prop := (s.lane (laneOf p)).state = .granted p ∨ (s.lane (laneOf p)).state = .awaitReply p
           v.position p = { x with
             state := .spent, bound := none, held := false, identity := none, phase := none, item := x.item.filter kept } ∧
           (∀ q, isPosition q = true → q ≠ p → v.position q = s.position q) ∧
           (identifying → turn → v.lane (laneOf p) =
             { s.lane (laneOf p) with state := .idle, timer := none, frames := [] }) ∧
           (¬ (identifying ∧ turn) → v.lanes = s.lanes) ∧
           (∀ l, isLane l = true → l ≠ laneOf p → v.lane l = s.lane l) ∧
           v.port = { s.port with
             requests := rest
             pendingSet := s.port.pendingSet ||| (if x.state = .spent then 0x02#8 else 0x06#8) }) ∧
         (r.position = none → v.lanes = s.lanes ∧
           v.port = { s.port with requests := rest, pendingSet := s.port.pendingSet ||| 0x02#8 } ∧
           (∀ q, isPosition q = true →
             { v.position q with given := false } = { s.position q with given := false } ∧
             ((∃ ph, s.Claims (isOrphanFor h) (.orphan q h ph)) → (v.position q).given = false) ∧
             ((∀ ph, ¬ s.Claims (isOrphanFor h) (.orphan q h ph)) → v.position q = s.position q))) ∧
         v.admissions = s.admissions ∧ v.inFlight = s.inFlight ∧ v.plan = s.plan ∧ v.seq = s.seq ∧ v.ref = s.ref ∧
         v.seals = s.seals ∧ v.flash = s.flash ∧ v.store = s.store ∧ v.pending = s.pending ∧
         v.Shaped ∧ (s.TableSound → v.TableSound)))) ∧
  (∀ (s : State) (n : Nat), s.Shaped → s.TableSound → (∀ r ∈ s.records, r.slot ≠ n) →
     (4294967295 ≤ s.admissions → s.handFreed n = s) ∧
     ((∀ p, isPosition p = true → (s.position p).state ≠ .waitingSlot) → s.handFreed n = s) ∧
     (∀ (p : Nat) (d : Identity) (image : Unpacked), isPosition p = true → s.admissions < 4294967295 →
       (s.position p).state = .waitingSlot → (s.position p).identity = some d → d.image = some image →
       (∀ q, isPosition q = true → q < p → (s.position q).state ≠ .waitingSlot) →
       let matching (c : Nat) : Prop := ∃ pf, s.codeOfType d.typeCode = some c ∧ s.profileAt c = some pf ∧
         pf.imageLength = d.wordCount ∧ pf.trimSet = image.trims.map (fun t => (t.band, t.phase))
       ((∀ c, ¬ matching c) → s.handFreed n = (s.enterIdentifying p).handFreed n) ∧
       (∀ c, matching c →
         (∀ r q, r ∈ s.records → r.serial = d.serial → r.position = some q →
           s.handFreed n = (s.toConflict p).handFreed n) ∧
         (∀ r, r ∈ s.records → r.serial = d.serial → r.position = none →
           s.handFreed n = (s.takeRebind p ⟨r.slot, s.tag r.slot⟩).handFreed n) ∧
         ((∀ r ∈ s.records, r.serial ≠ d.serial) →
           s.handFreed n = s.createRecord n c p d image ∧
           (s.handFreed n).records = s.records ++ [
             { slot := n, admission := s.admissions + 1, serial := d.serial, profile := c, state := .measuring
               position := some p
               trims := image.trims.map (fun v => ⟨v.band, v.phase, v.value, v.value⟩)
               results := List.replicate 24 ⟨.none, none, 0, false, 0⟩
               rounds := 0, generation := 0, writeFailures := 0, sealAttempts := 0
               flags := ⟨false, false, false, image.mismatch⟩
               spoiled := [], sealNumber := none, recordCheck := none, cause := none }] ∧
           (s.handFreed n).admissions = s.admissions + 1 ∧ (s.handFreed n).tags = s.tags ∧
           (s.handFreed n).position p = { s.position p with
             state := .bound, bound := some ⟨n, s.tag n⟩, phase := none, identity := none, held := false } ∧
           (∀ q, isPosition q = true → q ≠ p → (s.handFreed n).position q = s.position q) ∧
           (s.handFreed n).profileSlot c = (s.profileSlot c).map (fun ps => { ps with pins := ps.pins + 1 }) ∧
           (s.handFreed n).port = { s.port with pendingSet := s.port.pendingSet ||| 0x06#8 }))))

/-! ### Seals -/

/-- R183: SEAL's checks in their order, and its effect. R184: SEAL ALL. -/
def Obligations.SealRequestsEnterSealing : Prop :=
  ∀ (s : State) (tag : BitVec 16) (h : Handle) (rest : List Message), h.slot < 256 →
    let refused (c : AnswerCode) : Prop := exec .seal s = .next ((s.dequeued rest).answered tag .seal c [])
    let dirty (r : Record) : Prop := r.flags.saturated = true ∨ r.flags.glitch = true ∨ r.flags.trimLimit = true
    (s.Offers .seal tag (handleBytes h) rest →
      (∀ c, s.resolve h = .error c → refused c) ∧
      (∀ r, s.resolve h = .ok r →
        (r.state = .sealing → refused .busy) ∧
        (r.state ≠ .sealing → r.state ≠ .passed → refused .badState) ∧
        (r.state = .passed → s.reachable r = false → refused .notReady) ∧
        (r.state = .passed → s.reachable r = true → r.flags.imageOdd = true → refused .imageOdd) ∧
        (r.state = .passed → s.reachable r = true → r.flags.imageOdd = false → dirty r → refused .flagsSet) ∧
        (r.state = .passed → s.reachable r = true → r.flags.imageOdd = false → ¬ dirty r → s.seals.remaining = 0 →
          refused .sealsExhausted) ∧
        (r.state = .passed → s.reachable r = true → r.flags.imageOdd = false → ¬ dirty r → s.seals.remaining ≠ 0 →
          exec .seal s = .next ((((s.dequeued rest).enterSealing h.slot).settle).answered tag .seal .ok
            (leBytes 4 s.seals.remaining))))) ∧
    (s.Offers .sealAll tag [] rest →
      let queued := s.records.filter (fun r => decide (r.state = .passed) && s.reachable r && !r.flags.any)
      (s.seals.remaining = 0 →
        exec .sealAll s = .next ((s.dequeued rest).answered tag .sealAll .sealsExhausted [])) ∧
      (s.seals.remaining ≠ 0 →
        exec .sealAll s = .next ((((queued.map (·.slot)).foldl (fun t n => t.enterSealing n)
          (s.dequeued rest)).settle).answered tag .sealAll .ok
            (leBytes 1 queued.length ++ leBytes 4 s.seals.remaining))))

/-- R180: SET_SEAL_RANGE's checks in their order and its effect. R182: GET_SEAL_RANGE's answer. -/
def Obligations.SealRangeIsSetAndReported : Prop :=
  ∀ (s : State) (tag : BitVec 16) (first last : Nat) (rest : List Message), first < 4294967296 → last < 4294967296 →
    let refused : Prop := exec .setSealRange s = .next ((s.dequeued rest).answered tag .setSealRange .badArgument [])
    (s.Offers .setSealRange tag (leBytes 4 first ++ leBytes 4 last) rest →
      (¬ (1 ≤ first ∧ first ≤ 99999999 ∧ 1 ≤ last ∧ last ≤ 99999999) → refused) ∧
      (last < first → refused) ∧
      (first ≤ s.seals.lastIssued → refused) ∧
      (1 ≤ first → first ≤ last → last ≤ 99999999 → s.seals.lastIssued < first →
        let loaded : State := { s.dequeued rest with seals := ⟨first, last, first, s.seals.lastIssued⟩ }
        exec .setSealRange s = .next
          ((if last - first + 1 < s.port.bench.sealLow then loaded.raise .sealLow else loaded).answered tag .setSealRange .ok
            (leBytes 4 (if s.seals.remaining = 0 then 0 else s.seals.next) ++
              leBytes 4 (if s.seals.remaining = 0 then 0 else s.seals.last) ++ leBytes 4 (last - first + 1))))) ∧
    (s.Offers .getSealRange tag [] rest →
      exec .getSealRange s = .next ((s.dequeued rest).answered tag .getSealRange .ok
        (leBytes 4 s.seals.first ++ leBytes 4 s.seals.last ++ leBytes 4 s.seals.next ++
         leBytes 4 (if s.seals.first = 0 then 0 else s.seals.last + 1 - s.seals.next) ++
         leBytes 4 s.seals.lastIssued ++ leBytes 2 s.port.bench.sealLow)))

/-! ### Positions -/

/-- R69: RETRY_POSITION by the position's state. -/
def Obligations.RetryPositionIdentifiesAgain : Prop :=
  ∀ (s : State) (tag : BitVec 16) (p : Byte) (rest : List Message), s.Shaped →
    s.Offers .retryPosition tag [p] rest →
    let refused (c : AnswerCode) : Prop :=
      exec .retryPosition s = .next ((s.dequeued rest).answered tag .retryPosition c [])
    let st := (s.position p.toNat).state
    (isPosition p.toNat = false → refused .badArgument) ∧
    (isPosition p.toNat = true → st ≠ .fault → st ≠ .conflict → st ≠ .unknownType → refused .badState) ∧
    (isPosition p.toNat = true → st = .fault ∨ st = .conflict ∨ st = .unknownType →
      ∃ t : State, exec .retryPosition s = .next (t.answered tag .retryPosition .ok []) ∧
        t = ((s.dequeued rest).enterIdentifying p.toNat).settle ∧
        (t.position p.toNat).state = .identifying ∧ (t.position p.toNat).phase = some .ident ∧
        (t.position p.toNat).identity = none ∧ (t.position p.toNat).item.map (·.work) = some .ident ∧
        (t.position p.toNat).debounce = (s.position p.toNat).debounce ∧
        (∀ q, isPosition q = true → q ≠ p.toNat →
          { t.position q with item := none } = { s.position q with item := none }) ∧
        t.records = s.records ∧ t.seals = s.seals ∧ t.plan = s.plan ∧ t.seq = s.seq)

/-- R54, R55, R56: a presence input's change, and the expiry of a debounce other than a removal. R57: removal at a
position: what it holds is cleared, the bound slot with it, its comparator reports finishing, its untaken claims are
withdrawn, a start claim among them (log entry 11, the model's choice), and the orphan claim is sent with the phase the
lane reports. R8: the record's position field is made absent in the same change as the bound slot, and the orphan claim
is left to settle the record's state (log entry 9, the model's reading). R174: the lane's turn at the position ends and
the lanes arbitrate afresh; `u` is the part before that. R65, R174, R175: the phase reported for a write is that of its
item, or of its outcome on the way. -/
def Obligations.PresenceDebounceAndRemoval : Prop :=
  (∀ (s : State) (p : Nat) (high : Bool), isPosition p = true → s.Shaped →
     let x := s.position p
     let level := s.updPosition p (fun x => { x with pin := high })
     let raw := if s.port.bench.polarity = .activeHigh then high else !high
     (s.store.activity = .loading ∨ raw = x.raw → exec (.presenceChange p high) s = .next level) ∧
     (s.store.activity ≠ .loading → raw ≠ x.raw →
       let sensed := level.updPosition p (fun x =>
         { x with raw := raw, debounce := if raw = x.taken then none else some s.port.bench.debounce })
       exec (.presenceChange p high) s = .next
         (if x.state = .empty ∧ raw = true then sensed.moveTo p .settling
          else if x.state = .settling ∧ raw = false then sensed.moveTo p .empty else sensed)) ∧
     (x.debounce = none → exec (.debounceExpiry p) s = .next s) ∧
     (x.debounce ≠ none →
       let taken := s.updPosition p (fun x => { x with taken := x.raw, debounce := none })
       (x.state = .settling → x.raw = true → exec (.debounceExpiry p) s = .next (taken.enterIdentifying p).settle) ∧
       (x.state = .empty ∨ (x.state = .settling ∧ x.raw = false) ∨ (x.state ≠ .settling ∧ x.raw = true) →
         exec (.debounceExpiry p) s = .next taken))) ∧
  (∀ (s : State) (p : Nat), isPosition p = true → s.Shaped → (s.position p).debounce ≠ none →
     (s.position p).raw = false → (s.position p).state ≠ .empty → (s.position p).state ≠ .settling →
     ∃ u t : State, exec (.debounceExpiry p) s = .next t ∧ t = u.settle ∧
       u.lane (laneOf p) = (if (s.lane (laneOf p)).state = .granted p ∨ (s.lane (laneOf p)).state = .awaitReply p then
         { s.lane (laneOf p) with state := .idle, timer := none, frames := [] } else s.lane (laneOf p)) ∧
       (∀ l, isLane l = true → l ≠ laneOf p → u.lane l = s.lane l) ∧
       u.inFlight = s.inFlight.filter (fun c => !withdrawnByRemoval p c) ++
         (if (s.position p).cmp.state = .armed ∨ (s.position p).cmp.state = .counting then [.finishing p] else []) ++
         (match (s.position p).bound with
           | some h => [.orphan p h (s.writePhase p)]
           | none => []) ∧
       t.position p = { s.position p with
         taken := false, debounce := none, state := .empty, phase := none, identity := none, bound := none, held := false
         item := none, cmp := Comparator.idle } ∧
       (∀ q, isPosition q = true → q ≠ p → u.position q = s.position q ∧
         { t.position q with item := none } = { s.position q with item := none }) ∧
       (∀ h, (s.position p).bound = some h → Claim.orphan p h (s.writePhase p) ∈ t.inFlight) ∧
       ((s.position p).cmp.state = .armed ∨ (s.position p).cmp.state = .counting → Claim.finishing p ∈ t.inFlight) ∧
       (∀ d image, Claim.creation p d image ∉ t.inFlight) ∧ (∀ h, Claim.rebind p h ∉ t.inFlight) ∧
       (t.lane (laneOf p)).state ≠ .granted p ∧ (t.lane (laneOf p)).state ≠ .awaitReply p ∧
       (∀ h r, (s.position p).bound = some h → s.named h = some r →
         t.records = s.records.map (fun x => if x.slot = h.slot then { x with position := none } else x)) ∧
       ((s.position p).bound.bind s.named = none → t.records = s.records) ∧
       t.port.pendingSet = s.port.pendingSet ||| 0x04#8 ∧ t.seq = s.seq ∧
       t.plan = s.plan ∧ t.seals = s.seals ∧ t.ref = s.ref ∧ t.profiles = s.profiles) ∧
  (∀ (s : State) (p : Nat),
     (∀ i tr, (s.position p).item = some i → i.work = .write (some tr) →
       s.writePhase p = some (if tr.commitSent = true then .commitSent else .noCommitSent)) ∧
     (∀ i, (s.position p).item = some i → i.work = .write none → i.granted = true →
       s.writePhase p = some .noCommitSent) ∧
     ((s.position p).item = none →
       (∀ c, s.inFlight.find? (isOutcomeOf p) = some c →
         (∀ h, c = .commitMatch p h ∨ c = .commitMismatch p h ∨ c = .commitUnknown p h →
           s.writePhase p = some .commitSent) ∧
         (∀ h, c = .stageFailed p h → s.writePhase p = some .noCommitSent)) ∧
       (s.inFlight.find? (isOutcomeOf p) = none → s.writePhase p = none)))

/-- R58, R59, R60, R73: what a position makes of an IDENT reply and of an image read. R31, R73: where the reply does not
confirm the held binding, the orphan claim is taken at once (log entry 9, the model's choice), the bound slot and the
mark are cleared, and the same reply is decided as at a position without a binding. A profile check that fails as the
image outcome is taken keeps the identity's serial, type code and word count (log entry 29, the model's choice). R53,
R58, R61, R66: what a position's entry into each state leaves. -/
def Obligations.IdentificationDecides : Prop :=
  (∀ (s : State) (p : Nat), isPosition p = true → s.Shaped → ∀ f : Position → Position,
    s.positions[p - 1]? = some (s.position p) ∧ (s.updPosition p f).position p = f (s.position p) ∧
    (∀ q, isPosition q = true → q ≠ p → (s.updPosition p f).position q = s.position q) ∧
    { s.updPosition p f with positions := s.positions } = s) ∧
  (∀ (s : State) (p : Nat),
    (∀ st, s.moveTo p st = s.positionBecomes p (fun x => { x with state := st })) ∧
    s.enterIdentifying p = s.positionBecomes p (fun x => { x with
      state := .identifying, phase := some .ident, identity := none, item := some (newItem .ident) }) ∧
    s.enterImage p = s.updPosition p (fun x => { x with
      phase := some .image, item := some (newItem (.readImage 0 [])) }) ∧
    s.toConflict p = s.positionBecomes p (fun x => { x with
      state := .conflict, phase := none, identity := x.identity.map (fun d => { d with image := none }) }) ∧
    s.toWaiting p = s.positionBecomes p (fun x => { x with state := .waitingSlot, phase := none }) ∧
    s.toBound p = s.positionBecomes p (fun x => { x with
      state := .bound, phase := none, identity := none, held := false }) ∧
    (∀ c, s.send c = { s with inFlight := s.inFlight ++ [c] })) ∧
  (∀ (s : State) (typeCode c : Nat) (serial : List Byte),
    (s.codeOfType typeCode = some c ↔ within 16 c = true ∧ (∃ pf, s.profileAt c = some pf ∧ pf.typeCode = typeCode) ∧
      ∀ d pf, within 16 d = true → d < c → s.profileAt d = some pf → pf.typeCode ≠ typeCode) ∧
    s.recordOf serial = s.records.find? (fun r => decide (r.serial = serial))) ∧
  ∀ (s : State) (p : Nat) (d : Identity) (words : List Word),
    let known := s.updPosition p (fun x => { x with identity := some d })
    let unknown := (known.moveTo p .unknownType).updPosition p (fun x => { x with phase := none })
    let profile := (s.codeOfType d.typeCode).bind s.profileAt
    let sameType (r : Record) : Prop := (s.profileAt r.profile).map (·.typeCode) = some d.typeCode
    ((s.position p).held = false →
      (profile = none → s.identReplied p d = unknown) ∧
      (∀ pf, profile = some pf → pf.imageLength ≠ d.wordCount → s.identReplied p d = unknown) ∧
      (∀ pf, profile = some pf → pf.imageLength = d.wordCount →
        (∀ r q, s.recordOf d.serial = some r → r.position = some q → q ≠ p →
          s.identReplied p d = known.toConflict p) ∧
        (∀ r, s.recordOf d.serial = some r → r.position = none → ¬ sameType r →
          s.identReplied p d = known.toConflict p) ∧
        (∀ r, s.recordOf d.serial = some r → r.position = none → sameType r →
          s.identReplied p d = known.send (.rebind p ⟨r.slot, s.tag r.slot⟩)) ∧
        (s.recordOf d.serial = none → s.identReplied p d = known.enterImage p))) ∧
    (∀ h r, (s.position p).held = true → (s.position p).bound = some h → s.named h = some r → r.serial = d.serial →
      sameType r →
      let back := known.toBound p
      s.identReplied p d = back.resumeWrite h.slot ∧ (r.state ≠ .writePending → s.identReplied p d = back) ∧
      (r.state = .writePending → r.position = some p → (s.position p).item = none →
        s.identReplied p d = back.updPosition p (fun x => { x with item := some (newItem (.write none)) }))) ∧
    (∀ h, isPosition p = true → s.Shaped → (s.position p).held = true → (s.position p).bound = some h →
      (∀ r, s.named h = some r → ¬ (r.serial = d.serial ∧ sameType r)) →
      ∃ v : State, exec (.orphanClaim p) { known with inFlight := .orphan p h none :: known.inFlight } = .next v ∧
        s.identReplied p d =
          (v.updPosition p (fun x => { x with bound := none, held := false })).identReplied p d) ∧
    ((s.position p).identity = some d →
      (∀ pf, profile = some pf → pf.imageLength = d.wordCount →
        let image := unpack pf.layout pf.trimSet words
        s.imageRead p words = (s.updPosition p (fun x => { x with identity := some { d with image := some image } })).send
          (.creation p { d with image := some image } image)) ∧
      ((∀ pf, profile = some pf → pf.imageLength ≠ d.wordCount) →
        s.imageRead p words = s.updPosition p (fun x =>
          { x with phase := some .ident, item := some (newItem .ident) })))

/-! ### Lanes -/

/-- R156, R160, R161, R164, R166, R173, R215: the frames of a turn. R164: the first STAGE frame is always sent, a
further one exactly while words remain and the budget with its count is at most the burst cap; the STAGE turns of R164's
table. The send offset and the COMMIT sent mark move as the frames are composed (log entry 14, the model's reading).
R215: a frame is the bytes of address, kind, turn mark and fields, then the check of all before it, least significant
byte first. R146: the check starts at FFFFh and takes each byte into its high 8 bits, then shifts left 8 times with
1021h. R147: a word is fed as its four bytes, least significant first. -/
def Obligations.TurnsSendTheirFrames : Prop :=
  (∀ (a : Nat) (kind mark : Byte) (fields : List Byte),
    let body : List Byte := [BitVec.ofNat 8 a, kind, mark] ++ fields
    let sum := (check body).toNat
    frame a kind mark fields = body ++ [BitVec.ofNat 8 sum, BitVec.ofNat 8 (sum / 256)]) ∧
  (check [] = 0xFFFF#16 ∧ ∀ (bytes : List Byte) (b : Byte),
    let shift (c : Check) : Check := if c.msb = true then (c <<< 1) ^^^ 0x1021#16 else c <<< 1
    check (bytes ++ [b]) = Nat.repeat shift 8 (check bytes ^^^ (b.setWidth 16 <<< 8))) ∧
  (∀ words : List Word, imageBytes words = words.flatMap (fun (w : Word) =>
    [w.setWidth 8, (w >>> 8).setWidth 8, (w >>> 16).setWidth 8, (w >>> 24).setWidth 8])) ∧
  (∀ (a cap wc : Nat) (mark : Byte),
    (turnOf a cap mark wc .ident).frames = [frame a 0x01#8 mark []] ∧
    (∀ off ws, (turnOf a cap mark wc (.readImage off ws)).frames =
      [frame a 0x02#8 mark (leBytes 1 off ++ leBytes 1 (min 8 (wc - off)))]) ∧
    (∀ tr : Transfer, tr.phase = .commit →
      (turnOf a cap mark wc (.write (some tr))).frames = [frame a 0x05#8 mark (leBytes 1 tr.length)] ∧
      (turnOf a cap mark wc (.write (some tr))).work = .write (some { tr with commitSent := true })) ∧
    (∀ tr : Transfer, tr.phase = .stage → ∃ burst,
      burst = stageBurst cap tr.length 16 tr.sendOffset 0 ∧
      (turnOf a cap mark wc (.write (some tr))).frames = burst.map (fun b => frame a 0x03#8 mark
        (leBytes 1 b.1 ++ leBytes 1 b.2 ++ imageBytes ((tr.snapshot.drop b.1).take b.2))) ++
          [frame a 0x04#8 mark (leBytes 1 tr.length)] ∧
      (turnOf a cap mark wc (.write (some tr))).budget = (burst.map (·.2)).sum ∧
      (turnOf a cap mark wc (.write (some tr))).work =
        .write (some { tr with sendOffset := tr.sendOffset + (burst.map (·.2)).sum })) ∧
    (∀ k : Lock, (turnOf a cap mark wc (.sealLock (some k))).frames =
      [frame a 0x06#8 mark (leBytes 4 k.number ++ leBytes 2 k.recordCheck.toNat)])) ∧
  (∀ cap length start : Nat, length ≤ 16 →
    let burst := stageBurst cap length 16 start 0
    (length ≤ start → burst = []) ∧
    (start < length → burst.head? = some (start, min 8 (length - start))) ∧
    (∀ m b, burst[m]? = some b →
      let next := b.1 + b.2
      let used := ((burst.take (m + 1)).map (·.2)).sum
      burst[m + 1]? = if next < length ∧ used + min 8 (length - next) ≤ cap
        then some (next, min 8 (length - next)) else none)) ∧
  stageBurst 32 16 16 0 0 = [(0, 8), (8, 8)] ∧ stageBurst 12 16 16 0 0 = [(0, 8)] ∧
  stageBurst 16 13 16 0 0 = [(0, 8), (8, 5)] ∧ stageBurst 8 13 16 8 0 = [(8, 5)] ∧ stageBurst 8 3 16 0 0 = [(0, 3)]

/-- R152, R158, R159, R165, R167, R168: the end of sending starts the reply timer, and an expired timer makes a miss:
within the retry limit the item requests again, a STAGE transfer rewound, and an IDENT, a READ_IMAGE with its offset and
words (R161), a transfer in COMMIT (R168) and a lock (R173) as they stand; beyond it the item fails. The lanes arbitrate
at the end of the step, each in turn (log entry 13, the model's choice). R31, R62, R73: an identification that fails
sends the position to FAULT, a held binding being released by its orphan claim, which is taken at once (log entry 9, the
model's choice). -/
def Obligations.LaneTurnsTimeOut : Prop :=
  ∀ (s : State) (l p : Nat) (i : Item), isLane l = true →
    let h := (s.position p).bound.getD ⟨0, 0#8⟩
    let ended := (s.endTurn l).updPosition p (fun x => { x with item := none })
    let done (t : State) : Prop := exec (.laneReplyTimeout l) s = .next t
    ((s.lane l).state = .granted p → (s.lane l).frames ≠ [] →
      exec (.laneSendDone l) s = .next (s.updLane l (fun x =>
        { x with state := .awaitReply p, timer := some s.port.bench.replyTimeout }))) ∧
    ((∀ q, (s.lane l).state ≠ .granted q) ∨ (s.lane l).frames = [] → exec (.laneSendDone l) s = .next s) ∧
    ((∀ q, (s.lane l).state ≠ .awaitReply q) → done s) ∧
    ((s.lane l).state = .awaitReply p → (s.position p).item = some i →
      (i.attempts + 1 ≤ s.port.bench.retryLimit →
        done ((s.endTurn l).updPosition p (fun x => { x with item := some { i with
          work := i.work.afterMiss, requesting := true, attempts := i.attempts + 1 } })).settle) ∧
      (s.port.bench.retryLimit < i.attempts + 1 →
        (∀ tr : Transfer, i.work = .write (some tr) → tr.phase = .stage →
          done (ended.send (.stageFailed p h)).settle) ∧
        (∀ tr : Transfer, i.work = .write (some tr) → tr.phase = .commit →
          done (ended.send (.commitUnknown p h)).settle) ∧
        (∀ k, i.work = .sealLock k → done (ended.send (.noReply p h)).settle) ∧
        (i.work = .ident ∨ (∃ off ws, i.work = .readImage off ws) → (s.position p).held = false →
          done ((ended.moveTo p .fault).updPosition p (fun x => { x with phase := none })).settle) ∧
        (∀ h, i.work = .ident ∨ (∃ off ws, i.work = .readImage off ws) → isPosition p = true →
          (s.position p).held = true → (s.position p).bound = some h →
          ∃ v : State, exec (.orphanClaim p) { ended with inFlight := .orphan p h none :: ended.inFlight } = .next v ∧
            done (((v.updPosition p (fun x => { x with bound := none, held := false })).moveTo p .fault).updPosition p
              (fun x => { x with phase := none })).settle))) ∧
    (∀ tr : Transfer,
      (tr.phase = .stage → Work.afterMiss (.write (some tr)) = .write (some { tr with sendOffset := tr.confirmed })) ∧
      (tr.phase = .commit → Work.afterMiss (.write (some tr)) = .write (some tr))) ∧
    Work.afterMiss .ident = .ident ∧ (∀ off ws, Work.afterMiss (.readImage off ws) = .readImage off ws) ∧
    (∀ k, Work.afterMiss (.sealLock k) = .sealLock k) ∧
    (s.Shaped → ∀ f : Lane → Lane, s.lanes[l - 1]? = some (s.lane l) ∧ (s.updLane l f).lane l = f (s.lane l) ∧
      (∀ m, isLane m = true → m ≠ l → (s.updLane l f).lane m = s.lane m) ∧
      { s.updLane l f with lanes := s.lanes } = s) ∧
    s.endTurn l = s.updLane l (fun x => { x with state := .idle, timer := none, frames := [] }) ∧
    s.settle = [1, 2, 3, 4, 5, 6].foldl (fun t m => t.arbitrate m) s

/-- R157: a frame that is not the reply of the turn is discarded, a frame whose check is wrong among them, and a reply
whose fields break their ranges is a miss; the ranges are those of R157's table. R156: the replies accepted are
IDENT_REPLY for IDENT, IMAGE_WORDS for READ, STAGED for STAGE_CHECK, which ends the turn of a transfer in STAGE,
COMMITTED for COMMIT, LOCKED and REFUSED for LOCK, and no other. R215: a reply's fields are read by its kind's row, and a
frame of another length or kind is none. -/
def Obligations.ProbeFramesAreFiltered : Prop :=
  (∀ (s : State) (l : Nat) (bytes : List Byte), isLane l = true →
    let discarded : Prop := exec (.probeFrameReceived l bytes) s = .next s
    let sent := bytes.take (bytes.length - 2)
    let accepted (w : Work) (r : Reply) : Prop :=
      (w = .ident ∧ ∃ serial tc wc, r = .identReply serial tc wc) ∨
      ((∃ off got, w = .readImage off got) ∧ ∃ o n ws, r = .imageWords o n ws) ∨
      ((∃ tr, w = .write (some tr) ∧ tr.phase = .stage) ∧ ∃ high, r = .staged high) ∨
      ((∃ tr, w = .write (some tr) ∧ tr.phase = .commit) ∧ ∃ c, r = .committed c) ∨
      ((∃ k, w = .sealLock (some k)) ∧ ((∃ c, r = .locked c) ∨ r = .refused))
    ((∀ p, (s.lane l).state ≠ .awaitReply p) → discarded) ∧
    (readFrame bytes = none → discarded) ∧
    (bytes.length < 5 → discarded) ∧
    (bytes.drop (bytes.length - 2) ≠ leBytes 2 (check sent).toNat → discarded) ∧
    (∀ p i f, (s.lane l).state = .awaitReply p → (s.position p).item = some i → readFrame bytes = some f →
      let address := p - 8 * ((p - 1) / 8)
      (f.address ≠ address ∨ f.mark ≠ (s.lane l).mark ∨ ¬ accepted i.work f.reply → discarded) ∧
      (f.address = address → f.mark = (s.lane l).mark → accepted i.work f.reply →
        i.work.inRange (s.position p).wordCount f.reply = false →
        exec (.probeFrameReceived l bytes) s = exec (.laneReplyTimeout l) s))) ∧
  (∀ wc serial tc n, Work.inRange .ident wc (.identReply serial tc n) =
    (serialOk serial && decide (tc ≠ 0 ∧ tc ≠ 65535 ∧ 1 ≤ n ∧ n ≤ 16))) ∧
  (∀ serial, serialOk serial = true ↔ 4 ≤ serial.length ∧ serial.length ≤ 20 ∧
    ∀ c ∈ serial, (0x30 ≤ c.toNat ∧ c.toNat ≤ 0x39) ∨ (0x41 ≤ c.toNat ∧ c.toNat ≤ 0x5A)) ∧
  (∀ off got wc o n ws, Work.inRange (.readImage off got) wc (.imageWords o n ws) =
    decide (o = off ∧ n = min 8 (wc - off))) ∧
  (∀ tr wc w, Work.inRange (.write (some tr)) wc (.staged w) = decide (w ≤ tr.length)) ∧
  (∀ tr wc c, Work.inRange (.write (some tr)) wc (.committed c) = true) ∧
  (∀ k wc c, Work.inRange (.sealLock k) wc (.locked c) = true ∧ Work.inRange (.sealLock k) wc .refused = true) ∧
  (∀ (kind : Byte) (fields : List Byte) (r : Reply), replyFields kind fields = some r ↔ match r with
    | .identReply serial tc wc => kind = 0x81#8 ∧ serial.length < 256 ∧ tc < 65536 ∧ wc < 256 ∧
        fields = leBytes 1 serial.length ++ serial ++ leBytes 2 tc ++ leBytes 1 wc
    | .imageWords o n ws => kind = 0x82#8 ∧ o < 256 ∧ n < 256 ∧ ws.length = n ∧
        fields = leBytes 1 o ++ leBytes 1 n ++ imageBytes ws
    | .staged high => kind = 0x84#8 ∧ high < 256 ∧ fields = leBytes 1 high
    | .committed c => kind = 0x85#8 ∧ fields = leBytes 2 c.toNat
    | .locked c => kind = 0x86#8 ∧ fields = leBytes 2 c.toNat
    | .refused => kind = 0x87#8 ∧ fields = [])

/-- R157, R160, R161, R165, R166, R173: an accepted reply ends the turn, and its outcome is that of its kind. Where the
reply ends one item and the position queues the next, the new request precedes the arbitration (log entry 13, the model's
choice: R153 allows both orders). -/
def Obligations.AcceptedRepliesEndTheTurn : Prop :=
  ∀ (s : State) (l p : Nat) (i : Item) (f : ReplyFrame) (bytes : List Byte), isLane l = true →
    (s.lane l).state = .awaitReply p → (s.position p).item = some i → readFrame bytes = some f →
    f.address = probeAddress p → f.mark = (s.lane l).mark →
    let h := (s.position p).bound.getD ⟨0, 0#8⟩
    let wc := (s.position p).wordCount
    let ended := (s.endTurn l).updPosition p (fun x => { x with item := none })
    let again (j : Item) : State := (s.endTurn l).updPosition p (fun x => { x with item := some j })
    let done (t : State) : Prop := exec (.probeFrameReceived l bytes) s = .next t.settle
    (∀ (tr : Transfer) (c : Check), i.work = .write (some tr) → tr.phase = .commit → f.reply = .committed c →
      done (ended.send (if c = tr.imageCheck then .commitMatch p h else .commitMismatch p h))) ∧
    (∀ (k : Lock) (c : Check), i.work = .sealLock (some k) → f.reply = .locked c →
      done (ended.send (.locked p h c k.recordCheck))) ∧
    (∀ k : Lock, i.work = .sealLock (some k) → f.reply = .refused → done (ended.send (.refused p h))) ∧
    (∀ (tr : Transfer) (w : Nat), i.work = .write (some tr) → tr.phase = .stage → f.reply = .staged w → w ≤ tr.length →
      (tr.confirmed < w → done (again { i with
        work := .write (some { tr with confirmed := w, sendOffset := w,
                                       phase := if w = tr.length then .commit else .stage })
        requesting := true, attempts := 0 })) ∧
      (w ≤ tr.confirmed → i.attempts + 1 ≤ s.port.bench.retryLimit → done (again { i with
        work := .write (some { tr with sendOffset := tr.confirmed }), requesting := true, attempts := i.attempts + 1 })) ∧
      (w ≤ tr.confirmed → s.port.bench.retryLimit < i.attempts + 1 → done (ended.send (.stageFailed p h)))) ∧
    (∀ (off : Nat) (got ws : List Word), i.work = .readImage off got →
      f.reply = .imageWords off (min 8 (wc - off)) ws →
      (off + min 8 (wc - off) ≠ wc → done (again { i with
        work := .readImage (off + min 8 (wc - off)) (got ++ ws), requesting := true, attempts := 0 })) ∧
      (off + min 8 (wc - off) = wc → done (ended.imageRead p (got ++ ws)))) ∧
    (∀ (serial : List Byte) (tc n : Nat), i.work = .ident → f.reply = .identReply serial tc n →
      serialOk serial = true → tc ≠ 0 → tc ≠ 65535 → 1 ≤ n → n ≤ 16 → done (ended.identReplied p ⟨serial, tc, n, none⟩))

/-! ### Claims of positions and comparators -/

/-- R1, R4, R6, R7, R61: a creation claim is taken. R6: where the serial is held by an orphaned record, it is taken as a
rebind claim for that record. R61: a position that identifies again discards its identity and queues IDENT; one in
CONFLICT keeps the serial and type code and discards the trims; one in WAITING_SLOT keeps its identity whole; none of
the three but the first has a phase. -/
def Obligations.CreationClaimDecides : Prop :=
  ∀ (s : State) (p : Nat) (d : Identity) (image : Unpacked), isPosition p = true → s.Shaped → s.TableSound →
    s.Claims (ofPosition p) (.creation p d image) →
    let s1 := s.claimTaken (ofPosition p)
    let done (t : State) : Prop := exec (.creationClaim p) s = .next t.settle
    let matching (c : Nat) : Prop := ∃ pf, s.codeOfType d.typeCode = some c ∧ s.profileAt c = some pf ∧
      pf.imageLength = d.wordCount ∧ pf.trimSet = image.trims.map (fun t => (t.band, t.phase))
    let free (n : Nat) : Prop := within 64 n = true ∧ s.recordAt n = none
    let created (n c : Nat) : Record :=
      { slot := n, admission := s.admissions + 1, serial := d.serial, profile := c, state := .measuring
        position := some p
        trims := image.trims.map (fun v => ⟨v.band, v.phase, v.value, v.value⟩)
        results := List.replicate 24 ⟨.none, none, 0, false, 0⟩
        rounds := 0, generation := 0, writeFailures := 0, sealAttempts := 0
        flags := ⟨false, false, false, image.mismatch⟩
        spoiled := [], sealNumber := none, recordCheck := none, cause := none }
    ((∀ c, ¬ matching c) → done (s1.positionBecomes p (fun x => { x with
      state := .identifying, phase := some .ident, identity := none, item := some (newItem .ident) }))) ∧
    (∀ c, matching c →
      (∀ r q, r ∈ s.records → r.serial = d.serial → r.position = some q → done (s1.positionBecomes p (fun x => { x with
        state := .conflict, phase := none, identity := x.identity.map (fun e => { e with image := none }) }))) ∧
      (∀ r, r ∈ s.records → r.serial = d.serial → r.position = none →
        let h : Handle := ⟨r.slot, s.tag r.slot⟩
        exec (.creationClaim p) s = exec (.rebindClaim p) { s1 with inFlight := .rebind p h :: s1.inFlight }) ∧
      ((∀ r ∈ s.records, r.serial ≠ d.serial) →
        ((∀ n, ¬ free n) ∨ 4294967295 ≤ s.admissions → done (s1.positionBecomes p (fun x =>
          { x with state := .waitingSlot, phase := none }))) ∧
        (∀ n, free n → (∀ m, m < n → ¬ free m) → s.admissions < 4294967295 →
          ∃ t : State, exec (.creationClaim p) s = .next t ∧
            t.records = s.records ++ [created n c] ∧
            t.admissions = s.admissions + 1 ∧ t.tags = s.tags ∧
            (t.position p).state = .bound ∧ (t.position p).bound = some ⟨n, s.tag n⟩ ∧ (t.position p).identity = none ∧
            t.profileSlot c = (s.profileSlot c).map (fun ps => { ps with pins := ps.pins + 1 }) ∧
            (∀ q, isPosition q = true → q ≠ p → { t.position q with item := none } = { s.position q with item := none }) ∧
            t.port.pendingSet &&& 0x02#8 = 0x02#8 ∧ t.plan = s.plan ∧ t.seals = s.seals ∧ t.seq = s.seq)))

/-- R3, R9, R66: a rebind claim is taken: the position reads the image where the record is gone, goes to CONFLICT where
it is bound, and is bound to it (R8) where it is orphaned, a record in WRITE_PENDING having its WRITE item queued (R9,
R31; at a position that holds an item already none is: log entry 12, the model's reading) and no other record; an orphan
claim of the same record that is on its way is taken before the record is bound again (log entry 26, the model's
choice). R3, R10: an orphan claim is taken: both sides of the binding are absent, the WRITE or SEAL item that has not
had its first grant is withdrawn, and the outcomes of the position's abandoned work are discarded (R172, R192; log entry
10: as the claim is taken, the model's choice); the record is settled by its state. The mark of the item that R130 gave
is cleared with it (log entry 12, the model's reading). A record that is bound to another position by then is not of the
claim and is left as it stands (log entry 9, the model's reading: R10 has no such test). -/
def Obligations.RebindAndOrphanClaimsDecide : Prop :=
  ∀ (s : State) (p : Nat) (h : Handle), isPosition p = true → s.TableSound →
    let s1 := s.claimTaken (ofPosition p)
    (s.Claims (ofPosition p) (.rebind p h) →
      let taken (t : State) : Prop := s1.takeRebind p h = t ∧ exec (.rebindClaim p) s = .next t.settle
      let rebound (t : State) : State := ((t.updRecord h.slot (fun x => { x with position := some p })).positionBecomes p
        (fun x => { x with state := .bound, bound := some h, phase := none, identity := none, held := false })).resumeWrite
          h.slot
      (s.named h = none → taken (s1.updPosition p (fun x =>
        { x with phase := some .image, item := some (newItem (.readImage 0 [])) }))) ∧
      (∀ r, s.named h = some r → r.position = none →
        ((∀ q ph, Claim.orphan q h ph ∉ s.inFlight) → taken (rebound s1)) ∧
        (∀ q ph, isPosition q = true → s.Claims (isOrphanFor h) (.orphan q h ph) → ∃ v : State,
          exec (.orphanClaim q) { s1 with
            inFlight := .orphan q h ph :: s1.inFlight.filter (fun c => !isOrphanFor h c) } = .next v ∧
          taken (rebound v))) ∧
      (∀ r q, s.named h = some r → r.position = some q → taken (s1.positionBecomes p (fun x => { x with
        state := .conflict, phase := none, identity := x.identity.map (fun d => { d with image := none }) })))) ∧
    (∀ (u : State) (n : Nat),
      (u.recordAt n = none → u.resumeWrite n = u) ∧
      (∀ r, u.recordAt n = some r →
        let free (q : Nat) : Prop := r.position = some q ∧ (u.position q).state = .bound ∧ (u.position q).item = none
        (r.state ≠ .writePending → u.resumeWrite n = u) ∧
        (∀ q, r.state = .writePending → free q →
          u.resumeWrite n = u.updPosition q (fun x => { x with item := some (newItem (.write none)) })) ∧
        ((∀ q, ¬ free q) → u.resumeWrite n = u))) ∧
    (∀ phase, s.Claims (ofPosition p) (.orphan p h phase) →
      let queued (i : Item) : Bool := !i.granted && (match i.work with
        | .write _ | .sealLock _ => true
        | .ident | .readImage _ _ => false)
      let discarded : State := { s1 with inFlight := s1.inFlight.filter (fun c => !isOutcomeOf p c) }
      let freed := (discarded.updRecord h.slot (fun r => { r with position := none })).updPosition p
        (fun x => { x with bound := none, item := x.item.filter (fun i => !queued i), given := false })
      let done (t : State) : Prop := exec (.orphanClaim p) s = .next t
      (s.named h = none → done s1) ∧
      (∀ r, s.named h = some r →
        (∀ q, r.position = some q → q ≠ p → done s1) ∧
        (r.position = none ∨ r.position = some p →
          (r.state ≠ .writing → r.state ≠ .sealing → done freed) ∧
          (r.state = .writing → phase = some .commitSent → done (freed.reject h.slot .commitUnknown)) ∧
          (r.state = .writing → phase ≠ some .commitSent → done (freed.moveRecord h.slot .writePending)) ∧
          (r.state = .sealing → r.sealNumber = none → done ((freed.moveRecord h.slot .passed).evaluate h.slot)) ∧
          (∀ n, r.state = .sealing → r.sealNumber = some n →
            let spoiled := freed.updRecord h.slot (fun x => { x with
              spoiled := x.spoiled ++ [n], sealNumber := none, sealAttempts := x.sealAttempts + 1 })
            done (if 2 ≤ r.sealAttempts + 1 then spoiled.reject h.slot .sealFailed
              else (spoiled.moveRecord h.slot .passed).evaluate h.slot)))))

/-- R15, R16, R118, R119, R120, R121, R122, R123, R124: flag claims and result claims are taken. R130: an ADJUSTED
verdict of a record whose orphan claim is on its way gives the WRITE item, which the position, no longer BOUND, does not
hold (R53; log entry 12, the model's reading). R78: the tolerance is the point's for the profile's accuracy class, the
first of the four values for class 0 and the fourth for class 3. -/
def Obligations.ResultAndFlagClaimsDecide : Prop :=
  ∀ (s : State) (p : Nat) (h : Handle), isPosition p = true →
    let s1 := s.claimTaken (ofComparator p)
    let measured (r : Record) : Prop := r.state = .measuring ∨ r.state = .passed
    (∀ f, s.Claims (ofComparator p) (.flag p h f) →
      (s.named h = none → exec (.flagClaim p) s = .next s1) ∧
      (∀ r, s.named h = some r → ¬ measured r → exec (.flagClaim p) s = .next s1) ∧
      (∀ r, s.named h = some r → measured r → exec (.flagClaim p) s = .next (s1.updRecord h.slot (fun x =>
        { x with flags := ⟨x.flags.saturated || decide (f = .saturated), x.flags.glitch || decide (f = .glitch),
          x.flags.trimLimit, x.flags.imageOdd⟩ })))) ∧
    (∀ k res, s.Claims (ofComparator p) (.result p h k res) →
      let done (t : State) : Prop := exec (.resultClaim p) s = .next t.settle
      let written (r : Record) (status : EntryStatus) : State := s1.updRecord h.slot (fun x =>
        { x with results := setPlace x.results k ⟨status, res.error, res.windows, res.saturated, r.generation⟩ })
      (s.named h = none → done s1) ∧
      (∀ r, s.named h = some r → ¬ measured r → done s1) ∧
      (∀ r, s.named h = some r → measured r →
        (res.kind = .noPulse → done ((written r .noPulse).evaluate h.slot)) ∧
        (res.kind = .incomplete → done ((written r .incomplete).evaluate h.slot)) ∧
        (res.kind = .glitch → done ((written r .glitch).evaluate h.slot)) ∧
        (res.kind = .refLost → done ((written r .refLost).evaluate h.slot)) ∧
        (∀ e pt pf, res.kind = .done → res.error = some e → s.pointAt k = some pt →
          s.profileAt r.profile = some pf →
          let tolerance := pt.toleranceOf pf.accuracyClass
          (∀ t0 t1 t2 t3, pt.tolerances = [t0, t1, t2, t3] →
            (pf.accuracyClass = 0 → tolerance = t0) ∧ (pf.accuracyClass = 1 → tolerance = t1) ∧
            (pf.accuracyClass = 2 → tolerance = t2) ∧ (pf.accuracyClass = 3 → tolerance = t3)) ∧
          (pt.role = .check → e.natAbs ≤ tolerance → done ((written r .pass).evaluate h.slot)) ∧
          (pt.role = .check → tolerance < e.natAbs → done ((written r .fail).evaluate h.slot)) ∧
          (pt.role = .adjust → e.natAbs ≤ tolerance / 2 → done ((written r .pass).evaluate h.slot)) ∧
          (pt.role = .adjust → tolerance / 2 < e.natAbs → pf.adjustLimit < e.natAbs →
            done ((written r .fail).reject h.slot .outOfRange)) ∧
          (pt.role = .adjust → tolerance / 2 < e.natAbs → e.natAbs ≤ pf.adjustLimit → r.rounds = pf.maxRounds →
            done ((written r .fail).reject h.slot .adjustLimit)) ∧
          (pt.role = .adjust → tolerance / 2 < e.natAbs → e.natAbs ≤ pf.adjustLimit → r.rounds ≠ pf.maxRounds →
            let corrected := (written r .adjusted).updRecord h.slot (Record.adjust pt pf e)
            ((r.adjust pt pf e).differs = false → done (corrected.evaluate h.slot)) ∧
            ((r.adjust pt pf e).differs = true →
              (r.position ≠ none ∨ (∀ q ph, Claim.orphan q h ph ∉ s.inFlight) →
                done (corrected.enterWritePending h.slot)) ∧
              (∀ q ph, r.position = none → s.Claims (isOrphanFor h) (.orphan q h ph) →
                done ((corrected.enterWritePending h.slot).updPosition q (fun x => { x with given := true }))))))))

/-- R124, R125, R126: the correction of an ADJUSTED verdict is the integer nearest to −e over the trim unit, halves away
from zero; it moves the targets of the point's band and phases, clamped to their fields, and TRIM_LIMIT is set exactly
when a clamp changes a target. R35: the band of a current. -/
def Obligations.CorrectionIsNearestAndClamped : Prop :=
  ∀ (pt : Point) (pf : Profile) (e : Int) (r : Record), 0 < pf.trimUnit →
    let c := correctionOf e pf.trimUnit
    let u : Int := pf.trimUnit
    let under (t : Trim) : Prop := t.band = pf.bandOf pt.current ∧
      (pt.elements = .abc ∨ (pt.elements = .a ∧ t.phase = .a) ∨ (pt.elements = .b ∧ t.phase = .b) ∨
        (pt.elements = .c ∧ t.phase = .c))
    2 * (-e - c * u).natAbs ≤ pf.trimUnit ∧ (2 * (-e - c * u).natAbs = pf.trimUnit → e.natAbs < (c * u).natAbs) ∧
    (r.adjust pt pf e).rounds = r.rounds + 1 ∧ (r.adjust pt pf e).results = r.results ∧
    (r.adjust pt pf e).trims.length = r.trims.length ∧
    (∀ (n : Nat) (t : Trim), r.trims[n]? = some t →
      (¬ under t → (r.adjust pt pf e).trims[n]? = some t) ∧
      (∀ w, under t → trimWidth t.band t.phase pf.layout = some w →
        let moved : Int := max (-(2 ^ (w - 1) : Nat)) (min ((2 ^ (w - 1) : Nat) - 1) (t.target + c))
        (r.adjust pt pf e).trims[n]? = some { t with target := moved })) ∧
    ((r.adjust pt pf e).flags.saturated = r.flags.saturated ∧ (r.adjust pt pf e).flags.glitch = r.flags.glitch ∧
      (r.adjust pt pf e).flags.imageOdd = r.flags.imageOdd ∧
      ((r.adjust pt pf e).flags.trimLimit = true ↔ r.flags.trimLimit = true ∨
        ∃ t w, t ∈ r.trims ∧ under t ∧ trimWidth t.band t.phase pf.layout = some w ∧
          (t.target + c < -(2 ^ (w - 1) : Nat) ∨ (2 ^ (w - 1) : Nat) - 1 < t.target + c))) ∧
    (∀ current,
      (pf.bandCount = 1 → pf.bandOf current = .nominal) ∧
      (pf.bandCount = 2 → pf.bandOf current = if current < pf.t1 then .low else .nominal) ∧
      (pf.bandCount = 3 →
        (current < pf.t1 → pf.bandOf current = .low) ∧
        (pf.t1 ≤ current → current < pf.t2 → pf.bandOf current = .nominal) ∧
        (pf.t1 ≤ current → pf.t2 ≤ current → pf.bandOf current = .high)))

/-! ### Start claims and outcomes of lane work -/

/-- R144, R155, R163: a write start claim is taken or declined. R155, R188: a seal start claim is taken, refused or
declined. R155: a void grant sends no frame, ends the item without an outcome and leaves the lane IDLE. R178, R179: an
issue gives the next number and raises the two conditions as its comparisons say. That the turn's frames are composed,
and its send offset and burst budget moved, in the step that takes the start claim, is log entry 14, the model's
reading; `sendTurn` is that composing. R20: a record's change of state raises RECORDS_CHANGED. -/
def Obligations.StartClaimsDecideAndNumbersIssue : Prop :=
  (∀ (s : State) (l p n : Nat) (st : RecordState),
     ((s.position p).item = none → s.sendTurn l p = s) ∧
     (∀ i, (s.position p).item = some i →
       let turn := turnOf (p - 8 * ((p - 1) / 8)) (s.lane l).cap (s.lane l).mark (s.position p).wordCount i.work
       s.sendTurn l p = (s.updLane l (fun x => { x with frames := turn.frames, budget := turn.budget })).updPosition p
         (fun x => { x with item := some { i with work := turn.work } })) ∧
     (s.position p).wordCount = (match (s.position p).identity with
       | none => 0
       | some d => d.wordCount) ∧
     s.moveRecord n st = (s.updRecord n (fun r => { r with state := st })).raise .recordsChanged ∧
     (∀ h r, s.named h = some r ↔ s.resolve h = .ok r)) ∧
  (∀ (s : State) (p : Nat), isPosition p = true → s.Shaped →
     let t := s.voidGrant p
     t.position p = { s.position p with item := none } ∧
     (∀ q, isPosition q = true → q ≠ p → t.position q = s.position q) ∧
     ((s.lane (laneOf p)).state = .granted p ∨ (s.lane (laneOf p)).state = .awaitReply p →
       t.lane (laneOf p) = { s.lane (laneOf p) with state := .idle, timer := none, frames := [] }) ∧
     ((s.lane (laneOf p)).state ≠ .granted p → (s.lane (laneOf p)).state ≠ .awaitReply p →
       t.lane (laneOf p) = s.lane (laneOf p)) ∧
     (∀ l, isLane l = true → l ≠ laneOf p → t.lane l = s.lane l) ∧
     t.records = s.records ∧ t.inFlight = s.inFlight ∧ t.port = s.port ∧ t.seals = s.seals) ∧
  (∀ (s : State) (p : Nat) (h : Handle), isPosition p = true →
     let s1 := s.claimTaken (ofLaneWork p)
     let work (w : Work) (t : State) : State :=
       t.updPosition p (fun x => { x with item := x.item.map (fun i => { i with work := w }) })
     (s.Claims (ofLaneWork p) (.writeStart p h) →
       (s.named h = none → exec (.writeStartClaim p) s = .next (s1.voidGrant p).settle) ∧
       (∀ r, s.named h = some r → ¬ (r.state = .writePending ∧ r.position = some p) →
         exec (.writeStartClaim p) s = .next (s1.voidGrant p).settle) ∧
       (∀ r pf, s.named h = some r → s.profileAt r.profile = some pf → r.state = .writePending → r.position = some p →
         let snapshot := pack pf (trimValue (·.target) r.trims)
         exec (.writeStartClaim p) s = .next ((work (.write (some ⟨snapshot, check (imageBytes snapshot), pf.imageLength,
           0, 0, .stage, false⟩)) (s1.moveRecord h.slot .writing)).sendTurn (laneOf p) p))) ∧
     (s.Claims (ofLaneWork p) (.sealStart p h) →
       let done (t : State) : Prop := exec (.sealStartClaim p) s = .next t
       (s.named h = none → done (s1.voidGrant p).settle) ∧
       (∀ r, s.named h = some r → ¬ (r.state = .sealing ∧ r.position = some p) → done (s1.voidGrant p).settle) ∧
       (∀ r pf, s.named h = some r → s.profileAt r.profile = some pf → r.state = .sealing → r.position = some p →
         let back := ((s1.voidGrant p).moveRecord h.slot .passed).evaluate h.slot
         (s.passedCondition r = false → done back.settle) ∧
         (s.passedCondition r = true → s.seals.remaining = 0 → done (back.raise .sealsExhausted).settle) ∧
         (s.passedCondition r = true → s.seals.remaining ≠ 0 →
           let n := s.seals.next
           let sum := check (r.serial ++ imageBytes (pack pf (trimValue (·.meter) r.trims)) ++ leBytes 4 n)
           done ((work (.sealLock (some ⟨n, sum⟩)) (s1.issueSeal.updRecord h.slot (fun x =>
             { x with sealNumber := some n }))).sendTurn (laneOf p) p))))) ∧
  (∀ s : State, s.seals.Sound → s.seals.remaining ≠ 0 →
     let left := s.seals.remaining - 1
     let low : Byte := if s.port.bench.sealLow ≤ s.seals.remaining ∧ left < s.port.bench.sealLow then 0x10#8 else 0#8
     let out : Byte := if left = 0 then 0x20#8 else 0#8
     s.issueSeal.seals = ⟨s.seals.first, s.seals.last, s.seals.next + 1, s.seals.next⟩ ∧
     s.issueSeal.seals.remaining = left ∧
     s.issueSeal.port = { s.port with pendingSet := s.port.pendingSet ||| low ||| out } ∧
     s.issueSeal.records = s.records ∧ s.issueSeal.positions = s.positions ∧ s.issueSeal.lanes = s.lanes)

/-- R134, R135, R136, R169, R170, R171, R172: write outcomes are taken for a record in WRITING bound to the position, or
orphaned from it with the orphan claim still on its way (R65), and discarded otherwise (log entry 10: of another
position's transfer too). -/
def Obligations.WriteOutcomesDecide : Prop :=
  ∀ (s : State) (p : Nat) (h : Handle), isPosition p = true →
    let s1 := s.claimTaken (ofLaneWork p)
    let leaving : Prop := ∃ ph, s.Claims (isOrphanFor h) (.orphan p h ph)
    let writing (r : Record) : Prop := r.state = .writing ∧ (r.position = some p ∨ (r.position = none ∧ leaving))
    let void : Prop := s.named h = none ∨ ∃ r, s.named h = some r ∧ ¬ writing r
    (s.Claims (ofLaneWork p) (.commitMatch p h) →
      (void → exec (.commitMatchOutcome p) s = .next s1) ∧
      (∀ r pf, s.named h = some r → writing r → s.profileAt r.profile = some pf →
        ∃ stale : Nat → Bool,
          (∀ k, stale k = true ↔ ∃ pt t, s.pointAt k = some pt ∧ t ∈ r.trims ∧ t.target ≠ t.meter ∧
            t.band = pf.bandOf pt.current ∧ pt.elements.loads t.phase = true) ∧
          exec (.commitMatchOutcome p) s = .next (((s1.updRecord h.slot (fun x => { x with
            trims := x.trims.map (fun t => { t with meter := t.target })
            generation := min 255 (x.generation + 1)
            flags := { x.flags with imageOdd := false }
            results := x.results.mapIdx (fun j e =>
              if stale (j + 1) = true ∧ e.status ≠ .none then { e with status := .stale } else e) })).moveRecord h.slot
                .measuring).evaluate h.slot).settle)) ∧
    (s.Claims (ofLaneWork p) (.stageFailed p h) →
      (void → exec (.stageFailedOutcome p) s = .next s1) ∧
      (∀ r, s.named h = some r → writing r →
        let counted := s1.updRecord h.slot (fun x => { x with writeFailures := x.writeFailures + 1 })
        exec (.stageFailedOutcome p) s = .next (if 2 ≤ r.writeFailures + 1 then counted.reject h.slot .writeFailed
          else counted.enterWritePending h.slot).settle)) ∧
    (s.Claims (ofLaneWork p) (.commitMismatch p h) →
      (void → exec (.commitFailOutcome p) s = .next s1) ∧
      (∀ r, s.named h = some r → writing r →
        exec (.commitFailOutcome p) s = .next (s1.reject h.slot .commitMismatch).settle)) ∧
    (s.Claims (ofLaneWork p) (.commitUnknown p h) →
      (void → exec (.commitFailOutcome p) s = .next s1) ∧
      (∀ r, s.named h = some r → writing r →
        exec (.commitFailOutcome p) s = .next (s1.reject h.slot .commitUnknown).settle))

/-- R189, R190, R191, R192: lock outcomes are taken for a record in SEALING that holds a seal number and is bound to the
position, or orphaned from it with the orphan claim still on its way (R65), and discarded otherwise (log entry 10: of
another position's lock too). -/
def Obligations.LockOutcomesDecide : Prop :=
  ∀ (s : State) (p : Nat) (h : Handle), isPosition p = true → s.TableSound →
    let s1 := s.claimTaken (ofLaneWork p)
    let leaving : Prop := ∃ ph, s.Claims (isOrphanFor h) (.orphan p h ph)
    let locking (r : Record) (n : Nat) : Prop := r.state = .sealing ∧ r.sealNumber = some n ∧
      (r.position = some p ∨ (r.position = none ∧ leaving))
    let void : Prop := s.named h = none ∨ ∃ r, s.named h = some r ∧ ∀ n, ¬ locking r n
    let spoiled (n : Nat) (attempts : Nat) : State := s1.updRecord h.slot (fun x => { x with
      spoiled := x.spoiled ++ [n], sealNumber := none, sealAttempts := x.sealAttempts + attempts })
    (∀ reply sent, s.Claims (ofLaneWork p) (.locked p h reply sent) →
      (void → exec (.lockedOutcome p) s = .next s1) ∧
      (∀ r n, s.named h = some r → locking r n →
        (reply = sent → exec (.lockedOutcome p) s = .next (((s1.updRecord h.slot (fun x =>
          { x with recordCheck := some sent })).moveRecord h.slot .sealed).settle)) ∧
        (reply ≠ sent → exec (.lockedOutcome p) s = .next ((spoiled n 0).reject h.slot .sealMismatch).settle))) ∧
    (s.Claims (ofLaneWork p) (.refused p h) →
      (void → exec (.refusedOutcome p) s = .next s1) ∧
      (∀ r n, s.named h = some r → locking r n →
        exec (.refusedOutcome p) s = .next ((spoiled n 0).reject h.slot .sealRefused).settle)) ∧
    (s.Claims (ofLaneWork p) (.noReply p h) →
      (void → exec (.noReplyOutcome p) s = .next s1) ∧
      (∀ r n, s.named h = some r → locking r n →
        exec (.noReplyOutcome p) s = .next (if 2 ≤ r.sealAttempts + 1 then (spoiled n 1).reject h.slot .sealFailed
          else ((spoiled n 1).moveRecord h.slot .passed).evaluate h.slot).settle))

/-! ### Pulses -/

/-- R95, R97: a reference edge counts and restarts the watchdog. R97, R98: REF_WATCHDOG_TIMEOUT is the advance of the
watchdog time by 1 ms that arrives at the reference timeout while a point runs and the mark is clear; it reports the loss
and sets the mark. Where the next advance does not arrive there, no arrival is due, and nothing happens: so after an edge
taken first, and after a SET_BENCH that raised the timeout (log entry 4, the model's choice of what the command stands
for). -/
def Obligations.ReferenceEdgesAndWatchdog : Prop :=
  ∀ s : State,
    exec .refEdge s = .next { s with ref :=
      { s.ref with counter := s.ref.counter + 1#32, watchdog := 0, lossReported := false } } ∧
    (let time := min 10000 (s.ref.watchdog + 1)
     (s.seq.running = none ∨ s.ref.lossReported = true ∨ time < s.port.bench.refTimeout →
       exec .refWatchdogTimeout s = .next s) ∧
     (s.seq.running ≠ none → s.ref.lossReported = false → s.port.bench.refTimeout ≤ time →
       exec .refWatchdogTimeout s = .next { s with
         ref := { s.ref with watchdog := time, lossReported := true }
         inFlight := s.inFlight ++ [.refLoss] })) ∧
    (∀ t u : State, 1 < s.port.bench.refTimeout → exec .refEdge s = .next t → exec .refWatchdogTimeout t = .next u →
      u = t)

/-- R102, R103, R104, R105: an active edge comes under test with the counter's capture; an opposite edge before the
minimum width makes it a glitch, under the two policies; any other edge has no effect or accepts the edge. A
METER_ACTIVE_EDGE whose transition is not the active one, and a METER_OPPOSITE_EDGE whose transition is, have no effect
(log entry 5, the model's choice of the operands). -/
def Obligations.MeterEdgesAreTested : Prop :=
  ∀ (s : State) (p : Nat) (tr : PulseEdge) (time : Nat), isPosition p = true → s.Shaped →
    let x := (s.position p).cmp
    let testing : Prop := x.state = .armed ∨ x.state = .counting
    let becomes (c : Comparator) (sent : List Claim) : State :=
      { s.updPosition p (fun y => { y with cmp := c }) with inFlight := s.inFlight ++ sent }
    (∀ pr, x.params = some pr → testing → tr = pr.edge →
      exec (.meterActiveEdge p tr time) s = .next (becomes { x with edge := some ⟨s.ref.counter, time⟩ } [])) ∧
    (¬ testing ∨ (∀ pr, x.params = some pr → tr ≠ pr.edge) → exec (.meterActiveEdge p tr time) s = .next s) ∧
    (∀ pr e h k, x.params = some pr → x.edge = some e → x.handle = some h → x.index = some k → testing → tr ≠ pr.edge →
      (time - e.arrival < pr.minWidth → pr.policy = .stall →
        exec (.meterOppositeEdge p tr time) s = .next (becomes { x with state := .stalled, edge := none }
          [.flag p h .glitch, .result p h k ⟨.glitch, none, x.windows, false⟩, .finishing p])) ∧
      (time - e.arrival < pr.minWidth → pr.policy = .ignore →
        exec (.meterOppositeEdge p tr time) s = .next (becomes { x with edge := none } [.flag p h .glitch])) ∧
      (pr.minWidth ≤ time - e.arrival →
        exec (.meterOppositeEdge p tr time) s = exec (.glitchTestEnd p) s)) ∧
    (¬ testing ∨ x.edge = none ∨ (∀ pr, x.params = some pr → tr = pr.edge) →
      exec (.meterOppositeEdge p tr time) s = .next s)

/-- R102, R107, R108, R109, R110, R111, R113: an accepted edge starts the first window, counts, or ends a window; a
window of zero reference pulses gives REF_LOST, and the last window gives the mean. -/
def Obligations.AcceptedEdgesMakeWindows : Prop :=
  ∀ (s : State) (p : Nat) (pr : PointParams) (e : EdgeUnderTest) (h : Handle) (k : Nat), isPosition p = true → s.Shaped →
    let x := (s.position p).cmp
    let becomes (c : Comparator) (sent : List Claim) : State :=
      { s.updPosition p (fun y => { y with cmp := c }) with inFlight := s.inFlight ++ sent }
    let done (t : State) : Prop := exec (.glitchTestEnd p) s = .next t
    (x.edge = none ∨ (x.state ≠ .armed ∧ x.state ≠ .counting) → done s) ∧
    (x.params = some pr → x.edge = some e → x.handle = some h → x.index = some k →
      (x.state = .armed → done (becomes { x with
        state := .counting, start := some e.capture, edge := none, count := 0, windows := 0, acc := 0 } [])) ∧
      (∀ start, x.state = .counting → x.start = some start →
        let c := (e.capture - start).toNat
        let error := guardClamp (windowError pr.pulses pr.kref pr.kmeter c)
        let mean := Int.tdiv (x.acc + error) pr.windows
        let stored := storedClamp mean
        (x.count + 1 ≠ pr.pulses → done (becomes { x with edge := none, count := x.count + 1 } [])) ∧
        (x.count + 1 = pr.pulses → c = 0 → done (becomes { x with state := .done, edge := none, count := pr.pulses }
          [.result p h k ⟨.refLost, none, 0, false⟩, .finishing p])) ∧
        (x.count + 1 = pr.pulses → c ≠ 0 → x.windows + 1 ≠ pr.windows → done (becomes { x with
          edge := none, start := some e.capture, count := 0, windows := x.windows + 1, acc := x.acc + error } [])) ∧
        (x.count + 1 = pr.pulses → c ≠ 0 → x.windows + 1 = pr.windows → done (becomes { x with
          state := .done, edge := none, count := pr.pulses, windows := pr.windows, acc := x.acc + error }
          ((if stored ≠ mean then [.flag p h .saturated] else []) ++
            [.result p h k ⟨.done, some stored, pr.windows, decide (stored ≠ mean)⟩, .finishing p])))))

/-! ### What is written reads back -/

/-- R214: numbers are sent and read least significant byte first. R48: a stored slot is the mark A5h and the profile
block, or 3Ch and 221 bytes 00h, then the check of what stands before it. R48, R50, R214, R215: a profile saved to a
stored slot reads back as itself, a point sent in a point block is the point, and a reply frame reads as its kind,
address, mark and fields. -/
def Obligations.WrittenFormsReadBack : Prop :=
  (∀ (n v : Nat) (b : Byte) (bs : List Byte), leBytes 0 v = [] ∧
    leBytes (n + 1) v = BitVec.ofNat 8 v :: leBytes n (v / 256) ∧
    leNat [] = 0 ∧ leNat (b :: bs) = b.toNat + 256 * leNat bs) ∧
  (∀ (pf : Profile) (pins : Nat),
    let sealedWith (body : List Byte) : FlashSlot := .stored (body ++ leBytes 2 (check body).toNat)
    storedSlot (some ⟨pf, pins⟩) = sealedWith (0xA5#8 :: profileBlock pf) ∧
    storedSlot none = sealedWith (0x3C#8 :: List.replicate 221 0#8)) ∧
  (∀ (raw : RawProfile) (pf : Profile) (pins : Nat), validate raw = .ok pf →
    ∃ again, readStored (storedSlot (some ⟨pf, pins⟩)) = .candidate again ∧ validate again = .ok pf) ∧
  readStored (storedSlot none) = .empty ∧ readStored .interrupted = .loadFault ∧
  (∀ (k : Byte) (pt : Point) (a b c d : Nat), pt.tolerances = [a, b, c, d] →
    1 ≤ pt.current → pt.current ≤ 200000 → 1 ≤ pt.pulses → pt.pulses ≤ 1000 → 1 ≤ pt.windows → pt.windows ≤ 8 →
    (∀ n ∈ pt.tolerances, 1 ≤ n ∧ n ≤ 100000) → 1 ≤ pt.timeout → pt.timeout ≤ 3600 →
    pointArg (k :: pointBlock pt) = some pt) ∧
  (∀ (address : Nat) (kind mark : Byte) (fields : List Byte), address < 256 →
    readFrame (frame address kind mark fields) =
      (replyFields kind fields).map (fun r => { address := address, mark := mark, reply := r }))
end

