-- ==== Sys2Proof/Laws/State.lean ====
section
/-! SUPPORT. One lemma per field per update of the state. -/

namespace Sys2Proof.Machine

variable (s : State)

/-! ### raise -/

@[simp] theorem State.raise_port (c : Condition) :
    (s.raise c).port = { s.port with pendingSet := s.port.pendingSet ||| c.bit } := rfl
@[simp] theorem State.raise_ref (c : Condition) : (s.raise c).ref = s.ref := rfl
@[simp] theorem State.raise_plan (c : Condition) : (s.raise c).plan = s.plan := rfl
@[simp] theorem State.raise_seq (c : Condition) : (s.raise c).seq = s.seq := rfl
@[simp] theorem State.raise_tags (c : Condition) : (s.raise c).tags = s.tags := rfl
@[simp] theorem State.raise_admissions (c : Condition) : (s.raise c).admissions = s.admissions := rfl
@[simp] theorem State.raise_records (c : Condition) : (s.raise c).records = s.records := rfl
@[simp] theorem State.raise_profiles (c : Condition) : (s.raise c).profiles = s.profiles := rfl
@[simp] theorem State.raise_store (c : Condition) : (s.raise c).store = s.store := rfl
@[simp] theorem State.raise_flash (c : Condition) : (s.raise c).flash = s.flash := rfl
@[simp] theorem State.raise_positions (c : Condition) : (s.raise c).positions = s.positions := rfl
@[simp] theorem State.raise_lanes (c : Condition) : (s.raise c).lanes = s.lanes := rfl
@[simp] theorem State.raise_seals (c : Condition) : (s.raise c).seals = s.seals := rfl
@[simp] theorem State.raise_codec (c : Condition) : (s.raise c).codec = s.codec := rfl
@[simp] theorem State.raise_inFlight (c : Condition) : (s.raise c).inFlight = s.inFlight := rfl
@[simp] theorem State.raise_fresh (c : Condition) : (s.raise c).fresh = s.fresh := rfl
@[simp] theorem State.raise_pending (c : Condition) : (s.raise c).pending = s.pending := rfl

/-! ### updPosition -/

@[simp] theorem State.updPosition_port (p : Nat) (f : Position → Position) : (s.updPosition p f).port = s.port := rfl
@[simp] theorem State.updPosition_ref (p : Nat) (f : Position → Position) : (s.updPosition p f).ref = s.ref := rfl
@[simp] theorem State.updPosition_plan (p : Nat) (f : Position → Position) : (s.updPosition p f).plan = s.plan := rfl
@[simp] theorem State.updPosition_seq (p : Nat) (f : Position → Position) : (s.updPosition p f).seq = s.seq := rfl
@[simp] theorem State.updPosition_tags (p : Nat) (f : Position → Position) : (s.updPosition p f).tags = s.tags := rfl
@[simp] theorem State.updPosition_admissions (p : Nat) (f : Position → Position) :
    (s.updPosition p f).admissions = s.admissions := rfl
@[simp] theorem State.updPosition_records (p : Nat) (f : Position → Position) :
    (s.updPosition p f).records = s.records := rfl
@[simp] theorem State.updPosition_profiles (p : Nat) (f : Position → Position) :
    (s.updPosition p f).profiles = s.profiles := rfl
@[simp] theorem State.updPosition_store (p : Nat) (f : Position → Position) :
    (s.updPosition p f).store = s.store := rfl
@[simp] theorem State.updPosition_flash (p : Nat) (f : Position → Position) :
    (s.updPosition p f).flash = s.flash := rfl
@[simp] theorem State.updPosition_positions (p : Nat) (f : Position → Position) :
    (s.updPosition p f).positions = updPlace s.positions p f := rfl
@[simp] theorem State.updPosition_lanes (p : Nat) (f : Position → Position) :
    (s.updPosition p f).lanes = s.lanes := rfl
@[simp] theorem State.updPosition_seals (p : Nat) (f : Position → Position) :
    (s.updPosition p f).seals = s.seals := rfl
@[simp] theorem State.updPosition_codec (p : Nat) (f : Position → Position) :
    (s.updPosition p f).codec = s.codec := rfl
@[simp] theorem State.updPosition_inFlight (p : Nat) (f : Position → Position) :
    (s.updPosition p f).inFlight = s.inFlight := rfl
@[simp] theorem State.updPosition_fresh (p : Nat) (f : Position → Position) :
    (s.updPosition p f).fresh = s.fresh := rfl
@[simp] theorem State.updPosition_pending (p : Nat) (f : Position → Position) :
    (s.updPosition p f).pending = s.pending := rfl

/-! ### updCmp -/

@[simp] theorem State.updCmp_port (p : Nat) (f : Comparator → Comparator) : (s.updCmp p f).port = s.port := rfl
@[simp] theorem State.updCmp_ref (p : Nat) (f : Comparator → Comparator) : (s.updCmp p f).ref = s.ref := rfl
@[simp] theorem State.updCmp_plan (p : Nat) (f : Comparator → Comparator) : (s.updCmp p f).plan = s.plan := rfl
@[simp] theorem State.updCmp_seq (p : Nat) (f : Comparator → Comparator) : (s.updCmp p f).seq = s.seq := rfl
@[simp] theorem State.updCmp_tags (p : Nat) (f : Comparator → Comparator) : (s.updCmp p f).tags = s.tags := rfl
@[simp] theorem State.updCmp_admissions (p : Nat) (f : Comparator → Comparator) :
    (s.updCmp p f).admissions = s.admissions := rfl
@[simp] theorem State.updCmp_records (p : Nat) (f : Comparator → Comparator) :
    (s.updCmp p f).records = s.records := rfl
@[simp] theorem State.updCmp_profiles (p : Nat) (f : Comparator → Comparator) :
    (s.updCmp p f).profiles = s.profiles := rfl
@[simp] theorem State.updCmp_store (p : Nat) (f : Comparator → Comparator) : (s.updCmp p f).store = s.store := rfl
@[simp] theorem State.updCmp_flash (p : Nat) (f : Comparator → Comparator) : (s.updCmp p f).flash = s.flash := rfl
@[simp] theorem State.updCmp_positions (p : Nat) (f : Comparator → Comparator) :
    (s.updCmp p f).positions = updPlace s.positions p (fun x => { x with cmp := f x.cmp }) := rfl
@[simp] theorem State.updCmp_lanes (p : Nat) (f : Comparator → Comparator) : (s.updCmp p f).lanes = s.lanes := rfl
@[simp] theorem State.updCmp_seals (p : Nat) (f : Comparator → Comparator) : (s.updCmp p f).seals = s.seals := rfl
@[simp] theorem State.updCmp_codec (p : Nat) (f : Comparator → Comparator) : (s.updCmp p f).codec = s.codec := rfl
@[simp] theorem State.updCmp_inFlight (p : Nat) (f : Comparator → Comparator) :
    (s.updCmp p f).inFlight = s.inFlight := rfl
@[simp] theorem State.updCmp_fresh (p : Nat) (f : Comparator → Comparator) : (s.updCmp p f).fresh = s.fresh := rfl
@[simp] theorem State.updCmp_pending (p : Nat) (f : Comparator → Comparator) :
    (s.updCmp p f).pending = s.pending := rfl

/-! ### updLane -/

@[simp] theorem State.updLane_port (l : Nat) (f : Lane → Lane) : (s.updLane l f).port = s.port := rfl
@[simp] theorem State.updLane_ref (l : Nat) (f : Lane → Lane) : (s.updLane l f).ref = s.ref := rfl
@[simp] theorem State.updLane_plan (l : Nat) (f : Lane → Lane) : (s.updLane l f).plan = s.plan := rfl
@[simp] theorem State.updLane_seq (l : Nat) (f : Lane → Lane) : (s.updLane l f).seq = s.seq := rfl
@[simp] theorem State.updLane_tags (l : Nat) (f : Lane → Lane) : (s.updLane l f).tags = s.tags := rfl
@[simp] theorem State.updLane_admissions (l : Nat) (f : Lane → Lane) :
    (s.updLane l f).admissions = s.admissions := rfl
@[simp] theorem State.updLane_records (l : Nat) (f : Lane → Lane) : (s.updLane l f).records = s.records := rfl
@[simp] theorem State.updLane_profiles (l : Nat) (f : Lane → Lane) : (s.updLane l f).profiles = s.profiles := rfl
@[simp] theorem State.updLane_store (l : Nat) (f : Lane → Lane) : (s.updLane l f).store = s.store := rfl
@[simp] theorem State.updLane_flash (l : Nat) (f : Lane → Lane) : (s.updLane l f).flash = s.flash := rfl
@[simp] theorem State.updLane_positions (l : Nat) (f : Lane → Lane) : (s.updLane l f).positions = s.positions := rfl
@[simp] theorem State.updLane_lanes (l : Nat) (f : Lane → Lane) : (s.updLane l f).lanes = updPlace s.lanes l f := rfl
@[simp] theorem State.updLane_seals (l : Nat) (f : Lane → Lane) : (s.updLane l f).seals = s.seals := rfl
@[simp] theorem State.updLane_codec (l : Nat) (f : Lane → Lane) : (s.updLane l f).codec = s.codec := rfl
@[simp] theorem State.updLane_inFlight (l : Nat) (f : Lane → Lane) : (s.updLane l f).inFlight = s.inFlight := rfl
@[simp] theorem State.updLane_fresh (l : Nat) (f : Lane → Lane) : (s.updLane l f).fresh = s.fresh := rfl
@[simp] theorem State.updLane_pending (l : Nat) (f : Lane → Lane) : (s.updLane l f).pending = s.pending := rfl

/-! ### updRecord -/

@[simp] theorem State.updRecord_port (n : Nat) (f : Record → Record) : (s.updRecord n f).port = s.port := rfl
@[simp] theorem State.updRecord_ref (n : Nat) (f : Record → Record) : (s.updRecord n f).ref = s.ref := rfl
@[simp] theorem State.updRecord_plan (n : Nat) (f : Record → Record) : (s.updRecord n f).plan = s.plan := rfl
@[simp] theorem State.updRecord_seq (n : Nat) (f : Record → Record) : (s.updRecord n f).seq = s.seq := rfl
@[simp] theorem State.updRecord_tags (n : Nat) (f : Record → Record) : (s.updRecord n f).tags = s.tags := rfl
@[simp] theorem State.updRecord_admissions (n : Nat) (f : Record → Record) :
    (s.updRecord n f).admissions = s.admissions := rfl
@[simp] theorem State.updRecord_records (n : Nat) (f : Record → Record) :
    (s.updRecord n f).records = s.records.map (fun r => if r.slot = n then f r else r) := rfl
@[simp] theorem State.updRecord_profiles (n : Nat) (f : Record → Record) :
    (s.updRecord n f).profiles = s.profiles := rfl
@[simp] theorem State.updRecord_store (n : Nat) (f : Record → Record) : (s.updRecord n f).store = s.store := rfl
@[simp] theorem State.updRecord_flash (n : Nat) (f : Record → Record) : (s.updRecord n f).flash = s.flash := rfl
@[simp] theorem State.updRecord_positions (n : Nat) (f : Record → Record) :
    (s.updRecord n f).positions = s.positions := rfl
@[simp] theorem State.updRecord_lanes (n : Nat) (f : Record → Record) : (s.updRecord n f).lanes = s.lanes := rfl
@[simp] theorem State.updRecord_seals (n : Nat) (f : Record → Record) : (s.updRecord n f).seals = s.seals := rfl
@[simp] theorem State.updRecord_codec (n : Nat) (f : Record → Record) : (s.updRecord n f).codec = s.codec := rfl
@[simp] theorem State.updRecord_inFlight (n : Nat) (f : Record → Record) :
    (s.updRecord n f).inFlight = s.inFlight := rfl
@[simp] theorem State.updRecord_fresh (n : Nat) (f : Record → Record) : (s.updRecord n f).fresh = s.fresh := rfl
@[simp] theorem State.updRecord_pending (n : Nat) (f : Record → Record) : (s.updRecord n f).pending = s.pending := rfl

/-! ### updPins -/

@[simp] theorem State.updPins_port (c : Nat) (f : Nat → Nat) : (s.updPins c f).port = s.port := rfl
@[simp] theorem State.updPins_ref (c : Nat) (f : Nat → Nat) : (s.updPins c f).ref = s.ref := rfl
@[simp] theorem State.updPins_plan (c : Nat) (f : Nat → Nat) : (s.updPins c f).plan = s.plan := rfl
@[simp] theorem State.updPins_seq (c : Nat) (f : Nat → Nat) : (s.updPins c f).seq = s.seq := rfl
@[simp] theorem State.updPins_tags (c : Nat) (f : Nat → Nat) : (s.updPins c f).tags = s.tags := rfl
@[simp] theorem State.updPins_admissions (c : Nat) (f : Nat → Nat) : (s.updPins c f).admissions = s.admissions := rfl
@[simp] theorem State.updPins_records (c : Nat) (f : Nat → Nat) : (s.updPins c f).records = s.records := rfl
@[simp] theorem State.updPins_profiles (c : Nat) (f : Nat → Nat) :
    (s.updPins c f).profiles = updPlace s.profiles c (Option.map (fun ps => { ps with pins := f ps.pins })) := rfl
@[simp] theorem State.updPins_store (c : Nat) (f : Nat → Nat) : (s.updPins c f).store = s.store := rfl
@[simp] theorem State.updPins_flash (c : Nat) (f : Nat → Nat) : (s.updPins c f).flash = s.flash := rfl
@[simp] theorem State.updPins_positions (c : Nat) (f : Nat → Nat) : (s.updPins c f).positions = s.positions := rfl
@[simp] theorem State.updPins_lanes (c : Nat) (f : Nat → Nat) : (s.updPins c f).lanes = s.lanes := rfl
@[simp] theorem State.updPins_seals (c : Nat) (f : Nat → Nat) : (s.updPins c f).seals = s.seals := rfl
@[simp] theorem State.updPins_codec (c : Nat) (f : Nat → Nat) : (s.updPins c f).codec = s.codec := rfl
@[simp] theorem State.updPins_inFlight (c : Nat) (f : Nat → Nat) : (s.updPins c f).inFlight = s.inFlight := rfl
@[simp] theorem State.updPins_fresh (c : Nat) (f : Nat → Nat) : (s.updPins c f).fresh = s.fresh := rfl
@[simp] theorem State.updPins_pending (c : Nat) (f : Nat → Nat) : (s.updPins c f).pending = s.pending := rfl

/-! ### send -/

@[simp] theorem State.send_port (c : Claim) : (s.send c).port = s.port := rfl
@[simp] theorem State.send_ref (c : Claim) : (s.send c).ref = s.ref := rfl
@[simp] theorem State.send_plan (c : Claim) : (s.send c).plan = s.plan := rfl
@[simp] theorem State.send_seq (c : Claim) : (s.send c).seq = s.seq := rfl
@[simp] theorem State.send_tags (c : Claim) : (s.send c).tags = s.tags := rfl
@[simp] theorem State.send_admissions (c : Claim) : (s.send c).admissions = s.admissions := rfl
@[simp] theorem State.send_records (c : Claim) : (s.send c).records = s.records := rfl
@[simp] theorem State.send_profiles (c : Claim) : (s.send c).profiles = s.profiles := rfl
@[simp] theorem State.send_store (c : Claim) : (s.send c).store = s.store := rfl
@[simp] theorem State.send_flash (c : Claim) : (s.send c).flash = s.flash := rfl
@[simp] theorem State.send_positions (c : Claim) : (s.send c).positions = s.positions := rfl
@[simp] theorem State.send_lanes (c : Claim) : (s.send c).lanes = s.lanes := rfl
@[simp] theorem State.send_seals (c : Claim) : (s.send c).seals = s.seals := rfl
@[simp] theorem State.send_codec (c : Claim) : (s.send c).codec = s.codec := rfl
@[simp] theorem State.send_inFlight (c : Claim) : (s.send c).inFlight = s.inFlight ++ [c] := rfl
@[simp] theorem State.send_fresh (c : Claim) : (s.send c).fresh = s.fresh := rfl
@[simp] theorem State.send_pending (c : Claim) : (s.send c).pending = s.pending := rfl

/-! ### putAnswer -/

@[simp] theorem State.putAnswer_port (a : Answer) :
    (s.putAnswer a).port = { s.port with answers := s.port.answers ++ [a] } := rfl
@[simp] theorem State.putAnswer_ref (a : Answer) : (s.putAnswer a).ref = s.ref := rfl
@[simp] theorem State.putAnswer_plan (a : Answer) : (s.putAnswer a).plan = s.plan := rfl
@[simp] theorem State.putAnswer_seq (a : Answer) : (s.putAnswer a).seq = s.seq := rfl
@[simp] theorem State.putAnswer_tags (a : Answer) : (s.putAnswer a).tags = s.tags := rfl
@[simp] theorem State.putAnswer_admissions (a : Answer) : (s.putAnswer a).admissions = s.admissions := rfl
@[simp] theorem State.putAnswer_records (a : Answer) : (s.putAnswer a).records = s.records := rfl
@[simp] theorem State.putAnswer_profiles (a : Answer) : (s.putAnswer a).profiles = s.profiles := rfl
@[simp] theorem State.putAnswer_store (a : Answer) : (s.putAnswer a).store = s.store := rfl
@[simp] theorem State.putAnswer_flash (a : Answer) : (s.putAnswer a).flash = s.flash := rfl
@[simp] theorem State.putAnswer_positions (a : Answer) : (s.putAnswer a).positions = s.positions := rfl
@[simp] theorem State.putAnswer_lanes (a : Answer) : (s.putAnswer a).lanes = s.lanes := rfl
@[simp] theorem State.putAnswer_seals (a : Answer) : (s.putAnswer a).seals = s.seals := rfl
@[simp] theorem State.putAnswer_codec (a : Answer) : (s.putAnswer a).codec = s.codec := rfl
@[simp] theorem State.putAnswer_inFlight (a : Answer) : (s.putAnswer a).inFlight = s.inFlight := rfl
@[simp] theorem State.putAnswer_fresh (a : Answer) : (s.putAnswer a).fresh = s.fresh := rfl
@[simp] theorem State.putAnswer_pending (a : Answer) : (s.putAnswer a).pending = s.pending := rfl

/-! ### moveRecord -/

@[simp] theorem State.moveRecord_port (n : Nat) (st : RecordState) :
    (s.moveRecord n st).port = { s.port with pendingSet := s.port.pendingSet ||| Condition.recordsChanged.bit } := rfl
@[simp] theorem State.moveRecord_ref (n : Nat) (st : RecordState) : (s.moveRecord n st).ref = s.ref := rfl
@[simp] theorem State.moveRecord_plan (n : Nat) (st : RecordState) : (s.moveRecord n st).plan = s.plan := rfl
@[simp] theorem State.moveRecord_seq (n : Nat) (st : RecordState) : (s.moveRecord n st).seq = s.seq := rfl
@[simp] theorem State.moveRecord_tags (n : Nat) (st : RecordState) : (s.moveRecord n st).tags = s.tags := rfl
@[simp] theorem State.moveRecord_admissions (n : Nat) (st : RecordState) :
    (s.moveRecord n st).admissions = s.admissions := rfl
@[simp] theorem State.moveRecord_records (n : Nat) (st : RecordState) :
    (s.moveRecord n st).records = s.records.map (fun r => if r.slot = n then { r with state := st } else r) := rfl
@[simp] theorem State.moveRecord_profiles (n : Nat) (st : RecordState) :
    (s.moveRecord n st).profiles = s.profiles := rfl
@[simp] theorem State.moveRecord_store (n : Nat) (st : RecordState) : (s.moveRecord n st).store = s.store := rfl
@[simp] theorem State.moveRecord_flash (n : Nat) (st : RecordState) : (s.moveRecord n st).flash = s.flash := rfl
@[simp] theorem State.moveRecord_positions (n : Nat) (st : RecordState) :
    (s.moveRecord n st).positions = s.positions := rfl
@[simp] theorem State.moveRecord_lanes (n : Nat) (st : RecordState) : (s.moveRecord n st).lanes = s.lanes := rfl
@[simp] theorem State.moveRecord_seals (n : Nat) (st : RecordState) : (s.moveRecord n st).seals = s.seals := rfl
@[simp] theorem State.moveRecord_codec (n : Nat) (st : RecordState) : (s.moveRecord n st).codec = s.codec := rfl
@[simp] theorem State.moveRecord_inFlight (n : Nat) (st : RecordState) :
    (s.moveRecord n st).inFlight = s.inFlight := rfl
@[simp] theorem State.moveRecord_fresh (n : Nat) (st : RecordState) : (s.moveRecord n st).fresh = s.fresh := rfl
@[simp] theorem State.moveRecord_pending (n : Nat) (st : RecordState) : (s.moveRecord n st).pending = s.pending := rfl

/-! ### queueItem -/

@[simp] theorem State.queueItem_port (p : Nat) (w : Work) : (s.queueItem p w).port = s.port := rfl
@[simp] theorem State.queueItem_ref (p : Nat) (w : Work) : (s.queueItem p w).ref = s.ref := rfl
@[simp] theorem State.queueItem_plan (p : Nat) (w : Work) : (s.queueItem p w).plan = s.plan := rfl
@[simp] theorem State.queueItem_seq (p : Nat) (w : Work) : (s.queueItem p w).seq = s.seq := rfl
@[simp] theorem State.queueItem_tags (p : Nat) (w : Work) : (s.queueItem p w).tags = s.tags := rfl
@[simp] theorem State.queueItem_admissions (p : Nat) (w : Work) : (s.queueItem p w).admissions = s.admissions := rfl
@[simp] theorem State.queueItem_records (p : Nat) (w : Work) : (s.queueItem p w).records = s.records := rfl
@[simp] theorem State.queueItem_profiles (p : Nat) (w : Work) : (s.queueItem p w).profiles = s.profiles := rfl
@[simp] theorem State.queueItem_store (p : Nat) (w : Work) : (s.queueItem p w).store = s.store := rfl
@[simp] theorem State.queueItem_flash (p : Nat) (w : Work) : (s.queueItem p w).flash = s.flash := rfl
@[simp] theorem State.queueItem_positions (p : Nat) (w : Work) :
    (s.queueItem p w).positions = updPlace s.positions p (fun x => { x with item := some (Item.fresh w) }) := rfl
@[simp] theorem State.queueItem_lanes (p : Nat) (w : Work) : (s.queueItem p w).lanes = s.lanes := rfl
@[simp] theorem State.queueItem_seals (p : Nat) (w : Work) : (s.queueItem p w).seals = s.seals := rfl
@[simp] theorem State.queueItem_codec (p : Nat) (w : Work) : (s.queueItem p w).codec = s.codec := rfl
@[simp] theorem State.queueItem_inFlight (p : Nat) (w : Work) : (s.queueItem p w).inFlight = s.inFlight := rfl
@[simp] theorem State.queueItem_fresh (p : Nat) (w : Work) : (s.queueItem p w).fresh = s.fresh := rfl
@[simp] theorem State.queueItem_pending (p : Nat) (w : Work) : (s.queueItem p w).pending = s.pending := rfl

/-! ### endItem -/

@[simp] theorem State.endItem_port (p : Nat) : (s.endItem p).port = s.port := rfl
@[simp] theorem State.endItem_ref (p : Nat) : (s.endItem p).ref = s.ref := rfl
@[simp] theorem State.endItem_plan (p : Nat) : (s.endItem p).plan = s.plan := rfl
@[simp] theorem State.endItem_seq (p : Nat) : (s.endItem p).seq = s.seq := rfl
@[simp] theorem State.endItem_tags (p : Nat) : (s.endItem p).tags = s.tags := rfl
@[simp] theorem State.endItem_admissions (p : Nat) : (s.endItem p).admissions = s.admissions := rfl
@[simp] theorem State.endItem_records (p : Nat) : (s.endItem p).records = s.records := rfl
@[simp] theorem State.endItem_profiles (p : Nat) : (s.endItem p).profiles = s.profiles := rfl
@[simp] theorem State.endItem_store (p : Nat) : (s.endItem p).store = s.store := rfl
@[simp] theorem State.endItem_flash (p : Nat) : (s.endItem p).flash = s.flash := rfl
@[simp] theorem State.endItem_positions (p : Nat) :
    (s.endItem p).positions = updPlace s.positions p (fun x => { x with item := none }) := rfl
@[simp] theorem State.endItem_lanes (p : Nat) : (s.endItem p).lanes = s.lanes := rfl
@[simp] theorem State.endItem_seals (p : Nat) : (s.endItem p).seals = s.seals := rfl
@[simp] theorem State.endItem_codec (p : Nat) : (s.endItem p).codec = s.codec := rfl
@[simp] theorem State.endItem_inFlight (p : Nat) : (s.endItem p).inFlight = s.inFlight := rfl
@[simp] theorem State.endItem_fresh (p : Nat) : (s.endItem p).fresh = s.fresh := rfl
@[simp] theorem State.endItem_pending (p : Nat) : (s.endItem p).pending = s.pending := rfl

/-! ### keepItem -/

@[simp] theorem State.keepItem_port (p : Nat) (i : Item) : (s.keepItem p i).port = s.port := rfl
@[simp] theorem State.keepItem_ref (p : Nat) (i : Item) : (s.keepItem p i).ref = s.ref := rfl
@[simp] theorem State.keepItem_plan (p : Nat) (i : Item) : (s.keepItem p i).plan = s.plan := rfl
@[simp] theorem State.keepItem_seq (p : Nat) (i : Item) : (s.keepItem p i).seq = s.seq := rfl
@[simp] theorem State.keepItem_tags (p : Nat) (i : Item) : (s.keepItem p i).tags = s.tags := rfl
@[simp] theorem State.keepItem_admissions (p : Nat) (i : Item) : (s.keepItem p i).admissions = s.admissions := rfl
@[simp] theorem State.keepItem_records (p : Nat) (i : Item) : (s.keepItem p i).records = s.records := rfl
@[simp] theorem State.keepItem_profiles (p : Nat) (i : Item) : (s.keepItem p i).profiles = s.profiles := rfl
@[simp] theorem State.keepItem_store (p : Nat) (i : Item) : (s.keepItem p i).store = s.store := rfl
@[simp] theorem State.keepItem_flash (p : Nat) (i : Item) : (s.keepItem p i).flash = s.flash := rfl
@[simp] theorem State.keepItem_positions (p : Nat) (i : Item) :
    (s.keepItem p i).positions =
      updPlace s.positions p (fun x => { x with item := some { i with requesting := true } }) := rfl
@[simp] theorem State.keepItem_lanes (p : Nat) (i : Item) : (s.keepItem p i).lanes = s.lanes := rfl
@[simp] theorem State.keepItem_seals (p : Nat) (i : Item) : (s.keepItem p i).seals = s.seals := rfl
@[simp] theorem State.keepItem_codec (p : Nat) (i : Item) : (s.keepItem p i).codec = s.codec := rfl
@[simp] theorem State.keepItem_inFlight (p : Nat) (i : Item) : (s.keepItem p i).inFlight = s.inFlight := rfl
@[simp] theorem State.keepItem_fresh (p : Nat) (i : Item) : (s.keepItem p i).fresh = s.fresh := rfl
@[simp] theorem State.keepItem_pending (p : Nat) (i : Item) : (s.keepItem p i).pending = s.pending := rfl

/-! ### endTurn -/

@[simp] theorem State.endTurn_port (l : Nat) : (s.endTurn l).port = s.port := rfl
@[simp] theorem State.endTurn_ref (l : Nat) : (s.endTurn l).ref = s.ref := rfl
@[simp] theorem State.endTurn_plan (l : Nat) : (s.endTurn l).plan = s.plan := rfl
@[simp] theorem State.endTurn_seq (l : Nat) : (s.endTurn l).seq = s.seq := rfl
@[simp] theorem State.endTurn_tags (l : Nat) : (s.endTurn l).tags = s.tags := rfl
@[simp] theorem State.endTurn_admissions (l : Nat) : (s.endTurn l).admissions = s.admissions := rfl
@[simp] theorem State.endTurn_records (l : Nat) : (s.endTurn l).records = s.records := rfl
@[simp] theorem State.endTurn_profiles (l : Nat) : (s.endTurn l).profiles = s.profiles := rfl
@[simp] theorem State.endTurn_store (l : Nat) : (s.endTurn l).store = s.store := rfl
@[simp] theorem State.endTurn_flash (l : Nat) : (s.endTurn l).flash = s.flash := rfl
@[simp] theorem State.endTurn_positions (l : Nat) : (s.endTurn l).positions = s.positions := rfl
@[simp] theorem State.endTurn_lanes (l : Nat) :
    (s.endTurn l).lanes = updPlace s.lanes l (fun x => { x with state := .idle, timer := none, frames := [] }) := rfl
@[simp] theorem State.endTurn_seals (l : Nat) : (s.endTurn l).seals = s.seals := rfl
@[simp] theorem State.endTurn_codec (l : Nat) : (s.endTurn l).codec = s.codec := rfl
@[simp] theorem State.endTurn_inFlight (l : Nat) : (s.endTurn l).inFlight = s.inFlight := rfl
@[simp] theorem State.endTurn_fresh (l : Nat) : (s.endTurn l).fresh = s.fresh := rfl
@[simp] theorem State.endTurn_pending (l : Nat) : (s.endTurn l).pending = s.pending := rfl

/-! ### mapCmps -/

@[simp] theorem State.mapCmps_port (f : Nat → Comparator → Comparator) : (s.mapCmps f).port = s.port := rfl
@[simp] theorem State.mapCmps_ref (f : Nat → Comparator → Comparator) : (s.mapCmps f).ref = s.ref := rfl
@[simp] theorem State.mapCmps_plan (f : Nat → Comparator → Comparator) : (s.mapCmps f).plan = s.plan := rfl
@[simp] theorem State.mapCmps_seq (f : Nat → Comparator → Comparator) : (s.mapCmps f).seq = s.seq := rfl
@[simp] theorem State.mapCmps_tags (f : Nat → Comparator → Comparator) : (s.mapCmps f).tags = s.tags := rfl
@[simp] theorem State.mapCmps_admissions (f : Nat → Comparator → Comparator) :
    (s.mapCmps f).admissions = s.admissions := rfl
@[simp] theorem State.mapCmps_records (f : Nat → Comparator → Comparator) : (s.mapCmps f).records = s.records := rfl
@[simp] theorem State.mapCmps_profiles (f : Nat → Comparator → Comparator) :
    (s.mapCmps f).profiles = s.profiles := rfl
@[simp] theorem State.mapCmps_store (f : Nat → Comparator → Comparator) : (s.mapCmps f).store = s.store := rfl
@[simp] theorem State.mapCmps_flash (f : Nat → Comparator → Comparator) : (s.mapCmps f).flash = s.flash := rfl
@[simp] theorem State.mapCmps_positions (f : Nat → Comparator → Comparator) :
    (s.mapCmps f).positions = s.positions.mapIdx (fun i x => { x with cmp := f (i + 1) x.cmp }) := rfl
@[simp] theorem State.mapCmps_lanes (f : Nat → Comparator → Comparator) : (s.mapCmps f).lanes = s.lanes := rfl
@[simp] theorem State.mapCmps_seals (f : Nat → Comparator → Comparator) : (s.mapCmps f).seals = s.seals := rfl
@[simp] theorem State.mapCmps_codec (f : Nat → Comparator → Comparator) : (s.mapCmps f).codec = s.codec := rfl
@[simp] theorem State.mapCmps_inFlight (f : Nat → Comparator → Comparator) :
    (s.mapCmps f).inFlight = s.inFlight := rfl
@[simp] theorem State.mapCmps_fresh (f : Nat → Comparator → Comparator) : (s.mapCmps f).fresh = s.fresh := rfl
@[simp] theorem State.mapCmps_pending (f : Nat → Comparator → Comparator) : (s.mapCmps f).pending = s.pending := rfl

/-! ### raiseIf -/

@[simp] theorem State.raiseIf_ref (b : Bool) (c : Condition) : (s.raiseIf b c).ref = s.ref := by cases b <;> rfl
@[simp] theorem State.raiseIf_plan (b : Bool) (c : Condition) : (s.raiseIf b c).plan = s.plan := by cases b <;> rfl
@[simp] theorem State.raiseIf_seq (b : Bool) (c : Condition) : (s.raiseIf b c).seq = s.seq := by cases b <;> rfl
@[simp] theorem State.raiseIf_tags (b : Bool) (c : Condition) : (s.raiseIf b c).tags = s.tags := by cases b <;> rfl
@[simp] theorem State.raiseIf_admissions (b : Bool) (c : Condition) :
    (s.raiseIf b c).admissions = s.admissions := by cases b <;> rfl
@[simp] theorem State.raiseIf_records (b : Bool) (c : Condition) :
    (s.raiseIf b c).records = s.records := by cases b <;> rfl
@[simp] theorem State.raiseIf_profiles (b : Bool) (c : Condition) :
    (s.raiseIf b c).profiles = s.profiles := by cases b <;> rfl
@[simp] theorem State.raiseIf_store (b : Bool) (c : Condition) : (s.raiseIf b c).store = s.store := by cases b <;> rfl
@[simp] theorem State.raiseIf_flash (b : Bool) (c : Condition) : (s.raiseIf b c).flash = s.flash := by cases b <;> rfl
@[simp] theorem State.raiseIf_positions (b : Bool) (c : Condition) :
    (s.raiseIf b c).positions = s.positions := by cases b <;> rfl
@[simp] theorem State.raiseIf_lanes (b : Bool) (c : Condition) : (s.raiseIf b c).lanes = s.lanes := by cases b <;> rfl
@[simp] theorem State.raiseIf_seals (b : Bool) (c : Condition) : (s.raiseIf b c).seals = s.seals := by cases b <;> rfl
@[simp] theorem State.raiseIf_codec (b : Bool) (c : Condition) : (s.raiseIf b c).codec = s.codec := by cases b <;> rfl
@[simp] theorem State.raiseIf_inFlight (b : Bool) (c : Condition) :
    (s.raiseIf b c).inFlight = s.inFlight := by cases b <;> rfl
@[simp] theorem State.raiseIf_fresh (b : Bool) (c : Condition) : (s.raiseIf b c).fresh = s.fresh := by cases b <;> rfl
@[simp] theorem State.raiseIf_pending (b : Bool) (c : Condition) :
    (s.raiseIf b c).pending = s.pending := by cases b <;> rfl

/-! ### moveTo -/

@[simp] theorem State.moveTo_ref (p : Nat) (st : PositionState) :
    (s.moveTo p st).ref = s.ref := by simp [State.moveTo]
@[simp] theorem State.moveTo_plan (p : Nat) (st : PositionState) :
    (s.moveTo p st).plan = s.plan := by simp [State.moveTo]
@[simp] theorem State.moveTo_seq (p : Nat) (st : PositionState) :
    (s.moveTo p st).seq = s.seq := by simp [State.moveTo]
@[simp] theorem State.moveTo_tags (p : Nat) (st : PositionState) :
    (s.moveTo p st).tags = s.tags := by simp [State.moveTo]
@[simp] theorem State.moveTo_admissions (p : Nat) (st : PositionState) :
    (s.moveTo p st).admissions = s.admissions := by simp [State.moveTo]
@[simp] theorem State.moveTo_records (p : Nat) (st : PositionState) :
    (s.moveTo p st).records = s.records := by simp [State.moveTo]
@[simp] theorem State.moveTo_profiles (p : Nat) (st : PositionState) :
    (s.moveTo p st).profiles = s.profiles := by simp [State.moveTo]
@[simp] theorem State.moveTo_store (p : Nat) (st : PositionState) :
    (s.moveTo p st).store = s.store := by simp [State.moveTo]
@[simp] theorem State.moveTo_flash (p : Nat) (st : PositionState) :
    (s.moveTo p st).flash = s.flash := by simp [State.moveTo]
@[simp] theorem State.moveTo_positions (p : Nat) (st : PositionState) :
    (s.moveTo p st).positions = updPlace s.positions p (fun x => { x with state := st }) := by simp [State.moveTo]
@[simp] theorem State.moveTo_lanes (p : Nat) (st : PositionState) :
    (s.moveTo p st).lanes = s.lanes := by simp [State.moveTo]
@[simp] theorem State.moveTo_seals (p : Nat) (st : PositionState) :
    (s.moveTo p st).seals = s.seals := by simp [State.moveTo]
@[simp] theorem State.moveTo_codec (p : Nat) (st : PositionState) :
    (s.moveTo p st).codec = s.codec := by simp [State.moveTo]
@[simp] theorem State.moveTo_inFlight (p : Nat) (st : PositionState) :
    (s.moveTo p st).inFlight = s.inFlight := by simp [State.moveTo]
@[simp] theorem State.moveTo_fresh (p : Nat) (st : PositionState) :
    (s.moveTo p st).fresh = s.fresh := by simp [State.moveTo]
@[simp] theorem State.moveTo_pending (p : Nat) (st : PositionState) :
    (s.moveTo p st).pending = s.pending := by simp [State.moveTo]

/-! ### issueSeal -/

@[simp] theorem State.issueSeal_ref : (s.issueSeal).ref = s.ref := by simp [State.issueSeal]
@[simp] theorem State.issueSeal_plan : (s.issueSeal).plan = s.plan := by simp [State.issueSeal]
@[simp] theorem State.issueSeal_seq : (s.issueSeal).seq = s.seq := by simp [State.issueSeal]
@[simp] theorem State.issueSeal_tags : (s.issueSeal).tags = s.tags := by simp [State.issueSeal]
@[simp] theorem State.issueSeal_admissions : (s.issueSeal).admissions = s.admissions := by simp [State.issueSeal]
@[simp] theorem State.issueSeal_records : (s.issueSeal).records = s.records := by simp [State.issueSeal]
@[simp] theorem State.issueSeal_profiles : (s.issueSeal).profiles = s.profiles := by simp [State.issueSeal]
@[simp] theorem State.issueSeal_store : (s.issueSeal).store = s.store := by simp [State.issueSeal]
@[simp] theorem State.issueSeal_flash : (s.issueSeal).flash = s.flash := by simp [State.issueSeal]
@[simp] theorem State.issueSeal_positions : (s.issueSeal).positions = s.positions := by simp [State.issueSeal]
@[simp] theorem State.issueSeal_lanes : (s.issueSeal).lanes = s.lanes := by simp [State.issueSeal]
@[simp] theorem State.issueSeal_seals : (s.issueSeal).seals = s.seals.issued := by simp [State.issueSeal]
@[simp] theorem State.issueSeal_codec : (s.issueSeal).codec = s.codec := by simp [State.issueSeal]
@[simp] theorem State.issueSeal_inFlight : (s.issueSeal).inFlight = s.inFlight := by simp [State.issueSeal]
@[simp] theorem State.issueSeal_fresh : (s.issueSeal).fresh = s.fresh := by simp [State.issueSeal]
@[simp] theorem State.issueSeal_pending : (s.issueSeal).pending = s.pending := by simp [State.issueSeal]

/-- R202: a condition raised where it may be leaves the port as it was but for the pending set. -/
theorem State.raiseIf_port (b : Bool) (c : Condition) :
    (s.raiseIf b c).port = { s.port with pendingSet := (s.raiseIf b c).port.pendingSet } := by cases b <;> rfl

/-- R53: a change of position state leaves the port as it was but for the pending set. -/
theorem State.moveTo_port (p : Nat) (st : PositionState) :
    (s.moveTo p st).port = { s.port with pendingSet := (s.moveTo p st).port.pendingSet } := by
  unfold State.moveTo; rw [State.raiseIf_port]; rfl

/-- R179: an issue leaves the port as it was but for the pending set. -/
theorem State.issueSeal_port : s.issueSeal.port = { s.port with pendingSet := s.issueSeal.port.pendingSet } := by
  unfold State.issueSeal; rw [State.raiseIf_port, State.raiseIf_port]

end Sys2Proof.Machine
end

