-- ==== Sys2Proof/Laws/Ops.lean ====
section
/-! SUPPORT. What reading gives after a change: places of a list, positions, lanes and records. -/

namespace Sys2Proof.Machine

/-! ### Places -/

@[simp] theorem length_updPlace {α : Type} (l : List α) (n : Nat) (f : α → α) :
    (updPlace l n f).length = l.length := by cases n <;> simp [updPlace]

@[simp] theorem length_setPlace {α : Type} (l : List α) (n : Nat) (a : α) :
    (setPlace l n a).length = l.length := by cases n <;> simp [setPlace]

theorem place_updPlace_same {α : Type} (l : List α) (n : Nat) (f : α → α) :
    place (updPlace l n f) n = (place l n).map f := by cases n <;> simp [updPlace, place]

theorem place_updPlace_other {α : Type} (l : List α) {m n : Nat} (f : α → α) (h : m ≠ n) :
    place (updPlace l n f) m = place l m := by
  match n, m with
  | 0, _ => rfl
  | _ + 1, 0 => rfl
  | n + 1, m + 1 =>
    have hn : n ≠ m := fun he => h (by rw [he])
    simp [updPlace, place, hn]

theorem place_setPlace_other {α : Type} (l : List α) {m n : Nat} (a : α) (h : m ≠ n) :
    place (setPlace l n a) m = place l m := by
  cases n <;> cases m <;> simp_all [setPlace, place, List.getElem?_set]
  omega

theorem place_setPlace_same {α : Type} (l : List α) {n : Nat} (a : α) (h : 1 ≤ n) (h' : n ≤ l.length) :
    place (setPlace l n a) n = some a := by
  cases n with
  | zero => omega
  | succ n => simp [setPlace, place, Nat.lt_of_succ_le h']

/-- Two changes at one place are one. -/
theorem updPlace_updPlace {α : Type} (l : List α) (n : Nat) (f g : α → α) :
    updPlace (updPlace l n f) n g = updPlace l n (fun a => g (f a)) := by
  cases n with
  | zero => rfl
  | succ n =>
    simp only [updPlace]
    induction l generalizing n with
    | nil => simp
    | cons a l ih => cases n <;> simp [ih]

/-- Two changes of a place that agree on what stands there are one change. -/
theorem updPlace_congr {α : Type} {l : List α} {n : Nat} {f g : α → α} (h : ∀ a, place l n = some a → f a = g a) :
    updPlace l n f = updPlace l n g := by
  cases n with
  | zero => rfl
  | succ n =>
    simp only [updPlace, place] at *
    induction l generalizing n with
    | nil => simp
    | cons a l ih =>
      cases n with
      | zero => simp at h; simp [h]
      | succ n => simp at h; simp [ih n h]

/-- A place within the list holds something. -/
theorem exists_place {α : Type} (l : List α) {n : Nat} (h : 1 ≤ n) (h' : n ≤ l.length) : ∃ a, place l n = some a := by
  cases n with
  | zero => omega
  | succ n => exact ⟨l[n], by simp [place]⟩

/-- A change that a view does not see leaves the view of the whole list. -/
theorem map_updPlace {α β : Type} (g : α → β) (l : List α) (n : Nat) (f : α → α) (h : ∀ a, g (f a) = g a) :
    (updPlace l n f).map g = l.map g := by
  cases n with
  | zero => rfl
  | succ n =>
    simp only [updPlace]
    induction l generalizing n with
    | nil => simp
    | cons a l ih => cases n <;> simp [h, ih]

/-! ### Positions and lanes -/

theorem isPosition_iff {p : Nat} : isPosition p = true ↔ 1 ≤ p ∧ p ≤ 48 := by simp [isPosition]

theorem isLane_iff {l : Nat} : isLane l = true ↔ 1 ≤ l ∧ l ≤ 6 := by simp [isLane]

theorem State.position_updPosition_other (s : State) {p q : Nat} (f : Position → Position) (h : q ≠ p) :
    (s.updPosition p f).position q = s.position q := by simp [State.position, place_updPlace_other _ _ h]

theorem State.position_updPosition_same (s : State) {p : Nat} (f : Position → Position) (h : 1 ≤ p)
    (h' : p ≤ s.positions.length) : (s.updPosition p f).position p = f (s.position p) := by
  obtain ⟨x, hx⟩ := exists_place s.positions h h'
  simp [State.position, place_updPlace_same, hx]

theorem State.lane_updLane_other (s : State) {l m : Nat} (f : Lane → Lane) (h : m ≠ l) :
    (s.updLane l f).lane m = s.lane m := by simp [State.lane, place_updPlace_other _ _ h]

theorem State.lane_updLane_same (s : State) {l : Nat} (f : Lane → Lane) (h : 1 ≤ l) (h' : l ≤ s.lanes.length) :
    (s.updLane l f).lane l = f (s.lane l) := by
  obtain ⟨x, hx⟩ := exists_place s.lanes h h'
  simp [State.lane, place_updPlace_same, hx]

/-! ### Records -/

/-- A record update that keeps the slot is seen at its slot alone. -/
theorem State.recordAt_updRecord (s : State) (n m : Nat) (f : Record → Record) (hf : ∀ r, (f r).slot = r.slot) :
    (s.updRecord n f).recordAt m = if m = n then (s.recordAt m).map f else s.recordAt m := by
  have hp : ((fun r : Record => r.slot == m) ∘ fun r => if r.slot = n then f r else r) = fun r => r.slot == m := by
    funext r
    by_cases h : r.slot = n <;> simp [h, hf]
  unfold State.recordAt State.updRecord
  rw [List.find?_map, hp]
  cases hr : s.records.find? (fun r => r.slot == m) with
  | none => simp
  | some r =>
    have hs : r.slot = m := by simpa using List.find?_some hr
    by_cases h : m = n <;> simp [hs, h]

/-- A record found in a slot is of the table and stands in that slot. -/
theorem State.recordAt_mem {s : State} {n : Nat} {r : Record} (h : s.recordAt n = some r) :
    r ∈ s.records ∧ r.slot = n := by
  unfold State.recordAt at h
  exact ⟨List.mem_of_find?_eq_some h, by simpa using List.find?_some h⟩

end Sys2Proof.Machine
end

