-- ==== Sys2Proof/Laws/Frame.lean ====
section
/-! SUPPORT. What recording, lane work and attention leave as it stands: the port but for the pending set, the Reference
Unit, the plan, the sequencer, the tags, the flash and its activity, the seal numbers and the sizes of the tables. -/

namespace Sys2Proof.Machine

/-- The part with the records, the positions, the lanes, the contents of the Profile Table, the claims on their way and
the pending set taken away. Two states that agree here differ in those alone. -/
def State.still (s : State) : State :=
  { s with
    records := []
    admissions := 0
    profiles := s.profiles.map (fun _ => none)
    positions := s.positions.map (fun _ => Position.powerOn true)
    lanes := s.lanes.map (fun _ => Lane.powerOn 1)
    inFlight := []
    port := { s.port with pendingSet := 0#8 } }

variable (s : State)

/-! ### Updates -/

@[simp] theorem still_raise (c : Condition) : (s.raise c).still = s.still := rfl
@[simp] theorem still_raiseIf (b : Bool) (c : Condition) : (s.raiseIf b c).still = s.still := by cases b <;> rfl
@[simp] theorem still_updPosition (p : Nat) (f : Position → Position) : (s.updPosition p f).still = s.still := by
  simp [State.still, map_updPlace]
@[simp] theorem still_updCmp (p : Nat) (f : Comparator → Comparator) : (s.updCmp p f).still = s.still := by
  simp [State.still, map_updPlace]
@[simp] theorem still_updLane (l : Nat) (f : Lane → Lane) : (s.updLane l f).still = s.still := by
  simp [State.still, map_updPlace]
@[simp] theorem still_updRecord (n : Nat) (f : Record → Record) : (s.updRecord n f).still = s.still := rfl
@[simp] theorem still_updPins (c : Nat) (f : Nat → Nat) : (s.updPins c f).still = s.still := by
  simp [State.still, map_updPlace]
@[simp] theorem still_send (c : Claim) : (s.send c).still = s.still := rfl
@[simp] theorem still_inFlight (cs : List Claim) : State.still { s with inFlight := cs } = s.still := rfl
@[simp] theorem still_moveRecord (n : Nat) (st : RecordState) : (s.moveRecord n st).still = s.still := rfl
@[simp] theorem still_queueItem (p : Nat) (w : Work) : (s.queueItem p w).still = s.still := by
  simp [State.queueItem]
@[simp] theorem still_endItem (p : Nat) : (s.endItem p).still = s.still := by simp [State.endItem]
@[simp] theorem still_keepItem (p : Nat) (i : Item) : (s.keepItem p i).still = s.still := by simp [State.keepItem]
@[simp] theorem still_endTurn (l : Nat) : (s.endTurn l).still = s.still := by simp [State.endTurn]
@[simp] theorem still_moveTo (p : Nat) (st : PositionState) : (s.moveTo p st).still = s.still := by
  simp [State.moveTo]
@[simp] theorem still_mapCmps (f : Nat → Comparator → Comparator) : (s.mapCmps f).still = s.still := by
  simp [State.still, List.map_const']

/-! ### Operations -/

@[simp] theorem still_markGiven (p : Nat) (b : Bool) : (s.markGiven p b).still = s.still := by simp [State.markGiven]
@[simp] theorem still_giveGone (r : Record) (b : Bool) : (s.giveGone r b).still = s.still := by
  simp only [State.giveGone]; (repeat' split) <;> simp
@[simp] theorem still_withdrawUngranted (p : Nat) (w : Work → Bool) : (s.withdrawUngranted p w).still = s.still := by
  simp [State.withdrawUngranted]
@[simp] theorem still_giveItem (r : Record) (w : Work) : (s.giveItem r w).still = s.still := by
  simp only [State.giveItem]; (repeat' split) <;> simp
@[simp] theorem still_withdrawWrite (r : Record) : (s.withdrawWrite r).still = s.still := by
  simp only [State.withdrawWrite]; (repeat' split) <;> simp
@[simp] theorem still_withdrawWork (p : Nat) : (s.withdrawWork p).still = s.still := by
  simp [State.withdrawWork]
@[simp] theorem still_reject (n : Nat) (c : RejectCause) : (s.reject n c).still = s.still := by
  simp only [State.reject]; (repeat' split) <;> simp
/-! ### Lanes -/

@[simp] theorem still_sendTurn (l p : Nat) : (s.sendTurn l p).still = s.still := by
  simp only [State.sendTurn]; (repeat' split) <;> simp
@[simp] theorem still_grant (l p : Nat) : (s.grant l p).still = s.still := by
  simp only [State.grant]; (repeat' split) <;> simp
@[simp] theorem still_arbitrate (l : Nat) : (s.arbitrate l).still = s.still := by
  simp only [State.arbitrate]; (repeat' split) <;> simp
@[simp] theorem still_settle : (s.settle).still = s.still := by
  simp only [State.settle]; (repeat' split) <;> simp
@[simp] theorem still_dropItem (p : Nat) : (s.dropItem p).still = s.still := by
  simp only [State.dropItem]; (repeat' split) <;> simp
@[simp] theorem still_voidGrant (p : Nat) : (s.voidGrant p).still = s.still := by
  simp only [State.voidGrant]; (repeat' split) <;> simp
/-! ### Records -/

@[simp] theorem still_enterSealing (n : Nat) : (s.enterSealing n).still = s.still := by
  simp only [State.enterSealing]; (repeat' split) <;> simp
@[simp] theorem still_enterWritePending (n : Nat) : (s.enterWritePending n).still = s.still := by
  simp only [State.enterWritePending]; (repeat' split) <;> simp
@[simp] theorem still_autoSealTest (n : Nat) : (s.autoSealTest n).still = s.still := by
  simp only [State.autoSealTest]; (repeat' split) <;> simp
@[simp] theorem still_evaluate (n : Nat) : (s.evaluate n).still = s.still := by
  simp only [State.evaluate]; (repeat' split) <;> simp
@[simp] theorem still_returnToPassed (n : Nat) : (s.returnToPassed n).still = s.still := by
  simp only [State.returnToPassed]; (repeat' split) <;> simp
@[simp] theorem still_resetEntry (k n : Nat) : (s.resetEntry k n).still = s.still := by
  simp only [State.resetEntry]; (repeat' split) <;> simp
@[simp] theorem still_settleWriting (n : Nat) (ph : Option AbandonPhase) : (s.settleWriting n ph).still = s.still := by
  simp only [State.settleWriting]; (repeat' split) <;> simp
@[simp] theorem still_spoilAttempt (n : Nat) : (s.spoilAttempt n).still = s.still := by
  simp only [State.spoilAttempt]; (repeat' split) <;> simp
@[simp] theorem still_settleSealing (n : Nat) : (s.settleSealing n).still = s.still := by
  simp only [State.settleSealing]; (repeat' split) <;> simp
@[simp] theorem still_settleRecord (n : Nat) (ph : Option AbandonPhase) : (s.settleRecord n ph).still = s.still := by
  simp only [State.settleRecord]; (repeat' split) <;> simp
@[simp] theorem still_unbind (n p : Nat) : (s.unbind n p).still = s.still := by
  simp only [State.unbind]; (repeat' split) <;> simp
@[simp] theorem still_bind (h : Handle) (p : Nat) : (s.bind h p).still = s.still := by
  simp only [State.bind]; (repeat' split) <;> simp
@[simp] theorem still_discardOutcomes (p : Nat) : (s.discardOutcomes p).still = s.still := rfl
@[simp] theorem still_takeOrphan (p : Nat) (h : Handle) (ph : Option AbandonPhase) : (s.takeOrphan p h ph).still = s.still := by
  simp only [State.takeOrphan]; (repeat' split) <;> simp
@[simp] theorem still_settleOrphan (h : Handle) : (s.settleOrphan h).still = s.still := by
  simp only [State.settleOrphan]; (repeat' split) <;> simp
@[simp] theorem still_enterIdentifying (p : Nat) : (s.enterIdentifying p).still = s.still := by
  simp only [State.enterIdentifying]; (repeat' split) <;> simp
@[simp] theorem still_enterImage (p : Nat) : (s.enterImage p).still = s.still := by
  simp only [State.enterImage]; (repeat' split) <;> simp
@[simp] theorem still_toConflict (p : Nat) : (s.toConflict p).still = s.still := by
  simp only [State.toConflict]; (repeat' split) <;> simp
@[simp] theorem still_toBound (p : Nat) : (s.toBound p).still = s.still := by
  simp only [State.toBound]; (repeat' split) <;> simp
@[simp] theorem still_toWaiting (p : Nat) : (s.toWaiting p).still = s.still := by
  simp only [State.toWaiting]; (repeat' split) <;> simp
@[simp] theorem still_resumeWrite (n : Nat) : (s.resumeWrite n).still = s.still := by
  simp only [State.resumeWrite]; (repeat' split) <;> simp
@[simp] theorem still_takeRebind (p : Nat) (h : Handle) : (s.takeRebind p h).still = s.still := by
  simp only [State.takeRebind]; (repeat' split) <;> simp
@[simp] theorem still_createRecord (n c p : Nat) (d : Identity) (im : Unpacked) : (s.createRecord n c p d im).still = s.still := by
  simp only [State.createRecord, still_raise, still_toBound, still_bind, still_updPins]; rfl
@[simp] theorem still_takeCreation (n : Option Nat) (p : Nat) (d : Identity) (im : Unpacked) : ((s.takeCreation n p d im).state).still = s.still := by
  simp only [State.takeCreation]; (repeat' split) <;> simp
/-! ### Verdicts -/

@[simp] theorem still_verdictEffect (n : Nat) (pt : Point) (pf : Profile) (e : Int) (v : Verdict) : (s.verdictEffect n pt pf e v).still = s.still := by
  simp only [State.verdictEffect]; (repeat' split) <;> simp
@[simp] theorem still_writeResult (n k : Nat) (r : Record) (res : Result) : (s.writeResult n k r res).still = s.still := by
  simp only [State.writeResult]; (repeat' split) <;> simp
@[simp] theorem still_takeResult (h : Handle) (k : Nat) (res : Result) : (s.takeResult h k res).still = s.still := by
  simp only [State.takeResult]; (repeat' split) <;> simp
@[simp] theorem still_takeFlag (h : Handle) (f : ClaimFlag) : (s.takeFlag h f).still = s.still := by
  simp only [State.takeFlag]; (repeat' split) <;> simp
@[simp] theorem still_takeComparatorClaim (c : Claim) : (s.takeComparatorClaim c).still = s.still := by
  simp only [State.takeComparatorClaim]; (repeat' split) <;> simp
@[simp] theorem still_confirmWrite (n : Nat) (r : Record) : (s.confirmWrite n r).still = s.still := by
  simp only [State.confirmWrite]; (repeat' split) <;> simp
/-! ### Replies -/

@[simp] theorem still_decideIdent (p : Nat) (d : Identity) : (s.decideIdent p d).still = s.still := by
  simp only [State.decideIdent]; (repeat' split) <;> simp
@[simp] theorem still_releaseHeld (p : Nat) (h : Handle) : (s.releaseHeld p h).still = s.still := by
  simp only [State.releaseHeld]; (repeat' split) <;> simp
@[simp] theorem still_identReplied (p : Nat) (d : Identity) : (s.identReplied p d).still = s.still := by
  simp only [State.identReplied]; (repeat' split) <;> simp
@[simp] theorem still_imageRead (p : Nat) (ws : List Word) : (s.imageRead p ws).still = s.still := by
  simp only [State.imageRead]; (repeat' split) <;> simp
@[simp] theorem still_identFault (p : Nat) : (s.identFault p).still = s.still := by
  simp only [State.identFault]; (repeat' split) <;> simp
@[simp] theorem still_failItem (p : Nat) (w : Work) : (s.failItem p w).still = s.still := by
  simp only [State.failItem]; (repeat' split) <;> simp
@[simp] theorem still_countAttempt (p : Nat) (i : Item) : (s.countAttempt p i).still = s.still := by
  simp only [State.countAttempt]; (repeat' split) <;> simp
@[simp] theorem still_miss (p : Nat) (i : Item) : (s.miss p i).still = s.still := by
  simp only [State.miss]; (repeat' split) <;> simp
@[simp] theorem still_wordsRead (p : Nat) (i : Item) (off : Nat) (got new : List Word) (n : Nat) : (s.wordsRead p i off got new n).still = s.still := by
  simp only [State.wordsRead]; (repeat' split) <;> simp
@[simp] theorem still_stagedReply (p : Nat) (i : Item) (t : Transfer) (h : Nat) : (s.stagedReply p i t h).still = s.still := by
  simp only [State.stagedReply]; (repeat' split) <;> simp
@[simp] theorem still_takeReply (p : Nat) (i : Item) (r : Reply) : (s.takeReply p i r).still = s.still := by
  simp only [State.takeReply]; (repeat' split) <;> simp
@[simp] theorem still_receive (l : Nat) (bs : List Byte) : (s.receive l bs).still = s.still := by
  simp only [State.receive]; (repeat' split) <;> simp
@[simp] theorem still_replyTimeout (l : Nat) : (s.replyTimeout l).still = s.still := by
  simp only [State.replyTimeout]; (repeat' split) <;> simp
@[simp] theorem still_sendDone (l : Nat) : (s.sendDone l).still = s.still := by
  simp only [State.sendDone]; (repeat' split) <;> simp
/-! ### Presence -/

@[simp] theorem still_sample (p : Nat) : (s.sample p).still = s.still := by
  simp only [State.sample]; (repeat' split) <;> simp
@[simp] theorem still_orphanBound (p : Nat) : (s.orphanBound p).still = s.still := by
  simp only [State.orphanBound]; (repeat' split) <;> simp
@[simp] theorem still_removal (p : Nat) : (s.removal p).still = s.still := by
  simp only [State.removal]; (repeat' split) <;> simp
@[simp] theorem still_debounced (p : Nat) : (s.debounced p).still = s.still := by
  simp only [State.debounced]; (repeat' split) <;> simp
@[simp] theorem still_restartPosition (p : Nat) : (s.restartPosition p).still = s.still := by
  simp only [State.restartPosition]; (repeat' split) <;> simp
@[simp] theorem still_idleComparators : (s.idleComparators).still = s.still :=
  (still_inFlight _ _).trans (still_mapCmps s _)

/-! ### Folds and the ends of a point -/

/-- A fold of changes that leave the still part leaves it. -/
theorem still_foldl {α : Type} (f : State → α → State) (h : ∀ t a, (f t a).still = t.still) (l : List α) :
    (l.foldl f s).still = s.still := by
  induction l generalizing s with
  | nil => rfl
  | cons a l ih => rw [List.foldl_cons, ih, h]

@[simp] theorem still_handSlot (n : Nat) (ps : List Nat) : (handSlot n ps s).still = s.still := by
  induction ps generalizing s with
  | nil => rfl
  | cons p ps ih =>
    unfold handSlot
    dsimp only
    (repeat' split) <;> simp [ih]

@[simp] theorem still_handFreed (n : Nat) : (s.handFreed n).still = s.still := by
  unfold State.handFreed; split <;> simp

@[simp] theorem still_resetClaim (k : Nat) : (s.resetClaim k).still = s.still := by
  unfold State.resetClaim
  rw [still_foldl _ _ (fun t n => still_evaluate t n), still_foldl _ _ (fun t n => still_resetEntry t k n)]

@[simp] theorem still_sampleAll : s.sampleAll.still = s.still := still_foldl s _ (fun t p => still_sample t p) _

@[simp] theorem still_announce (tc : Nat) : (s.announce tc).still = s.still := by
  refine still_foldl s _ (fun t p => ?_) _
  split <;> simp

@[simp] theorem still_takeAll (cs : List Claim) : (takeAll cs s).still = s.still :=
  still_foldl s _ (fun t c => still_takeComparatorClaim t c) _

@[simp] theorem still_takeSentClaims : s.takeSentClaims.still = s.still := by
  unfold State.takeSentClaims; rw [still_takeAll, still_inFlight]

theorem still_closeSequencer (k : Nat) (c : EndCause) :
    (s.closeSequencer k c).still = { s.still with seq := s.seq.closed k c } := rfl

theorem still_seq {s t : State} (h : s.still = t.still) : s.seq = t.seq := by
  have := congrArg State.seq h; exact this

/-- R89: the end of a point leaves the still part but for the sequencer. -/
theorem still_endPoint (k : Nat) (c : EndCause) (f : Comparator → Option Result) :
    (s.endPoint k c f).still = { s.still with seq := s.seq.closed k c } := by
  have h : ((takeAll (s.takeSentClaims.closingOf f) s.takeSentClaims).idleComparators).still = s.still := by simp
  unfold State.endPoint
  rw [still_closeSequencer, h, still_seq h]

/-- R91: ABORT_POINT leaves the still part but for the sequencer. -/
theorem still_abortPoint (k : Nat) : (s.abortPoint k).still = { s.still with seq := s.seq.closed k .aborted } := by
  have h : (s.takeSentClaims.idleComparators).still = s.still := by simp
  unfold State.abortPoint
  rw [still_closeSequencer, h, still_seq h]

theorem still_losePoint (k : Nat) :
    (s.losePoint k).still = { s.still with seq := s.seq.closed k .refLost } := by
  unfold State.losePoint; rw [still_raise, still_endPoint]

/-! ### What agreement gives -/

theorem still_shaped {s t : State} (h : t.still = s.still) (hs : s.Shaped) : t.Shaped := by
  have h1 := congrArg (fun x => x.positions.length) h
  have h2 := congrArg (fun x => x.lanes.length) h
  have h3 := congrArg State.plan h
  have h4 := congrArg State.tags h
  have h5 := congrArg (fun x => x.profiles.length) h
  have h6 := congrArg State.flash h
  simp [State.still] at h1 h2 h3 h4 h5 h6
  unfold State.Shaped at *
  rw [h1, h2, h3, h4, h5, h6]; exact hs

theorem still_ref {s t : State} (h : t.still = s.still) : t.ref = s.ref := by
  have := congrArg State.ref h; exact this
theorem still_plan {s t : State} (h : t.still = s.still) : t.plan = s.plan := by
  have := congrArg State.plan h; exact this
theorem still_seals {s t : State} (h : t.still = s.still) : t.seals = s.seals := by
  have := congrArg State.seals h; exact this
theorem still_tags {s t : State} (h : t.still = s.still) : t.tags = s.tags := by
  have := congrArg State.tags h; exact this
theorem still_store {s t : State} (h : t.still = s.still) : t.store = s.store := by
  have := congrArg State.store h; exact this
theorem still_flash {s t : State} (h : t.still = s.still) : t.flash = s.flash := by
  have := congrArg State.flash h; exact this
theorem still_pending {s t : State} (h : t.still = s.still) : t.pending = s.pending := by
  have := congrArg State.pending h; exact this

/-- Agreement leaves the port as it was but for the pending set. -/
theorem still_port {s t : State} (h : t.still = s.still) :
    t.port = { s.port with pendingSet := t.port.pendingSet } := by
  have h1 := congrArg (fun x : State => ({ x.port with pendingSet := t.port.pendingSet } : Port)) h
  exact h1

end Sys2Proof.Machine
end

