-- ==== Sys2Proof/Laws/Lanes.lean ====
section
/-! SUPPORT. What arbitration can do: it changes lane work alone, and leaves no lane IDLE with a requesting position. -/

namespace Sys2Proof.Machine

variable (s : State)

/-! ### Lane work alone -/

@[simp] theorem withoutLaneWork_updLane (l : Nat) (f : Lane → Lane) :
    (s.updLane l f).withoutLaneWork = s.withoutLaneWork := rfl

@[simp] theorem withoutLaneWork_send (c : Claim) : (s.send c).withoutLaneWork = s.withoutLaneWork := rfl

/-- A change of a position's work item alone. -/
theorem withoutLaneWork_updItem (p : Nat) (f : Position → Option Item) :
    (s.updPosition p (fun x => { x with item := f x })).withoutLaneWork = s.withoutLaneWork := by
  simp [State.withoutLaneWork, map_updPlace]

@[simp] theorem withoutLaneWork_sendTurn (l p : Nat) : (s.sendTurn l p).withoutLaneWork = s.withoutLaneWork := by
  unfold State.sendTurn
  split
  · rfl
  · simp only [withoutLaneWork_updItem, withoutLaneWork_updLane]

@[simp] theorem withoutLaneWork_grant (l p : Nat) : (s.grant l p).withoutLaneWork = s.withoutLaneWork := by
  unfold State.grant
  split
  · simp only [withoutLaneWork_send, withoutLaneWork_updItem, withoutLaneWork_updLane]
  · simp only [withoutLaneWork_sendTurn, withoutLaneWork_updItem, withoutLaneWork_updLane]

@[simp] theorem withoutLaneWork_arbitrate (l : Nat) : (s.arbitrate l).withoutLaneWork = s.withoutLaneWork := by
  unfold State.arbitrate
  (repeat' split) <;> simp

/-- R154: arbitration changes lane work alone. -/
@[simp] theorem withoutLaneWork_settle : s.settle.withoutLaneWork = s.withoutLaneWork := by
  simp [State.settle]

/-! ### The search order -/

/-- R154: the search covers the eight positions of the lane. -/
theorem mem_searchOrder {l ptr q : Nat} (hq : laneFirst l ≤ q) (hq' : q < laneFirst l + 8) :
    q ∈ searchOrder l ptr := by
  simp only [searchOrder, places, List.map_map, List.mem_map, List.mem_range, Function.comp]
  refine ⟨(q + 8 * 8 + 7 - laneFirst l - (ptr - laneFirst l) % 8) % 8, by omega, by omega⟩

/-- R154: a position found is one of the lane. -/
theorem of_mem_searchOrder {l ptr q : Nat} (h : q ∈ searchOrder l ptr) :
    laneFirst l ≤ q ∧ q < laneFirst l + 8 := by
  simp only [searchOrder, List.mem_map] at h
  obtain ⟨i, _, rfl⟩ := h
  omega

theorem laneOf_eq_iff {l p : Nat} (hl : 1 ≤ l) (hp : 1 ≤ p) :
    laneOf p = l ↔ laneFirst l ≤ p ∧ p < laneFirst l + 8 := by
  unfold laneOf laneFirst; omega

/-! ### What a grant does to lanes and requests -/

theorem State.lane_congr {s t : State} (h : t.lanes = s.lanes) (l : Nat) : t.lane l = s.lane l := by
  simp [State.lane, h]

theorem State.position_congr {s t : State} (h : t.positions = s.positions) (p : Nat) : t.position p = s.position p := by
  simp [State.position, h]

theorem State.requesting_congr {s t : State} {p : Nat} (h : t.position p = s.position p) :
    t.requesting p = s.requesting p := by simp [State.requesting, h]

theorem lane_sendTurn_other {l m : Nat} (p : Nat) (h : m ≠ l) : (s.sendTurn l p).lane m = s.lane m := by
  unfold State.sendTurn
  split
  · rfl
  · rw [State.lane_congr (State.updPosition_lanes _ _ _), State.lane_updLane_other _ _ h]

/-- Sending a turn's frames leaves the lane state. -/
theorem laneState_sendTurn (l p m : Nat) : ((s.sendTurn l p).lane m).state = (s.lane m).state := by
  unfold State.sendTurn
  split
  · rfl
  · rw [State.lane_congr (State.updPosition_lanes _ _ _)]
    by_cases h : m = l
    · subst h
      simp only [State.lane, State.updLane, place_updPlace_same]
      cases place s.lanes m <;> rfl
    · rw [State.lane_updLane_other _ _ h]

/-- Sending a turn's frames leaves who is requesting. -/
theorem requesting_sendTurn (l p q : Nat) : (s.sendTurn l p).requesting q = s.requesting q := by
  unfold State.sendTurn
  split
  · rfl
  · rename_i i hi
    by_cases h : q = p
    · subst h
      simp only [State.requesting, State.position, State.updPosition, State.updLane_positions, place_updPlace_same]
      cases hx : place s.positions q with
      | none => simp [State.position, hx, Position.powerOn] at hi
      | some x => simp [State.position, hx] at hi; simp [hi]
    · apply State.requesting_congr
      rw [State.position_updPosition_other _ _ h, State.position_congr (State.updLane_positions _ _ _)]

theorem lane_grant_other {l m : Nat} (p : Nat) (h : m ≠ l) : (s.grant l p).lane m = s.lane m := by
  unfold State.grant
  split
  · rw [State.lane_congr (State.send_lanes _ _), State.lane_congr (State.updPosition_lanes _ _ _),
      State.lane_updLane_other _ _ h]
  · rw [lane_sendTurn_other _ _ h, State.lane_congr (State.updPosition_lanes _ _ _), State.lane_updLane_other _ _ h]

/-- R154: after a grant the lane is GRANTED to the winner. -/
theorem laneState_grant {l : Nat} (p : Nat) (h : 1 ≤ l) (h' : l ≤ s.lanes.length) :
    ((s.grant l p).lane l).state = .granted p := by
  unfold State.grant
  split
  · rw [State.lane_congr (State.send_lanes _ _), State.lane_congr (State.updPosition_lanes _ _ _),
      State.lane_updLane_same _ _ h h']
  · rw [laneState_sendTurn, State.lane_congr (State.updPosition_lanes _ _ _), State.lane_updLane_same _ _ h h']

theorem requesting_grant_other {p q : Nat} (l : Nat) (h : q ≠ p) : (s.grant l p).requesting q = s.requesting q := by
  unfold State.grant
  split
  · apply State.requesting_congr
    rw [State.position_congr (State.send_positions _ _), State.position_updPosition_other _ _ h,
      State.position_congr (State.updLane_positions _ _ _)]
  · rw [requesting_sendTurn]
    apply State.requesting_congr
    rw [State.position_updPosition_other _ _ h, State.position_congr (State.updLane_positions _ _ _)]

/-! ### What arbitration leaves -/

/-- Lane l is not IDLE with a requesting position. -/
def State.ServedAt (s : State) (l : Nat) : Prop :=
  (s.lane l).state = .idle → ∀ p, isPosition p = true → laneOf p = l → s.requesting p = false

theorem lane_arbitrate_other {l m : Nat} (h : m ≠ l) : (s.arbitrate l).lane m = s.lane m := by
  unfold State.arbitrate
  (repeat' split) <;> simp [lane_grant_other _ _ h]

theorem requesting_arbitrate_other {l q : Nat} (hl : 1 ≤ l) (hq : isPosition q = true) (h : laneOf q ≠ l) :
    (s.arbitrate l).requesting q = s.requesting q := by
  unfold State.arbitrate
  (repeat' split) <;> try rfl
  rename_i p hp
  have hm := of_mem_searchOrder (List.mem_of_find?_eq_some hp)
  refine requesting_grant_other _ _ (fun he => h ?_)
  subst he
  exact (laneOf_eq_iff hl (isPosition_iff.mp hq).1).mpr hm

/-- R152: an arbitration leaves its own lane served. -/
theorem servedAt_arbitrate {l : Nat} (h : 1 ≤ l) (h' : l ≤ s.lanes.length) : (s.arbitrate l).ServedAt l := by
  unfold State.arbitrate
  split
  · split
    · rename_i hn
      intro _ p hp hpl
      have hm := mem_searchOrder (ptr := (s.lane l).pointer)
        ((laneOf_eq_iff h (isPosition_iff.mp hp).1).mp hpl).1 ((laneOf_eq_iff h (isPosition_iff.mp hp).1).mp hpl).2
      simpa using List.find?_eq_none.mp hn p hm
    · intro hi
      rw [laneState_grant _ _ h h'] at hi
      cases hi
  · rename_i hg
    intro hi
    simp [hi] at hg
  · rename_i hg
    intro hi
    simp [hi] at hg

theorem servedAt_arbitrate_other {l m : Nat} (h : 1 ≤ l) (hm : m ≠ l) (hs : s.ServedAt m) :
    (s.arbitrate l).ServedAt m := by
  intro hi p hp hpm
  rw [lane_arbitrate_other _ hm] at hi
  rw [requesting_arbitrate_other _ h hp (by rw [hpm]; exact hm)]
  exact hs hi p hp hpm

@[simp] theorem length_lanes_arbitrate (l : Nat) : (s.arbitrate l).lanes.length = s.lanes.length := by
  have := congrArg (fun x : State => x.lanes.length) (still_arbitrate s l)
  simpa [State.still] using this

/-- R152: after every lane has arbitrated, no lane stands IDLE with a requesting position. -/
theorem settle_served (h : s.lanes.length = 6) : s.settle.LanesServed := by
  intro l hl
  have hl' := isLane_iff.mp hl
  show s.settle.ServedAt l
  unfold State.settle
  have h1 : l = 1 ∨ l = 2 ∨ l = 3 ∨ l = 4 ∨ l = 5 ∨ l = 6 := by omega
  rcases h1 with rfl | rfl | rfl | rfl | rfl | rfl
  · exact (servedAt_arbitrate_other (l := 6) (m := 1) _ (by omega) (by omega)
      (servedAt_arbitrate_other (l := 5) (m := 1) _ (by omega) (by omega)
      (servedAt_arbitrate_other (l := 4) (m := 1) _ (by omega) (by omega)
      (servedAt_arbitrate_other (l := 3) (m := 1) _ (by omega) (by omega)
      (servedAt_arbitrate_other (l := 2) (m := 1) _ (by omega) (by omega)
      (servedAt_arbitrate (l := 1) _ (by omega) (by simp [h])))))))
  · exact (servedAt_arbitrate_other (l := 6) (m := 2) _ (by omega) (by omega)
      (servedAt_arbitrate_other (l := 5) (m := 2) _ (by omega) (by omega)
      (servedAt_arbitrate_other (l := 4) (m := 2) _ (by omega) (by omega)
      (servedAt_arbitrate_other (l := 3) (m := 2) _ (by omega) (by omega)
      (servedAt_arbitrate (l := 2) _ (by omega) (by simp [h]))))))
  · exact (servedAt_arbitrate_other (l := 6) (m := 3) _ (by omega) (by omega)
      (servedAt_arbitrate_other (l := 5) (m := 3) _ (by omega) (by omega)
      (servedAt_arbitrate_other (l := 4) (m := 3) _ (by omega) (by omega)
      (servedAt_arbitrate (l := 3) _ (by omega) (by simp [h])))))
  · exact (servedAt_arbitrate_other (l := 6) (m := 4) _ (by omega) (by omega)
      (servedAt_arbitrate_other (l := 5) (m := 4) _ (by omega) (by omega)
      (servedAt_arbitrate (l := 4) _ (by omega) (by simp [h]))))
  · exact (servedAt_arbitrate_other (l := 6) (m := 5) _ (by omega) (by omega)
      (servedAt_arbitrate (l := 5) _ (by omega) (by simp [h])))
  · exact (servedAt_arbitrate (l := 6) _ (by omega) (by simp [h]))

/-- A state with the lanes' states and the requests of a served state is served. -/
theorem lanesServed_of_same {s t : State} (hs : s.LanesServed) (hl : ∀ l, (t.lane l).state = (s.lane l).state)
    (hr : ∀ p, isPosition p = true → t.requesting p = true → s.requesting p = true) : t.LanesServed := by
  intro l hl' hi p hp hpl
  rw [hl] at hi
  have hn := hs l hl' hi p hp hpl
  cases hc : t.requesting p with
  | false => rfl
  | true => rw [hr p hp hc] at hn; cases hn

end Sys2Proof.Machine
end

