-- ==== Sys2Proof/Laws/Requests.lean ====
section
/-! SUPPORT. What the shared taking of a request and of a claim comes to, said once. -/

namespace Sys2Proof.Machine

variable {s : State}

/-- R197: the port takes the request it is offered: the block's state, with the answer at the end of the answer queue. -/
theorem serve_offers {k : RequestKind} {tag : BitVec 16} {args : List Byte} {rest : List Message}
    (block : List Byte → State → Served) (h : s.Offers k tag args rest) :
    serve k block s = (block args (s.dequeued rest)).state.answered tag k (block args (s.dequeued rest)).code
      (block args (s.dequeued rest)).body := by
  obtain ⟨m, hm, ho, ha, hr⟩ := h
  simp [serve, State.takeMessage, State.mayTake, hm, ho, ha, hr, State.dequeued, State.answered]

/-- R197: a request the port is not offered changes nothing. -/
theorem serve_not_offered {k : RequestKind} (block : List Byte → State → Served)
    (h : ∀ tag args rest, ¬ s.Offers k tag args rest) : serve k block s = s := by
  unfold serve State.takeMessage
  cases hq : s.port.requests with
  | nil => rfl
  | cons m rest =>
    cases hm : s.mayTake with
    | false => rfl
    | true =>
      cases ho : openMessage m with
      | malformed tag kind => simp [ho]
      | request tag k' args =>
        by_cases hk : k' = k
        · subst hk
          simp only [State.mayTake, Bool.and_eq_true, decide_eq_true_eq, Bool.not_eq_true'] at hm
          exact absurd ⟨m, hq, ho, hm.1, hm.2⟩ (h tag args rest)
        · simp [ho, hk]

/-- The oldest claim of a stream is taken where it is of the kind wanted. -/
theorem takeClaim_claims {α : Type} {stream : Claim → Bool} {want : Claim → Option α} {c : Claim} {a : α}
    (f : α → State → State) (h : s.Claims stream c) (hw : want c = some a) :
    s.takeClaim stream want f = f a (s.claimTaken stream) := by
  unfold State.Claims at h
  simp [State.takeClaim, State.claimTaken, h, hw]

/-- No claim of the stream is on its way: nothing happens. -/
theorem takeClaim_none {α : Type} {stream : Claim → Bool} (want : Claim → Option α) (f : α → State → State)
    (h : s.inFlight.find? stream = none) : s.takeClaim stream want f = s := by simp [State.takeClaim, h]

/-- A command of a position of the part completes. -/
theorem onPosition_next {p : Nat} (f : State → State) (h : isPosition p = true) : onPosition p s f = .next (f s) := by
  simp [onPosition, h]

/-- A command of a lane of the part completes. -/
theorem onLane_next {l : Nat} (f : State → State) (h : isLane l = true) : onLane l s f = .next (f s) := by
  simp [onLane, h]

/-- R3: a request that names a record by a handle that does not resolve is refused. -/
theorem withRecord_error {h : Handle} {c : AnswerCode} (f : Record → Served) (hr : s.resolve h = .error c) :
    withRecord h s f = refuse s c := by simp [withRecord, hr]

/-- R3: a request that names a record by a handle that resolves is decided for that record. -/
theorem withRecord_ok {h : Handle} {r : Record} (f : Record → Served) (hr : s.resolve h = .ok r) :
    withRecord h s f = f r := by simp [withRecord, hr]

end Sys2Proof.Machine
end

