-- ==== Sys2Proof/Laws/Records.lean ====
section
/-! SUPPORT. What reading a record gives after a change of it, and what resolution, evaluation and rejection come to. -/

namespace Sys2Proof.Machine

variable {s : State}

/-- R3: a handle that resolves names the record of its slot, under the slot's tag. -/
theorem State.resolve_ok {h : Handle} {r : Record} (hr : s.resolve h = .ok r) :
    within 64 h.slot = true ∧ s.recordAt h.slot = some r ∧ s.tag h.slot = h.tag := by
  unfold State.resolve at hr
  cases hw : within 64 h.slot with
  | false => simp [hw] at hr
  | true =>
    cases hs : s.recordAt h.slot with
    | none => simp [hw, hs] at hr
    | some r' =>
      by_cases ht : s.tag h.slot = h.tag
      · simp [hw, hs, ht] at hr
        exact ⟨rfl, by rw [hr], ht⟩
      · simp [hw, hs, ht] at hr

/-- R3: the record a claim's handle names. -/
theorem State.named_some {h : Handle} {r : Record} (hn : s.named h = some r) : s.resolve h = .ok r := by
  unfold State.named at hn
  cases hr : s.resolve h with
  | ok r' => simp [hr] at hn; rw [hn]
  | error c => simp [hr] at hn

/-- The record a claim's handle names stands in the handle's slot. -/
theorem State.recordAt_named {h : Handle} {r : Record} (hn : s.named h = some r) : s.recordAt h.slot = some r :=
  (State.resolve_ok (State.named_some hn)).2.1

/-- Taking a claim leaves what handles name. -/
@[simp] theorem State.named_claimTaken (f : Claim → Bool) (h : Handle) : (s.claimTaken f).named h = s.named h := rfl

/-- The record of a slot after a change of it. -/
theorem State.recordAt_updated {n : Nat} {r : Record} (f : Record → Record) (hf : ∀ x, (f x).slot = x.slot)
    (h : s.recordAt n = some r) : (s.updRecord n f).recordAt n = some (f r) := by
  rw [State.recordAt_updRecord s n n f hf]; simp [h]

/-- R20: the record of a slot after a change of its state. -/
theorem State.recordAt_moved {n : Nat} {r : Record} (st : RecordState) (h : s.recordAt n = some r) :
    (s.moveRecord n st).recordAt n = some { r with state := st } :=
  State.recordAt_updated (fun r => { r with state := st }) (fun _ => rfl) h

/-- R1: in a sound table the record of a slot is the only record of the slot. -/
theorem State.TableSound.unique {n : Nat} {r x : Record} (hs : s.TableSound) (h : s.recordAt n = some r)
    (hx : x ∈ s.records) (hn : x.slot = n) : x = r := by
  obtain ⟨hd, -, -⟩ := hs
  unfold State.recordAt at h
  generalize s.records = l at h hx hd
  induction l with
  | nil => simp at hx
  | cons a l ih =>
    simp only [List.map_cons, List.nodup_cons, List.mem_map, not_exists, not_and] at hd
    by_cases ha : a.slot = n
    · have hr : a = r := by simpa [ha] using h
      rcases List.mem_cons.mp hx with rfl | hx
      · exact hr
      · exact absurd (hn.trans ha.symm) (hd.1 x hx)
    · have hb : (a.slot == n) = false := by simpa using ha
      rw [List.find?_cons, hb] at h
      rcases List.mem_cons.mp hx with rfl | hx
      · exact absurd hn ha
      · exact ih h hx hd.2

/-- In a sound table two changes that agree on the record of a slot are one change. -/
theorem State.TableSound.updRecord_congr {n : Nat} {r : Record} {f g : Record → Record} (hs : s.TableSound)
    (h : s.recordAt n = some r) (hfg : f r = g r) : s.updRecord n f = s.updRecord n g := by
  unfold State.updRecord
  congr 1
  apply List.map_congr_left
  intro x hx
  by_cases hn : x.slot = n
  · rw [hs.unique h hx hn]; simp [hfg]
  · simp [hn]

/-- Two changes of a record are one. -/
theorem State.updRecord_updRecord (n : Nat) (f g : Record → Record) (hf : ∀ x, (f x).slot = x.slot) :
    (s.updRecord n f).updRecord n g = s.updRecord n (g ∘ f) := by
  unfold State.updRecord
  simp only [List.map_map]
  congr 1
  apply List.map_congr_left
  intro x _
  by_cases hn : x.slot = n <;> simp [hn, hf]

/-- R21: a record outside MEASURING and PASSED is left as it is by evaluation. -/
theorem State.evaluate_other {n : Nat} {r : Record} (h : s.recordAt n = some r) (hm : r.state ≠ .measuring)
    (hp : r.state ≠ .passed) : s.evaluate n = s := by
  cases hs : r.state <;> simp_all [State.evaluate]

/-- R18: withdrawing a work item leaves the records. -/
@[simp] theorem State.withdrawWrite_records (r : Record) : (s.withdrawWrite r).records = s.records := by
  unfold State.withdrawWrite State.giveGone; repeat' split
  all_goals rfl

/-- R64: giving a work item leaves the records. -/
@[simp] theorem State.giveItem_records (r : Record) (w : Work) : (s.giveItem r w).records = s.records := by
  unfold State.giveItem; repeat' split
  all_goals rfl

/-- Two states with the same records hold the same record in a slot. -/
theorem State.recordAt_congr {s t : State} (h : t.records = s.records) (n : Nat) : t.recordAt n = s.recordAt n := by
  unfold State.recordAt; rw [h]

/-- R18: the record of a slot after its rejection. -/
theorem State.recordAt_rejected {n : Nat} {r : Record} (c : RejectCause) (h : s.recordAt n = some r) :
    (s.reject n c).recordAt n = some { r with state := .rejected, cause := some c } := by
  unfold State.reject
  simp only [h]
  have h' : (s.withdrawWrite r).recordAt n = some r := by rw [State.recordAt_congr (State.withdrawWrite_records r), h]
  exact State.recordAt_updated (fun r => { r with state := .rejected, cause := some c }) (fun _ => rfl) h'

/-- R64, R129, R186: a BOUND position that holds no item queues the record's work. -/
theorem State.giveItem_bound {r : Record} {p : Nat} (w : Work) (hp : r.position = some p)
    (hb : (s.position p).state = .bound) (hi : (s.position p).item = none) : s.giveItem r w = s.queueItem p w := by
  simp [State.giveItem, hp, hb, hi]

/-- R57, R65: the orphan claim on its way that a handle names. -/
theorem State.orphanOnWay_eq {h : Handle} {p : Nat} {ph : Option AbandonPhase}
    (hc : s.Claims (isOrphanFor h) (.orphan p h ph)) : s.orphanOnWay h = some (p, ph) := by
  unfold State.Claims at hc
  unfold State.orphanOnWay
  generalize s.inFlight = cs at hc
  induction cs with
  | nil => cases hc
  | cons c cs ih =>
    cases ho : c.orphanFor h with
    | none => exact by simpa [ho] using ih (by simpa [isOrphanFor, ho] using hc)
    | some x =>
      have : c = .orphan p h ph := by simpa [isOrphanFor, ho] using hc
      simp [this, Claim.orphanFor]

/-- No orphan claim on its way names a handle. -/
theorem State.orphanOnWay_none {h : Handle} (hc : ∀ p ph, Claim.orphan p h ph ∉ s.inFlight) :
    s.orphanOnWay h = none := by
  unfold State.orphanOnWay
  rw [List.findSome?_eq_none_iff]
  intro c hm
  cases c <;> simp only [Claim.orphanFor]
  split
  · subst_vars; exact absurd hm (hc _ _)
  · rfl

/-- An orphaned record is given no item. -/
theorem State.giveItem_unbound {r : Record} (w : Work) (hp : r.position = none) : s.giveItem r w = s := by
  simp [State.giveItem, hp]

/-- Two changes of a position that agree on it as it stands are one change. -/
theorem State.updPosition_congr {p : Nat} {f g : Position → Position} (h : f (s.position p) = g (s.position p)) :
    s.updPosition p f = s.updPosition p g := by
  have : updPlace s.positions p f = updPlace s.positions p g := updPlace_congr fun a ha => by
    simpa [State.position, ha] using h
  simp [State.updPosition, this]

/-- A change of a position that leaves it as it stands is none. -/
theorem State.updPosition_same {p : Nat} {f : Position → Position} (h : f (s.position p) = s.position p) :
    s.updPosition p f = s :=
  (State.updPosition_congr (g := id) h).trans (by cases p <;> simp [State.updPosition, updPlace])

/-- R10, R130: an orphan claim withdraws the WRITE or SEAL item of its position that has had no grant, and the item given
for the record. -/
theorem State.withdrawWork_eq (p : Nat) : s.withdrawWork p = s.updPosition p (fun x => { x with
    item := x.item.filter (fun i => i.granted || !i.work.isForRecord), given := false }) := by
  simp [State.withdrawWork, State.withdrawUngranted, State.markGiven, State.updPosition, updPlace_updPlace]

/-- R9: a rebind with no orphan claim of the record on its way has none to take first. -/
theorem State.settleOrphan_none {h : Handle} (hc : ∀ p ph, Claim.orphan p h ph ∉ s.inFlight) :
    s.settleOrphan h = s := by simp [State.settleOrphan, State.orphanOnWay_none hc]

end Sys2Proof.Machine
end

