-- ==== Sys2Proof/Laws/Book.lean ====
section
/-! SUPPORT. What recording, verdicts, lane turns and attention leave of the book: who is in the table, under which tag,
profile and position, what each position is bound to, and the claims of positions on their way. -/

namespace Sys2Proof.Machine

/-- What a record is known by: its slot, admission number, serial, profile code and position. -/
structure RecordKey where
  slot : Nat
  admission : Nat
  serial : List Byte
  profile : Nat
  position : Option Nat

def Record.key (r : Record) : RecordKey := ⟨r.slot, r.admission, r.serial, r.profile, r.position⟩

/-- What a binding rests on at a position. -/
structure PositionKey where
  state : PositionState
  bound : Option Handle
  held : Bool
  exchange : Option IdPhase

/-- R58: the exchange a work item is for, if it is one of identification. -/
def Work.exchange : Work → Option IdPhase
  | .ident => some .ident
  | .readImage _ _ => some .image
  | .write _ | .sealLock _ => none

/-- The exchange of a position's item. -/
def exchangeOf (i : Option Item) : Option IdPhase := i.bind (fun i => i.work.exchange)

def Position.key (x : Position) : PositionKey := ⟨x.state, x.bound, x.held, exchangeOf x.item⟩

theorem identifies_eq (x : Position) : x.identifies = (exchangeOf x.item).isSome := by
  unfold Position.identifies exchangeOf
  cases x.item with
  | none => rfl
  | some i => cases h : i.work <;> simp [Work.identifies, Work.exchange, h]

/-- A creation, rebind or orphan claim of any position. -/
def isPositionClaim : Claim → Bool
  | .creation _ _ _ | .rebind _ _ | .orphan _ _ _ => true
  | .flag _ _ _ | .result _ _ _ _ | .finishing _ | .writeStart _ _ | .sealStart _ _ | .commitMatch _ _
  | .stageFailed _ _ | .commitMismatch _ _ | .commitUnknown _ _ | .locked _ _ _ _ | .refused _ _ | .noReply _ _
  | .refLoss => false

/-- The book of the table: two states that agree here hold the same records, bindings and claims of positions. -/
structure Book where
  records : List RecordKey
  tags : List Byte
  admissions : Nat
  profiles : List (Option ProfileSlot)
  store : ProfileStore
  positions : List PositionKey
  claims : List Claim

def State.book (s : State) : Book :=
  ⟨s.records.map Record.key, s.tags, s.admissions, s.profiles, s.store, s.positions.map Position.key,
    s.inFlight.filter isPositionClaim⟩

variable (s : State)

/-- A change at one place that a view does not see there leaves the view of the whole list. -/
theorem map_updPlace_at {α β : Type} (g : α → β) (l : List α) (n : Nat) (f : α → α)
    (h : ∀ a, place l n = some a → g (f a) = g a) : (updPlace l n f).map g = l.map g := by
  cases n with
  | zero => rfl
  | succ n =>
    simp only [updPlace, place] at *
    induction l generalizing n with
    | nil => simp
    | cons a l ih =>
      cases n with
      | zero => simp at h; simp [h]
      | succ n => simp at h; simp [ih n h]

/-! ### Updates -/

theorem book_updPosition (p : Nat) (f : Position → Position)
    (h : ∀ x, place s.positions p = some x → (f x).key = x.key) :
    (s.updPosition p f).book = s.book := by
  simp [State.book, map_updPlace_at _ _ _ _ h]

theorem book_updRecord (n : Nat) (f : Record → Record) (h : ∀ r, (f r).key = r.key) :
    (s.updRecord n f).book = s.book := by
  have : (Record.key ∘ fun r => if r.slot = n then f r else r) = Record.key := by
    funext r; by_cases hr : r.slot = n <;> simp [hr, h]
  simp [State.book, this]

theorem book_send (c : Claim) (h : isPositionClaim c = false) : (s.send c).book = s.book := by
  simp [State.book, h]

@[simp] theorem book_raise (c : Condition) : (s.raise c).book = s.book := rfl
@[simp] theorem book_raiseIf (b : Bool) (c : Condition) : (s.raiseIf b c).book = s.book := by cases b <;> rfl
@[simp] theorem book_updCmp (p : Nat) (f : Comparator → Comparator) : (s.updCmp p f).book = s.book :=
  book_updPosition s p _ (fun _ _ => rfl)
@[simp] theorem book_updLane (l : Nat) (f : Lane → Lane) : (s.updLane l f).book = s.book := rfl
@[simp] theorem book_endTurn (l : Nat) : (s.endTurn l).book = s.book := rfl
@[simp] theorem book_moveRecord (n : Nat) (st : RecordState) : (s.moveRecord n st).book = s.book :=
  book_updRecord s n _ (fun _ => rfl)
@[simp] theorem book_mapCmps (f : Nat → Comparator → Comparator) : (s.mapCmps f).book = s.book := by
  have : ∀ (l : List Position) (g : Nat → Position → Position), (∀ i x, (g i x).key = x.key) →
      (l.mapIdx g).map Position.key = l.map Position.key := by
    intro l g h
    apply List.ext_getElem?
    intro i
    simp only [List.getElem?_map, List.getElem?_mapIdx]
    cases l[i]? <;> simp [h]
  simp only [State.book, State.mapCmps]
  rw [this s.positions (fun i x => { x with cmp := f (i + 1) x.cmp }) (fun i x => rfl)]
@[simp] theorem book_seq (q : Sequencer) : State.book { s with seq := q } = s.book := rfl
@[simp] theorem book_port (q : Port) : State.book { s with port := q } = s.book := rfl
@[simp] theorem book_ref (u : RefUnit) : State.book { s with ref := u } = s.book := rfl
@[simp] theorem book_seals (a : SealAllocator) : State.book { s with seals := a } = s.book := rfl
@[simp] theorem book_plan (pl : List (Option Point)) : State.book { s with plan := pl } = s.book := rfl
@[simp] theorem book_putAnswer (a : Answer) : (s.putAnswer a).book = s.book := rfl

/-- Dropping or adding claims that are not of positions. -/
theorem book_inFlight (cs : List Claim) (h : cs.filter isPositionClaim = s.inFlight.filter isPositionClaim) :
    State.book { s with inFlight := cs } = s.book := by simp [State.book, h]

theorem filter_filter_position (f : Claim → Bool) (h : ∀ c, isPositionClaim c = true → f c = true) (cs : List Claim) :
    (cs.filter f).filter isPositionClaim = cs.filter isPositionClaim := by
  rw [List.filter_filter]
  apply List.filter_congr
  intro c _
  cases hc : isPositionClaim c
  · rfl
  · exact h c hc

/-! ### Operations -/

theorem position_of_place {p : Nat} {x : Position} (h : place s.positions p = some x) : s.position p = x := by
  simp [State.position, h]

/-- A change of an item that leaves whether it is one of identification. -/
theorem book_item (p : Nat) (f : Position → Option Item)
    (h : exchangeOf (f (s.position p)) = exchangeOf (s.position p).item) :
    (s.updPosition p (fun x => { x with item := f x })).book = s.book :=
  book_updPosition s p _ (fun x hx => by
    rw [position_of_place s hx] at h
    simp only [Position.key, h])

theorem book_giveItem (r : Record) (w : Work) (hw : w.exchange = none) : (s.giveItem r w).book = s.book := by
  unfold State.giveItem
  (repeat' split) <;> try rfl
  rename_i h
  exact book_item s _ _ (by simp [exchangeOf, h.2, Item.fresh, hw])

@[simp] theorem book_markGiven (p : Nat) (b : Bool) : (s.markGiven p b).book = s.book :=
  book_updPosition s p _ (fun _ _ => rfl)

@[simp] theorem book_giveGone (r : Record) (b : Bool) : (s.giveGone r b).book = s.book := by
  unfold State.giveGone; (repeat' split) <;> simp

theorem book_withdrawUngranted (p : Nat) (w : Work → Bool) (hw : ∀ x, w x = true → x.exchange = none) :
    (s.withdrawUngranted p w).book = s.book := by
  refine book_item s p (fun x => x.item.filter (fun i => i.granted || !w i.work)) ?_
  cases (s.position p).item with
  | none => rfl
  | some i => cases hg : i.granted <;> cases hi : w i.work <;> simp_all [exchangeOf, Option.filter]

@[simp] theorem book_withdrawWrite (r : Record) : (s.withdrawWrite r).book = s.book := by
  unfold State.withdrawWrite
  split
  · simp
  · exact book_withdrawUngranted s _ _ (fun x h => by cases x <;> simp_all [Work.isWrite, Work.exchange])

@[simp] theorem book_withdrawWork (p : Nat) : (s.withdrawWork p).book = s.book :=
  (book_markGiven _ p false).trans
    (book_withdrawUngranted s p _ (fun x h => by cases x <;> simp_all [Work.isForRecord, Work.exchange]))

@[simp] theorem book_discardOutcomes (p : Nat) : (s.discardOutcomes p).book = s.book :=
  book_inFlight s _ (filter_filter_position _ (fun c hc => by cases c <;> simp_all [isPositionClaim, isOutcomeOf]) _)

@[simp] theorem book_reject (n : Nat) (c : RejectCause) : (s.reject n c).book = s.book := by
  unfold State.reject
  refine (book_raise _ _).trans
    ((book_updRecord _ n (fun r => { r with state := .rejected, cause := some c }) (fun _ => rfl)).trans ?_)
  split <;> simp

@[simp] theorem book_issueSeal : s.issueSeal.book = s.book := by simp [State.issueSeal]

/-! ### Lanes -/

@[simp] theorem exchange_transferTurn (a cap : Nat) (m : Byte) (t : Transfer) :
    (transferTurn a cap m t).work.exchange = none := by
  unfold transferTurn; split <;> rfl

theorem exchange_turnOf (a cap : Nat) (m : Byte) (wc : Nat) (w : Work) :
    (turnOf a cap m wc w).work.exchange = w.exchange := by
  cases w with
  | ident => rfl
  | readImage => rfl
  | write t =>
    cases t with
    | none => rfl
    | some t => exact exchange_transferTurn a cap m t
  | sealLock k => cases k <;> rfl

@[simp] theorem book_sendTurn (l p : Nat) : (s.sendTurn l p).book = s.book := by
  unfold State.sendTurn
  split
  · rfl
  · rename_i i hi
    rw [book_item]
    · rfl
    · rw [State.position_congr (State.updLane_positions _ _ _)]
      simp [exchangeOf, hi, exchange_turnOf]

theorem isPositionClaim_startClaim {p : Nat} {x : Position} {c : Claim} (h : startClaim p x = some c) :
    isPositionClaim c = false := by
  unfold startClaim at h
  repeat' split at h
  all_goals first | (cases h; done) | (cases h; rfl)

@[simp] theorem book_grant (l p : Nat) : (s.grant l p).book = s.book := by
  have h : ∀ t : State, (t.updPosition p (fun x =>
      { x with item := x.item.map (fun i => { i with requesting := false, granted := true }) })).book = t.book :=
    fun t => book_item t _ _ (by cases (t.position p).item <;> simp [exchangeOf])
  unfold State.grant
  split
  · rename_i hc
    rw [book_send _ _ (isPositionClaim_startClaim hc), h, book_updLane]
  · rw [book_sendTurn, h, book_updLane]

@[simp] theorem book_arbitrate (l : Nat) : (s.arbitrate l).book = s.book := by
  unfold State.arbitrate; (repeat' split) <;> simp

@[simp] theorem book_settle : s.settle.book = s.book := by simp [State.settle]

/-! ### Records -/

@[simp] theorem book_enterSealing (n : Nat) : (s.enterSealing n).book = s.book := by
  unfold State.enterSealing; dsimp only; split
  · simp
  · rw [book_giveItem _ _ _ rfl, book_moveRecord]
@[simp] theorem book_enterWritePending (n : Nat) : (s.enterWritePending n).book = s.book := by
  unfold State.enterWritePending; dsimp only; split
  · simp
  · rw [book_giveItem _ _ _ rfl, book_moveRecord]
@[simp] theorem book_autoSealTest (n : Nat) : (s.autoSealTest n).book = s.book := by
  unfold State.autoSealTest; (repeat' split) <;> simp
@[simp] theorem book_evaluate (n : Nat) : (s.evaluate n).book = s.book := by
  unfold State.evaluate; (repeat' split) <;> simp
@[simp] theorem book_returnToPassed (n : Nat) : (s.returnToPassed n).book = s.book := by
  unfold State.returnToPassed; simp
@[simp] theorem book_resetEntry (k n : Nat) : (s.resetEntry k n).book = s.book :=
  book_updRecord s n _ (fun r => by split <;> rfl)
@[simp] theorem book_settleWriting (n : Nat) (ph : Option AbandonPhase) : (s.settleWriting n ph).book = s.book := by
  unfold State.settleWriting; split <;> simp
@[simp] theorem book_spoilAttempt (n : Nat) : (s.spoilAttempt n).book = s.book := by
  unfold State.spoilAttempt
  dsimp only
  split
  · exact book_updRecord s n _ (fun _ => rfl)
  · split
    · exact (book_reject _ _ _).trans (book_updRecord s n _ (fun _ => rfl))
    · exact (book_returnToPassed _ _).trans (book_updRecord s n _ (fun _ => rfl))
@[simp] theorem book_settleSealing (n : Nat) : (s.settleSealing n).book = s.book := by
  unfold State.settleSealing; (repeat' split) <;> simp
@[simp] theorem book_settleRecord (n : Nat) (ph : Option AbandonPhase) : (s.settleRecord n ph).book = s.book := by
  unfold State.settleRecord; (repeat' split) <;> simp
@[simp] theorem book_resumeWrite (n : Nat) : (s.resumeWrite n).book = s.book := by
  unfold State.resumeWrite; (repeat' split) <;> first | rfl | exact book_giveItem _ _ _ rfl

/-! ### Verdicts -/

@[simp] theorem book_verdictEffect (n : Nat) (pt : Point) (pf : Profile) (e : Int) (v : Verdict) :
    (s.verdictEffect n pt pf e v).book = s.book := by
  have h : (s.updRecord n (Record.adjust pt pf e)).book = s.book := book_updRecord s n _ (fun _ => rfl)
  cases v <;> simp only [State.verdictEffect, book_reject]
  split
  · exact h
  · split
    · rw [book_giveGone, book_enterWritePending, h]
    · exact h
@[simp] theorem book_withEntry (n k : Nat) (e : Entry) : (s.updRecord n (Record.withEntry k e)).book = s.book :=
  book_updRecord s n _ (fun _ => rfl)
@[simp] theorem book_writeResult (n k : Nat) (r : Record) (res : Result) : (s.writeResult n k r res).book = s.book := by
  unfold State.writeResult; (repeat' split) <;> simp
@[simp] theorem book_takeResult (h : Handle) (k : Nat) (res : Result) : (s.takeResult h k res).book = s.book := by
  unfold State.takeResult; (repeat' split) <;> simp
@[simp] theorem book_takeFlag (h : Handle) (f : ClaimFlag) : (s.takeFlag h f).book = s.book := by
  unfold State.takeFlag; (repeat' split) <;> try rfl
  exact book_updRecord s _ _ (fun _ => rfl)
@[simp] theorem book_takeComparatorClaim (c : Claim) : (s.takeComparatorClaim c).book = s.book := by
  cases c <;> simp [State.takeComparatorClaim]
@[simp] theorem book_confirmWrite (n : Nat) (r : Record) : (s.confirmWrite n r).book = s.book := by
  unfold State.confirmWrite
  exact (book_evaluate _ _).trans ((book_moveRecord _ _ _).trans (book_updRecord _ _ _ (fun _ => rfl)))

/-- A fold of changes that leave the book leaves it. -/
theorem book_foldl {α : Type} (f : State → α → State) (h : ∀ t a, (f t a).book = t.book) (l : List α) :
    (l.foldl f s).book = s.book := by
  induction l generalizing s with
  | nil => rfl
  | cons a l ih => rw [List.foldl_cons, ih, h]

@[simp] theorem book_takeAll (cs : List Claim) : (takeAll cs s).book = s.book :=
  book_foldl s _ (fun t c => book_takeComparatorClaim t c) cs
@[simp] theorem book_takeSentClaims : s.takeSentClaims.book = s.book := by
  unfold State.takeSentClaims
  rw [book_takeAll]
  exact book_inFlight s _ (filter_filter_position _
    (fun c hc => by cases c <;> simp_all [isPositionClaim, isComparatorClaim]) _)
@[simp] theorem book_idleComparators : s.idleComparators.book = s.book := by
  unfold State.idleComparators
  rw [show ∀ t u : State, ({ t with inFlight := u.inFlight.filter (fun c => !isAnyFinishing c) } : State).book =
    { t.book with claims := (u.inFlight.filter (fun c => !isAnyFinishing c)).filter isPositionClaim } from fun _ _ => rfl,
    filter_filter_position _ (fun c hc => by cases c <;> simp_all [isPositionClaim, isAnyFinishing]), book_mapCmps]
  rfl
@[simp] theorem book_closeSequencer (k : Nat) (c : EndCause) : (s.closeSequencer k c).book = s.book := rfl
@[simp] theorem book_endPoint (k : Nat) (c : EndCause) (f : Comparator → Option Result) :
    (s.endPoint k c f).book = s.book := by simp [State.endPoint]
@[simp] theorem book_abortPoint (k : Nat) : (s.abortPoint k).book = s.book := by simp [State.abortPoint]
@[simp] theorem book_losePoint (k : Nat) : (s.losePoint k).book = s.book := by simp [State.losePoint]
@[simp] theorem book_compareWatchdog : s.compareWatchdog.book = s.book := by
  unfold State.compareWatchdog; split
  · rw [book_send _ _ rfl]; rfl
  · rfl
@[simp] theorem book_resetClaim (k : Nat) : (s.resetClaim k).book = s.book := by
  unfold State.resetClaim
  rw [book_foldl _ _ (fun t n => book_evaluate t n), book_foldl _ _ (fun t n => book_resetEntry t k n)]
@[simp] theorem book_startPoint (k : Nat) (pt : Point) : (s.startPoint k pt).book = s.book := by
  unfold State.startPoint
  dsimp only
  rw [book_compareWatchdog]
  rw [show ∀ (t : State) q u (v : State),
    ({ t with seq := q, ref := u, inFlight := v.inFlight.filter (fun c => !isRefLoss c) } : State).book =
    { t.book with claims := (v.inFlight.filter (fun c => !isRefLoss c)).filter isPositionClaim } from fun _ _ _ _ => rfl,
    filter_filter_position _ (fun c hc => by cases c <;> simp_all [isPositionClaim, isRefLoss])]
  unfold State.arm
  rw [book_mapCmps]; rfl

/-- R102..R105: what a comparator sends is no claim of a position. -/
theorem claims_testEnd (p : Nat) (x : Comparator) : (testEnd p x).claims.filter isPositionClaim = [] := by
  unfold testEnd acceptEdge endWindow resultClaims
  dsimp only
  (repeat' split) <;> simp [isPositionClaim]

theorem claims_glitch (p : Nat) (x : Comparator) : (glitchEdge p x).claims.filter isPositionClaim = [] := by
  unfold glitchEdge
  (repeat' split) <;> simp [isPositionClaim]

theorem claims_oppositeEdge (p : Nat) (tr : PulseEdge) (time : Nat) (x : Comparator) :
    (oppositeEdge p tr time x).claims.filter isPositionClaim = [] := by
  unfold oppositeEdge
  split
  · split
    · split
      · exact claims_glitch p x
      · unfold acceptEdge endWindow resultClaims
        dsimp only
        (repeat' split) <;> simp [isPositionClaim]
    · rfl
  · rfl

theorem book_count (p : Nat) (f : Comparator → Counted) (h : ∀ x, (f x).claims.filter isPositionClaim = []) :
    (s.count p f).book = s.book := by
  unfold State.count
  dsimp only
  rw [show ∀ (t u : State) cs, ({ t with inFlight := u.inFlight ++ cs } : State).book =
    { t.book with claims := (u.inFlight ++ cs).filter isPositionClaim } from fun _ _ _ => rfl]
  rw [List.filter_append, h, List.append_nil, book_updCmp]; rfl

/-! ### What the book decides -/

variable {s} {t : State}

theorem records_of_book (h : t.book = s.book) : t.records.map Record.key = s.records.map Record.key :=
  congrArg Book.records h

theorem mem_of_book (h : t.book = s.book) {r : Record} (hr : r ∈ t.records) : ∃ r' ∈ s.records, r'.key = r.key := by
  have : r.key ∈ s.records.map Record.key := by rw [← records_of_book h]; exact List.mem_map_of_mem hr
  simpa using this

theorem tag_of_book (h : t.book = s.book) (n : Nat) : t.tag n = s.tag n := by
  unfold State.tag; rw [show t.tags = s.tags from congrArg Book.tags h]

theorem profileSlot_of_book (h : t.book = s.book) (c : Nat) : t.profileSlot c = s.profileSlot c := by
  unfold State.profileSlot; rw [show t.profiles = s.profiles from congrArg Book.profiles h]

theorem place_map {α β : Type} (f : α → β) (l : List α) (n : Nat) : place (l.map f) n = (place l n).map f := by
  cases n <;> simp [place]

theorem position_of_book (h : t.book = s.book) (p : Nat) : (t.position p).key = (s.position p).key := by
  have hp : t.positions.map Position.key = s.positions.map Position.key := congrArg Book.positions h
  have := congrArg (fun l => place l p) hp
  simp only [place_map] at this
  unfold State.position
  cases ht : place t.positions p <;> cases hs : place s.positions p <;> simp_all

theorem ofPosition_of_book (h : t.book = s.book) (p : Nat) :
    t.inFlight.filter (ofPosition p) = s.inFlight.filter (ofPosition p) := by
  have hc : t.inFlight.filter isPositionClaim = s.inFlight.filter isPositionClaim := congrArg Book.claims h
  have := congrArg (List.filter (ofPosition p)) hc
  have both : ∀ c, (ofPosition p c && isPositionClaim c) = ofPosition p c := by
    intro c; cases c <;> simp [ofPosition, isPositionClaim]
  simpa [List.filter_filter, both] using this

theorem recordAt_of_book (h : t.book = s.book) (n : Nat) :
    (t.recordAt n).map Record.key = (s.recordAt n).map Record.key := by
  have hk : ∀ l : List Record, (l.find? (fun r => r.slot == n)).map Record.key =
      (l.map Record.key).find? (fun k => k.slot == n) := by
    intro l
    induction l with
    | nil => rfl
    | cons a l ih => cases ha : (a.slot == n) <;> simp [Record.key, ha, ← ih]
  unfold State.recordAt
  rw [hk, hk, records_of_book h]

/-- R3: a handle names the same record in two states of one book. -/
theorem named_of_book (h : t.book = s.book) (g : Handle) : (t.named g).map Record.key = (s.named g).map Record.key := by
  have hr := recordAt_of_book h g.slot
  unfold State.named State.resolve
  rw [tag_of_book h]
  cases ht : t.recordAt g.slot <;> cases hs : s.recordAt g.slot <;> simp only [ht, hs, Option.map_some, Option.map_none,
    Option.some.injEq, reduceCtorEq] at hr
  · cases within 64 g.slot <;> rfl
  · cases within 64 g.slot <;> by_cases e : s.tag g.slot = g.tag <;> simp [e, hr]

theorem State.TableSound.of_book (h : t.book = s.book) (hs : s.TableSound) : t.TableSound := by
  have hk := records_of_book h
  have e : ∀ {β : Type} (g : RecordKey → β), t.records.map (g ∘ Record.key) = s.records.map (g ∘ Record.key) := by
    intro β g; rw [← List.map_map, ← List.map_map, hk]
  obtain ⟨h1, h2, h3⟩ := hs
  refine ⟨?_, ?_, ?_⟩
  · have := e RecordKey.slot; exact this ▸ h1
  · have := e RecordKey.serial; exact this ▸ h2
  · intro r hr
    obtain ⟨r', hr', e⟩ := mem_of_book h hr
    rw [← show r'.slot = r.slot from congrArg RecordKey.slot e]
    exact h3 r' hr'

theorem State.PinsCounted.of_book (h : t.book = s.book) (hs : s.PinsCounted) : t.PinsCounted := by
  obtain ⟨h1, h2⟩ := hs
  refine ⟨?_, ?_⟩
  · intro r hr
    obtain ⟨r', hr', e⟩ := mem_of_book h hr
    rw [profileSlot_of_book h, ← show r'.profile = r.profile from congrArg RecordKey.profile e]
    exact h1 r' hr'
  · intro c ps hc hp
    rw [profileSlot_of_book h] at hp
    have count : ∀ l : List Record, (l.filter (fun r => r.profile = c)).length =
        ((l.map Record.key).filter (fun k => k.profile = c)).length := by
      intro l; rw [List.filter_map, List.length_map]; rfl
    rw [h2 c ps hc hp, count, count, records_of_book h]

theorem State.BindingsSound.of_book (h : t.book = s.book) (hs : s.BindingsSound) : t.BindingsSound := by
  have hk := position_of_book h
  have hst : ∀ p, (t.position p).state = (s.position p).state := fun p => congrArg PositionKey.state (hk p)
  have hb : ∀ p, (t.position p).bound = (s.position p).bound := fun p => congrArg PositionKey.bound (hk p)
  have hh : ∀ p, (t.position p).held = (s.position p).held := fun p => congrArg PositionKey.held (hk p)
  have he : ∀ p, exchangeOf (t.position p).item = exchangeOf (s.position p).item :=
    fun p => congrArg PositionKey.exchange (hk p)
  have hi : ∀ p, (t.position p).identifies = (s.position p).identifies := fun p => by
    rw [identifies_eq, identifies_eq, he]
  have reads : ∀ i : Option Item, (∃ x off ws, i = some x ∧ x.work = .readImage off ws) ↔ exchangeOf i = some .image := by
    intro i
    cases i with
    | none => simp [exchangeOf]
    | some x => cases hw : x.work <;> simp [exchangeOf, Work.exchange, hw]
  refine ⟨?_, ?_, ?_, ?_, ?_, ?_⟩
  · intro p g hp hg
    rw [hb] at hg
    obtain ⟨r, hr, hrp⟩ := hs.bound p g hp hg
    have hn := named_of_book h g
    rw [hr] at hn
    cases ht : t.named g with
    | none => simp [ht] at hn
    | some r' =>
      simp only [ht, Option.map_some, Option.some.injEq] at hn
      exact ⟨r', rfl, (congrArg RecordKey.position hn).trans hrp⟩
  · intro r p hr hp
    obtain ⟨r', hr', e⟩ := mem_of_book h hr
    have hp' : r'.position = some p := (congrArg RecordKey.position e).trans hp
    have hslot : r'.slot = r.slot := congrArg RecordKey.slot e
    have hof : t.handleOf r = s.handleOf r' := by simp [State.handleOf, hslot, tag_of_book h]
    rw [hb, hof]
    exact hs.position r' p hr' hp'
  · intro p hp; rw [hb, hst, hh]; exact hs.holder p hp
  · intro p hp hheld
    rw [hh] at hheld
    obtain ⟨h1, h2⟩ := hs.held p hp hheld
    refine ⟨(hst p).trans h1, ?_⟩
    intro i off ws hx hw
    have := (reads _).mp ⟨i, off, ws, hx, hw⟩
    rw [he] at this
    obtain ⟨j, off', ws', hj, hjw⟩ := (reads _).mpr this
    exact h2 j off' ws' hj hjw
  · intro p hp hid; rw [hi] at hid; rw [hst]; exact hs.identifies p hp hid
  · intro p hp
    rw [ofPosition_of_book h, hst, hh, hi, hb]
    exact hs.claims p hp

end Sys2Proof.Machine
end

