-- ==== Sys2Proof/Laws/Bytes.lean ====
section
/-! SUPPORT. Reading bytes back: numbers and words from the bytes they are sent as, and the reverse. -/

namespace Sys2Proof.Machine

/-- R214: `leBytes k` gives k bytes. -/
@[simp] theorem leBytes_length (k n : Nat) : (leBytes k n).length = k := by
  induction k generalizing n with
  | zero => rfl
  | succ k ih => simp [leBytes, ih]

/-- A number read from k bytes is below 256^k. -/
theorem leNat_lt (bs : List Byte) : leNat bs < 256 ^ bs.length := by
  induction bs with
  | nil => simp [leNat]
  | cons b bs ih =>
    simp only [leNat, List.length_cons, pow_succ]
    have := b.isLt
    omega

/-- The bytes of the number that bytes read as are those bytes. -/
theorem leBytes_leNat (bs : List Byte) : leBytes bs.length (leNat bs) = bs := by
  induction bs with
  | nil => rfl
  | cons b bs ih =>
    have := b.isLt
    simp only [leNat, List.length_cons, leBytes]
    rw [show (b.toNat + 256 * leNat bs) / 256 = leNat bs by omega, ih]
    congr 1
    apply BitVec.eq_of_toNat_eq
    simp only [BitVec.toNat_ofNat]
    omega

/-- A number below 256^k reads back from its k bytes. -/
theorem leNat_leBytes {k n : Nat} (h : n < 256 ^ k) : leNat (leBytes k n) = n := by
  induction k generalizing n with
  | zero => simp only [pow_zero] at h; simp [leBytes, leNat]; omega
  | succ k ih =>
    simp only [leBytes, leNat, BitVec.toNat_ofNat]
    rw [ih (by rw [pow_succ] at h; omega)]
    omega

/-- R147: four bytes to a word. -/
@[simp] theorem imageBytes_length (ws : List Word) : (imageBytes ws).length = 4 * ws.length := by
  induction ws with
  | nil => rfl
  | cons w ws ih =>
    simp only [imageBytes, List.flatMap_cons, List.length_append, List.length_cons] at *
    rw [ih, wordBytes, leBytes_length]
    omega

@[simp] theorem wordsOfBytes_length (n : Nat) (bs : List Byte) : (wordsOfBytes n bs).length = n := by
  induction n generalizing bs with
  | zero => rfl
  | succ n ih => simp [wordsOfBytes, ih]

/-- R147: words read back from their bytes, whatever follows. -/
theorem wordsOfBytes_imageBytes (ws : List Word) (rest : List Byte) :
    wordsOfBytes ws.length (imageBytes ws ++ rest) = ws := by
  induction ws with
  | nil => rfl
  | cons w ws ih =>
    have hl : (wordBytes w).length = 4 := leBytes_length _ _
    simp only [List.length_cons, wordsOfBytes, imageBytes, List.flatMap_cons, List.append_assoc, uField] at *
    rw [List.drop_left' hl, ih, List.drop_zero, List.take_left' hl, wordBytes, leNat_leBytes w.isLt]
    simp

/-- R147: the bytes of the words that 4n bytes read as are those bytes. -/
theorem imageBytes_wordsOfBytes {n : Nat} {bs : List Byte} (h : bs.length = 4 * n) :
    imageBytes (wordsOfBytes n bs) = bs := by
  induction n generalizing bs with
  | zero => simp only [Nat.mul_zero, List.length_eq_zero_iff] at h; subst h; rfl
  | succ n ih =>
    have hl : (bs.take 4).length = 4 := by simp; omega
    have hb := leNat_lt (bs.take 4)
    have back := leBytes_leNat (bs.take 4)
    rw [hl] at hb back
    simp only [wordsOfBytes, imageBytes, List.flatMap_cons, uField, List.drop_zero] at *
    rw [ih (by simp; omega), wordBytes, BitVec.toNat_ofNat, Nat.mod_eq_of_lt (show _ < 2 ^ 32 from hb), back, List.take_append_drop]

end Sys2Proof.Machine
end

