-- ==== Sys2Proof/Tests/Slice0.lean ====
section
/-! SUPPORT. Tests: ill-formed commands, the manual's worked figures, and a witness for the hypotheses of every
obligation that has some. -/

namespace Sys2Proof.Tests

open Sys2Proof.Machine

/-! ### A small bench -/

/-- A profile of one element: a FIXED field of 8 bits and the trim NOMINAL A of 8 bits. -/
def pf1 : Profile :=
  { typeCode := 0x0C31, elementCount := 1, kmeter := 1000, pulseEdge := .rising, minWidth := 2000, glitchPolicy := .stall
    bandCount := 1, t1 := 0, t2 := 0, accuracyClass := 0, trimUnit := 20, adjustLimit := 100000, maxRounds := 3
    layout := [.fixed 8 0x33, .trim .nominal .a 8], imageLength := 1 }

/-- pf1 as a block carries it. -/
def raw1 : RawProfile := rawProfile (profileBlock pf1)

/-- A point on A for profile code 1. -/
def point (role : Role) : Point :=
  { elements := .a, current := 5000, role := role, pulses := 2, windows := 2, tolerances := [1000, 1000, 1000, 1000]
    timeout := 60, mask := 1#16 }

/-- The serial 7T40021. -/
def serial1 : List Byte := [0x37, 0x54, 0x34, 0x30, 0x30, 0x32, 0x31]

/-- What an attempt fails with, if it fails. -/
def failure {α β : Type} : Except α β → Option α
  | .ok _ => none
  | .error e => some e

/-- A record in slot 1 at position 3. -/
def rec1 (st : RecordState) : Record :=
  { slot := 1, admission := 1, serial := serial1, profile := 1, state := st, position := some 3
    trims := [⟨.nominal, .a, 5, 5⟩], results := List.replicate 24 Entry.empty, rounds := 0, generation := 0
    writeFailures := 0, sealAttempts := 0, flags := Flags.none, spoiled := [], sealNumber := none, recordCheck := none
    cause := none }

/-- rec1's handle. -/
def h1 : Handle := ⟨1, 0#8⟩

/-- A bench out of the load with Kref, one profile, two points, one record bound at position 3, and a seal range. -/
def bench (r : Record) : State :=
  ({ State.reset with
    store := { activity := .idle, slot := 1, faults := 0 }
    ref := { State.reset.ref with kref := 1000000 }
    profiles := setPlace State.reset.profiles 1 (some ⟨pf1, 1⟩)
    plan := setPlace (setPlace State.reset.plan 1 (some (point .adjust))) 2 (some (point .check))
    records := [r], admissions := 1
    seals := ⟨40001, 40100, 40001, 0⟩ } : State).updPosition 3
      (fun x => { x with raw := true, taken := true, state := .bound, bound := some h1 })

/-- The bench with a claim on its way. -/
def sent (c : Claim) (s : State) : State := { s with inFlight := [c] }

/-- The bench with a point running. -/
def running (s : State) : State :=
  { s with seq := { running := some 1, timer := some 60000, armedRemaining := 1, armedAtStart := 1, lastClose := none } }

/-- A message of a request, with tag 0102h. -/
def message (k : RequestKind) (args : List Byte) : Message :=
  ⟨[0x02, 0x01, k.code] ++ leBytes 2 args.length ++ args, false⟩

/-- The bench with one request waiting. -/
def ask (k : RequestKind) (args : List Byte) (s : State) : State :=
  { s with port := { s.port with requests := [message k args] } }

/-- The bench asked a well-formed request offers it. -/
theorem ask_offers (k : RequestKind) (args : List Byte) (s : State)
    (h : openMessage (message k args) = .request 0x0102#16 k args) (ha : s.port.answers = [])
    (hr : s.port.restartPending = false) : (ask k args s).Offers k 0x0102#16 args [] :=
  ⟨message k args, rfl, h, by simp [ask, ha, Config.queueDepth], hr⟩

/-- Position 3 holds a work item and its lane awaits the reply of its turn. -/
def awaiting (w : Work) (attempts : Nat) (s : State) : State :=
  ((s.updPosition 3 (fun x => { x with item := some ⟨w, false, true, attempts⟩ })).updLane 1
    (fun x => { x with state := .awaitReply 3, mark := 7#8, timer := some 50 }))

/-- A transfer of one word. -/
def transfer (ph : WritePhase) : Transfer := ⟨[0x00000733#32], 0x1234#16, 1, 1, 0, ph, false⟩

/-! ### Ill-formed commands -/

theorem test_position_0_is_refused : (Instr.presenceChange 0 true).wellFormed = false := by decide
theorem test_position_49_is_refused : (Instr.creationClaim 49).wellFormed = false := by decide
theorem test_lane_0_is_refused : (Instr.laneSendDone 0).wellFormed = false := by decide
theorem test_lane_7_is_refused : (Instr.probeFrameReceived 7 []).wellFormed = false := by decide
theorem test_bounds_are_accepted : (Instr.presenceChange 1 true).wellFormed = true ∧
    (Instr.meterActiveEdge 48 .rising 0).wellFormed = true ∧ (Instr.laneReplyTimeout 1).wellFormed = true ∧
    (Instr.laneSendDone 6).wellFormed = true ∧ Instr.refEdge.wellFormed = true := by decide
theorem test_ill_formed_faults : exec (.debounceExpiry 49) State.reset = .fault .noSuchPosition ∧
    exec (.laneReplyTimeout 7) State.reset = .fault .noSuchLane := ⟨rfl, rfl⟩

/-! ### The manual's figures -/

/-- R139, R140, [IMG:STREAM:EX]: a layout of FIXED 5Ah and three 20-bit trims. -/
def pf3 : Profile :=
  { pf1 with elementCount := 3, layout := [.fixed 8 0x5A, .trim .nominal .a 20, .trim .nominal .b 20, .trim .nominal .c 20]
             imageLength := 3 }

def trims3 (a b c : Int) : Band → Phase → Int
  | _, .a => a
  | _, .b => b
  | _, .c => c

/-- R146: the check of the nine digits, and of one byte 00h. R139, R140, [IMG:STREAM:EX]: the worked images packed and
unpacked. [CMP:ERROR:EX]: the worked window errors. -/
theorem test_figures :
    check [0x31, 0x32, 0x33, 0x34, 0x35, 0x36, 0x37, 0x38, 0x39] = 0x29B1#16 ∧
    check [0x00] = 0xE1F0#16 ∧
    pack pf3 (trims3 20 (-140) (-85)) = [0x4000145A#32, 0xFFABFFF7#32, 0x0000000F#32] ∧
    pack pf3 (trims3 120 (-40) 15) = [0x8000785A#32, 0x000FFFFD#32, 0x00000000#32] ∧
    unpack pf3.layout pf3.trimSet [0x8000785A#32, 0x000FFFFD#32, 0xFFFFFFF0#32] =
    ⟨[⟨.nominal, .a, 120⟩, ⟨.nominal, .b, -40⟩, ⟨.nominal, .c, 15⟩], false⟩ ∧
    [19980, 20010, 20000, 19990, 20480, 10000, 1000].map
    (fun c => guardClamp (windowError 10 2000000 1000 c)) = [1001, -500, 0, 500, -23438, 1000000, 9999999] := by decide +kernel

/-- R125, [VERD]: the correction of +1,001 ppm by a trim unit of 10, and an exact half. -/
theorem test_correction : correctionOf 1001 10 = -100 ∧ correctionOf (-5) 10 = 1 ∧ correctionOf 5 10 = -1 := by
  decide

/-- R154: with every position of lane 1 requesting and the pointer at 1, the search begins at 2. -/
theorem test_search_order : searchOrder 1 1 = [2, 3, 4, 5, 6, 7, 8, 1] ∧
    searchOrder 6 48 = [41, 42, 43, 44, 45, 46, 47, 48] := by decide

/-! ### Steps (StepRunsFrontCommand, EmptyQueueIsOneMillisecond, and the invariants) -/

theorem test_front : step { State.reset with pending := [.refEdge, .attentionPoll] } =
    exec .refEdge { State.reset with pending := [.attentionPoll] } := rfl

theorem test_hyp_empty_queue : State.reset.pending = [] ∧
    (running (bench (rec1 .measuring))).seq.running.isSome = true ∧ State.reset.ref.lossReported = false ∧
    1000 ≤ min 10000 (999 + 1) ∧ ¬ 1000 ≤ min 10000 (998 + 1) := by decide

theorem test_hyp_step : step State.reset = .next State.reset.tick ∧
    State.reset.pending.head? ≠ some .powerOn := ⟨rfl, by decide⟩

theorem test_hyp_invariants : State.reset.Shaped ∧ State.reset.QueuesBounded ∧ State.reset.seals.Sound ∧
    State.reset.seq.Rested ∧ State.reset.ref.Bounded ∧ State.reset.port.bench.refTimeout ≤ 10000 := by
  unfold State.Shaped State.QueuesBounded SealAllocator.Sound Sequencer.Rested RefUnit.Bounded; decide

theorem test_hyp_lanes_served : State.reset.LanesServed ∧ State.reset.TableSound := by
  refine ⟨?_, by unfold State.TableSound; decide⟩
  intro l _ _ p hp _
  have h : ∀ p ∈ places 48, State.reset.requesting p = false := by decide +kernel
  obtain ⟨h1, h2⟩ := isPosition_iff.mp hp
  exact h p (List.mem_map.mpr ⟨p - 1, List.mem_range.mpr (by omega), by omega⟩)

theorem test_hyp_bench (r : Record) (h : r.slot = 1) : (bench r).Shaped ∧ (bench r).TableSound ∧
    (bench r).seals.Sound ∧ (bench r).seals.remaining ≠ 0 := by
  have hs : (bench r).seals = ⟨40001, 40100, 40001, 0⟩ := rfl
  refine ⟨⟨rfl, rfl, rfl, rfl, rfl, rfl⟩, ⟨by simp [bench], by simp [bench], ?_⟩, ?_, ?_⟩
  · intro x hx
    have : x = r := by simpa [bench] using hx
    rw [this, h]; decide
  · rw [hs]; unfold SealAllocator.Sound; decide
  · rw [hs]; decide

/-- What holds of each number 1..k, listed, holds of every number within 1..k. -/
theorem of_places {P : Nat → Prop} {k n : Nat} (h : ∀ m ∈ places k, P m) (h1 : 1 ≤ n) (h2 : n ≤ k) : P n :=
  h n (List.mem_map.mpr ⟨n - 1, List.mem_range.mpr (by omega), by omega⟩)

theorem of_positions {P : Nat → Prop} (h : ∀ m ∈ places 48, P m) {p : Nat} (hp : isPosition p = true) : P p :=
  of_places h (isPosition_iff.mp hp).1 (isPosition_iff.mp hp).2

theorem of_lanes {P : Nat → Prop} (h : ∀ m ∈ places 6, P m) {l : Nat} (hl : isLane l = true) : P l :=
  of_places h (isLane_iff.mp hl).1 (isLane_iff.mp hl).2

/-- O8: the bench, whose record is bound at position 3, keeps every invariant of the table. -/
theorem test_hyp_pins : (bench (rec1 .measuring)).PinsCounted ∧ (bench (rec1 .measuring)).CountsInRange ∧
    (bench (rec1 .measuring)).LoadingQuiet := by
  have one : ∀ r ∈ (bench (rec1 .measuring)).records, r = rec1 .measuring := fun r hr => by simpa [bench] using hr
  have all : ∀ c ∈ places 16, ((bench (rec1 .measuring)).profileSlot c).all (fun ps =>
      ps.pins == ((bench (rec1 .measuring)).records.filter (fun r => r.profile = c)).length) = true := by decide +kernel
  refine ⟨⟨?_, ?_⟩, ?_, ?_⟩
  · intro r hr; rw [one r hr]; decide +kernel
  · intro c ps hc hp
    simp only [within, Bool.and_eq_true, decide_eq_true_eq] at hc
    have := of_places all hc.1 hc.2
    rw [hp] at this
    simpa using this
  · intro r hr
    rw [one r hr]
    exact ⟨fun pf _ => Nat.zero_le _, by decide⟩
  · intro h; cases h

theorem test_hyp_bindings : (bench (rec1 .measuring)).BindingsSound where
  bound := by
    have only : ∀ p ∈ places 48, ((bench (rec1 .measuring)).position p).bound = if p = 3 then some h1 else none := by
      decide +kernel
    intro p h hp hb
    rw [of_positions only hp] at hb
    split at hb
    · cases hb
      exact ⟨rec1 .measuring, by decide +kernel, by simp [rec1, *]⟩
    · cases hb
  position := by
    intro r p hr hp
    have one : r = rec1 .measuring := by simpa [bench] using hr
    rw [one] at hp ⊢
    cases hp
    exact ⟨rfl, by decide +kernel⟩
  holder := by
    intro p hp
    refine of_positions (P := fun p => ((bench (rec1 .measuring)).position p).bound.isSome = true ↔
      ((bench (rec1 .measuring)).position p).state = .bound ∨ ((bench (rec1 .measuring)).position p).held = true) ?_ hp
    decide +kernel
  held := by
    have none' : ∀ p ∈ places 48, ((bench (rec1 .measuring)).position p).held = false := by decide +kernel
    intro p hp h
    rw [of_positions none' hp] at h
    cases h
  identifies := by
    have none' : ∀ p ∈ places 48, ((bench (rec1 .measuring)).position p).identifies = false := by decide +kernel
    intro p hp h
    rw [of_positions none' hp] at h
    cases h
  claims := fun p _ => ⟨[], [], rfl, by simp, by simp, by simp, by simp, fun _ => ⟨rfl, rfl⟩⟩

/-- O8, O12: the part at reset is loading and quiet, and its lanes point at their own positions. -/
theorem test_hyp_quiet : State.reset.LoadingQuiet ∧ State.reset.store.activity = .loading ∧ State.reset.PointersOwn := by
  refine ⟨fun _ => ⟨rfl, rfl, rfl, rfl, ?_, ?_⟩, rfl, ?_⟩
  · intro p hp
    refine of_positions (P := fun p => State.reset.position p = Position.powerOn (State.reset.position p).pin) ?_ hp
    decide +kernel
  · intro l hl
    exact of_lanes (P := fun l => (State.reset.lane l).state = .idle) (by decide +kernel) hl
  · intro l hl
    refine of_lanes (P := fun l => isPosition (State.reset.lane l).pointer = true ∧
      laneOf (State.reset.lane l).pointer = l) ?_ hl
    decide +kernel

theorem test_hyp_running : (running (bench (rec1 .measuring))).seq.running = some 1 ∧
    (running (bench (rec1 .measuring))).seq.timer.isSome = true := by decide

theorem test_hyp_sealed : (bench (rec1 .sealed)).recordAt 1 = some (rec1 .sealed) ∧
    step { bench (rec1 .sealed) with pending := [.refEdge] } =
      .next { bench (rec1 .sealed) with ref := (bench (rec1 .sealed)).ref.edge } := ⟨by decide +kernel, rfl⟩

/-! ### Lanes, codec, evaluation -/

/-- The bench with IDENT queued at position 3. -/
def requestingBench : State := (bench (rec1 .measuring)).queueItem 3 .ident

/-- O12: the requester found, the frame a grant sends, and the start claim of a first WRITE or SEAL grant, which sends no
frame. With pointer 1 and positions 3 and 1 requesting, position 3 is the nearer; the pointer's own is the last. -/
theorem test_arbitration :
    (requestingBench.lane 1).state = .idle ∧
    (searchOrder 1 (requestingBench.lane 1).pointer).find? requestingBench.requesting = some 3 ∧
    ((awaiting .ident 0 requestingBench).lane 1).state ≠ .idle ∧
    (requestingBench.settle.lane 1).frames = [frame 3 0x01 1#8 []] ∧
    (requestingBench.settle.lane 1).pointer = 3 ∧
    ((bench (rec1 .writePending)).queueItem 3 (.write none)).settle.inFlight = [.writeStart 3 h1] ∧
    ((bench (rec1 .sealing)).queueItem 3 (.sealLock none)).settle.inFlight = [.sealStart 3 h1] ∧
    (((bench (rec1 .sealing)).queueItem 3 (.sealLock none)).settle.lane 1).frames = [] ∧
    ((requestingBench.queueItem 1 .ident).settle.lane 1).state = .granted 3 ∧
    ((((bench (rec1 .measuring)).queueItem 1 .ident).settle).lane 1).state = .granted 1 := by decide +kernel

theorem test_hyp_unpack : trimWidth .nominal .a pf1.layout = some 8 ∧ trimMin 8 = -128 ∧ trimMax 8 = 127 := by decide

theorem test_hyp_evaluation :
    (bench (rec1 .measuring)).passedCondition
      { rec1 .measuring with results := List.replicate 24 ⟨.pass, some 0, 2, false, 0⟩ } = true ∧
    (bench (rec1 .passed)).passedCondition (rec1 .passed) = false ∧ (bench (rec1 .passed)).reachable (rec1 .passed) = true ∧
    (bench (rec1 .passed)).profileAt 1 = some pf1 := by decide +kernel

theorem test_hyp_work : ((bench (rec1 .measuring)).position 3).state = .bound ∧
    ((bench (rec1 .measuring)).position 3).item = none ∧ (requestingBench.position 3).item ≠ none ∧
    (((bench (rec1 .writePending)).resumeWrite 1).position 3).item = some (newItem (.write none)) ∧
    (((bench (rec1 .passed)).resumeWrite 1).position 3).item = none := by decide

/-- The bench with position 3 removed, the record orphaned, and claims on their way, its orphan claim first. -/
def leaving (r : Record) (ph : Option AbandonPhase) (others : List Claim) : State :=
  { (bench { r with position := none }).updPosition 3 (fun x => { x with state := .empty, bound := none }) with
    inFlight := .orphan 3 h1 ph :: others }

/-- A DONE result that leads to ADJUSTED at point 1. -/
def adjusting : Claim := .result 3 h1 1 ⟨.done, some 2000, 2, false⟩

/-- leaving's record after the ADJUSTED verdict that its orphan claim's position is given the WRITE item of. -/
def givenBench : State := (leaving (rec1 .measuring) none []).takeResult h1 1 ⟨.done, some 2000, 2, false⟩

/-- O52, R130: the ADJUSTED verdict of a record whose orphan claim is on its way gives a WRITE item that its position does
not hold, and the claim withdraws it. O39: REJECT withdraws the given item. -/
theorem test_given_item :
    (leaving (rec1 .measuring) none [adjusting]).inFlight.find? (isOrphanFor h1) = some (.orphan 3 h1 none) ∧
    (leaving (rec1 .measuring) none [adjusting]).inFlight.find? (ofComparator 3) = some adjusting ∧
    (givenBench.position 3).given = true ∧ (givenBench.position 3).item = none ∧
    (givenBench.recordAt 1).map (·.state) = some .writePending ∧
    ((givenBench.takeOrphan 3 h1 none).position 3).given = false ∧
    ((givenBench.withdrawWrite { rec1 .writePending with position := none }).position 3).given = false := by decide +kernel

/-- O51: a rebind takes the orphan claim on its way first. O55, O56: an outcome that the removal overtook may be taken
before the orphan claim. O18: the phase of a transfer whose orphan claim is on its way. -/
theorem test_leaving :
    (((leaving (rec1 .writing) (some .commitSent) [.rebind 4 h1]).takeRebind 4 h1).recordAt 1).map
      (fun r => (r.state, r.position)) = some (.rejected, some 4) ∧
    ((leaving (rec1 .writing) (some .commitSent) [.rebind 4 h1]).takeRebind 4 h1).inFlight = [.rebind 4 h1] ∧
    (((leaving (rec1 .writing) (some .commitSent) []).commitMatched 3 h1).recordAt 1).map (·.state) = some .measuring ∧
    ((leaving (rec1 .writing) (some .commitSent) []).takeOrphan 3 h1 (some .commitSent)).recordAt 1 =
      some { rec1 .rejected with position := none, cause := some .commitUnknown } ∧
    (leaving (rec1 .writing) (some .commitSent) []).transferPhase { rec1 .writing with position := none } =
      some .commitSent ∧
    (bench (rec1 .writing)).transferPhase { rec1 .writing with position := none } = none := by decide +kernel

/-! ### Starts, flash and pipes -/

/-- A stored slot cut short after its check, most significant byte first, so that the check over the whole of it is 0,
which is what its missing check field reads as. -/
def shortSlot (mark : Byte) (block : List Byte) : FlashSlot :=
  let sum := (check (mark :: block)).toNat
  .stored (mark :: block ++ [BitVec.ofNat 8 (sum / 256), BitVec.ofNat 8 sum])

/-- pf1's block up to its last layout place. -/
def block1 : List Byte := (profileBlock pf1).take 44

/-- O19: a stored slot that reads as EMPTY, as a load fault, and as a candidate: one that fails validation, one whose
type code is held, and one that installs. -/
theorem test_hyp_flash : State.reset.store.activity = .loading ∧ State.reset.store.slot = 1 ∧
    readStored .interrupted = .loadFault ∧ readStored (.stored [0x3C, 0, 0]) = .loadFault ∧
    readStored (shortSlot 0x3C []) = .empty ∧ readStored (shortSlot 0xA6 []) = .loadFault ∧
    ({ State.reset with flash := setPlace State.reset.flash 1 (shortSlot 0xA5 block1) } : State).loadSlot.profileAt 1 =
      some pf1 ∧
    (let t : State := { State.reset with
      store := ⟨.loading, 2, 0⟩, profiles := setPlace State.reset.profiles 1 (some ⟨pf1, 0⟩)
      flash := setPlace State.reset.flash 2 (shortSlot 0xA5 block1) }
     t.loadSlot.profileAt 2 = none ∧ t.loadSlot.store.faults = 1) ∧
    ({ State.reset with flash := setPlace State.reset.flash 1 (shortSlot 0xA5 []) } : State).loadSlot.store.faults = 1 := by
  decide +kernel

/-- O19, O29: the load of an interrupted slot, and a sample through ACTIVE_LOW of a low input: an EMPTY position settles
under a running debounce. -/
theorem test_load_and_sample :
    ({ State.reset with flash := List.replicate 16 .interrupted, store := ⟨.loading, 16, 3⟩ } : State).loadSlot.store =
      ⟨.idle, 1, 4⟩ ∧
    sampledPosition Bench.powerOn (Position.powerOn false) =
      { Position.powerOn false with raw := true, debounce := some 200, state := .settling } ∧
    sampledPosition Bench.powerOn (Position.powerOn true) = Position.powerOn true ∧
    (({ State.reset with flash := List.replicate 16 .interrupted, store := ⟨.loading, 16, 0⟩ }.updPosition 1
      (fun x => { x with pin := false })).loadSlot.position 1).state = .settling := by decide +kernel

/-- O18: a record in WRITING whose COMMIT was sent, one whose COMMIT was not, and records in SEALING with a number and
without one, after a warm restart; and the held binding of a bound position. -/
theorem test_restart :
    ((awaiting (.write (some { transfer .commit with commitSent := true })) 0 (bench (rec1 .writing))).warmRestart
      .resetLine).recordAt 1 = some { rec1 .writing with state := .rejected, cause := some .commitUnknown } ∧
    ((awaiting (.write (some (transfer .stage))) 0 (bench (rec1 .writing))).warmRestart .resetLine).recordAt 1 =
      some (rec1 .writePending) ∧
    ((bench (rec1 .sealing)).warmRestart .resetLine).recordAt 1 = some (rec1 .measuring) ∧
    ((bench { rec1 .sealing with sealNumber := some 40001, sealAttempts := 1, spoiled := [40000] }).warmRestart
      .resetLine).recordAt 1 = some { rec1 .rejected with
        sealAttempts := 2, spoiled := [40000, 40001], cause := some .sealFailed } ∧
    ((bench (rec1 .measuring)).warmRestart .resetLine).position 3 =
    { (bench (rec1 .measuring)).position 3 with
      state := .identifying, phase := some .ident, held := true, item := some ⟨.ident, false, true, 0⟩ } ∧
    ((bench (rec1 .sealing)).warmRestart .resetLine).port.pendingSet = 0x86#8 ∧
    ((bench (rec1 .measuring)).warmRestart .resetLine).port.pendingSet = 0x84#8 ∧
    (({ State.reset with store := { State.reset.store with activity := .idle } } : State).warmRestart
      .resetLine).port.pendingSet = 0x80#8 := by decide +kernel

/-- O21: the five conditions that make a message malformed. -/
theorem test_hyp_malformed : openMessage ⟨[2, 1, 0x03, 0], false⟩ = .malformed 0x0102#16 0x03#8 ∧
    openMessage ⟨[2, 1, 0x03, 0, 0], true⟩ = .malformed 0x0102#16 0x03#8 ∧
    openMessage ⟨[2, 1, 0x03, 1, 0], false⟩ = .malformed 0x0102#16 0x03#8 ∧
    openMessage ⟨[2, 1, 0x07, 0, 0], false⟩ = .malformed 0x0102#16 0x07#8 ∧
    openMessage ⟨[2, 1, 0x03, 1, 0, 9], false⟩ = .malformed 0x0102#16 0x03#8 ∧
    openMessage ⟨[2, 1, 0x03, 0, 0], false⟩ = .request 0x0102#16 .getBench [] := by decide

theorem test_hyp_pipes : (bench (rec1 .measuring)).port.requests.length < 4 ∧
    (bench (rec1 .measuring)).store.activity ≠ .loading ∧ (bench (rec1 .measuring)).port.restartPending = false ∧
    State.reset.port.answers = [] ∧ openMessage ⟨[1, 2, 3, 4], false⟩ = .malformed 0x0201#16 3#8 ∧
    openMessage ⟨[1, 2], false⟩ = .malformed 0#16 0#8 := by decide

/-- A restart pending with its OK answer oldest, and one pending with its answer lost. -/
theorem test_hyp_restart (s : State) :
    let t : State := { s with port := { s.port with restartPending := true, answers := [⟨7#16, 0x04#8, .ok, []⟩] } }
    t.port.restartPending = true ∧ t.port.answers = [⟨7#16, 0x04#8, .ok, []⟩] := ⟨rfl, rfl⟩

theorem test_hyp_full_queues (s : State) :
    4 ≤ ({ s with port := { s.port with requests := List.replicate 4 ⟨[], false⟩ } } : State).port.requests.length := by
  simp

/-! ### Requests: arguments of every kind that are offered -/

/-- Arguments of each kind, of the length the kind requires. -/
def sample : RequestKind → List Byte
  | .setBench => [2, 1, 0x40, 0x42, 0x0F, 0, 9, 0, 0, 0, 0]
  | .setAttention => [0xFF, 1]
  | .ackAttention => [0x80]
  | .loadProfile => 2 :: profileBlock { pf1 with typeCode := 0x0C32 }
  | .dropProfile | .getProfile | .clearPoint | .startPoint => [1]
  | .setPoint => 1 :: pointBlock (point .check)
  | .retryPosition => [48]
  | .find => serialBytes (some serial1)
  | .list => [0x7F, 2]
  | .readRecord | .retire | .clearFlags | .seal => handleBytes h1
  | .amendTrim => handleBytes h1 ++ [1, 0] ++ s32Bytes 127
  | .reject => handleBytes h1 ++ [9]
  | .setSealRange => leBytes 4 1 ++ leBytes 4 99999999
  | .getStatus | .getBench | .restart | .saveProfiles | .getPlan | .endPoint | .abortPoint | .sealAll | .getPositions
  | .getSealRange => []

theorem test_samples_are_offered :
    RequestKind.all.all (fun k => decide (openMessage (message k (sample k)) = .request 0x0102#16 k (sample k))) = true := by
  decide +kernel

/-- Every request kind is offered at the bench with its sample arguments. -/
theorem test_hyp_offers (k : RequestKind) (r : Record) : (ask k (sample k) (bench r)).Offers k 0x0102#16 (sample k) [] := by
  refine ask_offers k (sample k) (bench r) ?_ rfl rfl
  have h := test_samples_are_offered
  rw [List.all_eq_true] at h
  have hk : k ∈ RequestKind.all := by cases k <;> decide
  simpa using h k hk

/-- Arguments at and beyond the bounds reach their blocks: they are no malformed messages. -/
theorem test_bounds_are_offered : openMessage (message .setAttention [0, 2]) = .request 0x0102#16 .setAttention [0, 2] ∧
    openMessage (message .dropProfile [17]) = .request 0x0102#16 .dropProfile [17] ∧
    openMessage (message .startPoint [25]) = .request 0x0102#16 .startPoint [25] ∧
    openMessage (message .retryPosition [49]) = .request 0x0102#16 .retryPosition [49] ∧
    openMessage (message .list [0x80, 3]) = .request 0x0102#16 .list [0x80, 3] ∧
    openMessage (message .setBench [0]) = .request 0x0102#16 .setBench [0] ∧
    openMessage (message .setSealRange (leBytes 4 0 ++ leBytes 4 100000000)) =
      .request 0x0102#16 .setSealRange (leBytes 4 0 ++ leBytes 4 100000000) := by decide +kernel

theorem test_not_offered : ∀ tag args rest, ¬ State.reset.Offers .getStatus tag args rest := by
  rintro tag args rest ⟨m, hm, -⟩; cases hm

/-- SET_BENCH: the sample's assignments are sound; the bounds of two parameters; a second Kref. -/
theorem test_hyp_set_bench : assignments 2 ((sample .setBench).drop 1) = [(1, 1000000), (9, 0)] ∧
    benchInRange 4 0 = false ∧ benchInRange 4 1 = true ∧ benchInRange 4 7 = true ∧ benchInRange 4 8 = false ∧
    benchInRange 1 4000000000 = true ∧ benchInRange 1 4000000001 = false := by decide

/-- O29: a shorter reference timeout under a silent reference is reported late; a polarity change samples. -/
theorem test_set_bench_effects :
    (match exec .setBench (ask .setBench [1, 2, 100, 0, 0, 0] (running { bench (rec1 .measuring) with
        ref := { State.reset.ref with watchdog := 100 } })) with
      | .next t => t.inFlight
      | .fault _ | .refused _ => []) = [.refLoss] ∧
    (match exec .setBench (ask .setBench [1, 2, 100, 0, 0, 0] (running { bench (rec1 .measuring) with
        ref := { State.reset.ref with watchdog := 99 } })) with
      | .next t => t.inFlight
      | .fault _ | .refused _ => []) = [] ∧
    (match exec .setBench (ask .setBench [1, 7, 1, 0, 0, 0] (bench (rec1 .measuring))) with
      | .next t => (t.position 1).state
      | .fault _ | .refused _ => .fault) = .settling := by decide +kernel

/-- R38, O30: pf1's block passes; the first and the last numeric field out of range, the first and the second layout place
that fails, and a trim left out of a sound layout. -/
theorem test_validate :
    (validate raw1).toOption = some pf1 ∧ failure (validate { raw1 with typeCode := 0 }) = some 1 ∧
    failure (validate { raw1 with fieldCount := 25 }) = some 14 ∧
    failure (validate { raw1 with typeCode := 0xFFFF }) = some 1 ∧
    failure (validate { raw1 with maxRounds := 5 }) = some 13 ∧
    failure (validate { raw1 with places := [⟨3, 0, 0, 8, 0⟩, ⟨1, 1, 0, 8, 0⟩] }) = some 15 ∧
    failure (validate { raw1 with places := [⟨2, 0, 0, 8, 0x33⟩, ⟨1, 1, 0, 25, 0⟩] }) = some 16 ∧
    failure (validate { raw1 with fieldCount := 1 }) = some 14 ∧
    failure (validate { raw1 with bandCount := 2, t1 := 0 }) = some 8 ∧
    failure (validate { raw1 with bandCount := 3, t1 := 199999, t2 := 199999 }) = some 9 := by decide +kernel

/-- O30, O32, O35: a profile that installs, a plan place, and the four conditions of arming. -/
theorem test_hyp_profiles_and_points :
    (validate (rawProfile ((sample .loadProfile).drop 1))).toOption = some { pf1 with typeCode := 0x0C32 } ∧
    (bench (rec1 .measuring)).profileSlot 2 = none ∧ (bench (rec1 .measuring)).profileSlot 1 = some ⟨pf1, 1⟩ ∧
    within 16 16 = true ∧ within 16 17 = false ∧ within 16 0 = false ∧
    pointArg (sample .setPoint) = some (point .check) ∧
    pointArg (1 :: pointBlock { point .check with pulses := 1001 }) = none ∧
    (pointArg (1 :: pointBlock { point .check with pulses := 1000, timeout := 3600, current := 200000 })).isSome = true ∧
    pointArg (1 :: pointBlock { point .check with tolerances := [1, 2, 0, 100000] }) = none ∧
    pointArg (1 :: pointBlock { point .check with current := 0 }) = none ∧
    (bench (rec1 .measuring)).pointAt 1 = some (point .adjust) ∧ (bench (rec1 .measuring)).pointAt 24 = none ∧
    within 24 24 = true ∧ within 24 25 = false ∧
    ((bench (rec1 .measuring)).armingOf 1 3).isSome = true ∧
    (bench (rec1 .passed)).armingOf 1 3 = none ∧ ((bench (rec1 .passed)).armingOf 2 3).isSome = true ∧
    (bench (rec1 .measuring)).armingOf 1 4 = none := by decide +kernel

theorem test_hyp_point_ends : (sent .refLoss (running (bench (rec1 .measuring)))).Claims isRefLoss .refLoss ∧
    (sent (.finishing 3) (running (bench (rec1 .measuring)))).Claims (isFinishing 3) (.finishing 3) ∧
    (running (bench (rec1 .measuring))).seq.armedRemaining = 1 ∧ State.reset.seq.running = none := by
  refine ⟨rfl, rfl, by decide, rfl⟩

/-- O25, O26, O38: handles, serials and trims at their bounds. O39: a queued WRITE item at the record's position, and the
same after its grant. O34: the watchdog time at and below the reference timeout. -/
theorem test_hyp_records :
    ((bench (rec1 .measuring)).resolve h1).toOption = some (rec1 .measuring) ∧
    failure ((bench (rec1 .measuring)).resolve ⟨0, 0#8⟩) = some .badArgument ∧
    failure ((bench (rec1 .measuring)).resolve ⟨65, 0#8⟩) = some .badArgument ∧
    failure ((bench (rec1 .measuring)).resolve ⟨64, 0#8⟩) = some .noSuch ∧
    failure ((bench (rec1 .measuring)).resolve ⟨1, 1#8⟩) = some .staleHandle ∧
    (bench (rec1 .measuring)).amendTarget (rec1 .measuring) 1 0 127 = some ⟨.nominal, .a, 5, 5⟩ ∧
    (bench (rec1 .measuring)).amendTarget (rec1 .measuring) 1 0 128 = none ∧
    (bench (rec1 .measuring)).measuringNow (rec1 .measuring) = false ∧
    (bench (rec1 .measuring)).recordOf serial1 = some (rec1 .measuring) ∧
    serialOk serial1 = true ∧ serialOk [0x37, 0x54, 0x34] = false ∧ serialOk (List.replicate 20 0x5A) = true ∧
    serialOk (List.replicate 21 0x5A) = false ∧
    (rec1 .measuring).trims.find? (fun u => decide (u.band.code = 1 ∧ u.phase.code = 0)) =
      some ⟨.nominal, .a, 5, 5⟩ ∧
    (((bench (rec1 .writePending)).queueItem 3 (.write none)).withdrawWrite (rec1 .writePending)).position 3 =
      (bench (rec1 .writePending)).position 3 ∧
    ((awaiting (.write none) 0 (bench (rec1 .writePending))).withdrawWrite (rec1 .writePending)).position 3 =
      (awaiting (.write none) 0 (bench (rec1 .writePending))).position 3 ∧
    (bench (rec1 .measuring)).port.bench.refTimeout ≤ 1000 ∧
    (bench (rec1 .measuring)).ref.watchdog < (bench (rec1 .measuring)).port.bench.refTimeout ∧
    ({ bench (rec1 .measuring) with ref := { State.reset.ref with watchdog := 1000 } }.startPoint 1
      (point .check)).inFlight = [.refLoss] := by decide +kernel

/-- The bench with position 5 waiting for a slot and the table empty. -/
def waitingBench : State :=
  { (bench (rec1 .measuring)) with records := [] }.updPosition 5 (fun x => { x with
    state := .waitingSlot, identity := some ⟨serial1, 0x0C31, 1, some ⟨[⟨.nominal, .a, 7⟩], false⟩⟩ })

theorem test_hyp_freed_slot : (waitingBench.position 5).state = .waitingSlot ∧
    waitingBench.matchingCode ⟨serial1, 0x0C31, 1, some ⟨[⟨.nominal, .a, 7⟩], false⟩⟩ ⟨[⟨.nominal, .a, 7⟩], false⟩ = some 1 ∧
    waitingBench.recordOf serial1 = none ∧ waitingBench.recordAt 1 = none ∧ waitingBench.admissions < 4294967295 ∧
    (∀ q ∈ places 4, (waitingBench.position q).state ≠ .waitingSlot) ∧
    waitingBench.matchingCode ⟨serial1, 0x0C32, 1, none⟩ ⟨[⟨.nominal, .a, 7⟩], false⟩ = none ∧
    ((waitingBench.handFreed 1).position 5).bound = some h1 ∧
    ((({ waitingBench with records := [{ rec1 .passed with slot := 2 }] } : State).handFreed 1).position 5).state = .conflict ∧
    ((({ waitingBench with records := [{ rec1 .passed with slot := 2, position := none }] } : State).handFreed 1).position
      5).bound = some ⟨2, 0#8⟩ ∧
    ((waitingBench.updPosition 5 (fun x => { x with
      identity := some ⟨serial1, 0x0C32, 1, some ⟨[⟨.nominal, .a, 7⟩], false⟩⟩ })).handFreed 1).records = [] := by
  decide +kernel

/-- O40: RETIRE of a bound record whose WRITE is queued, with position 5 waiting for its slot; of a record held through
re-identification, its IDENT turn in progress; and of an orphaned record whose orphan claim is on its way. -/
theorem test_retire :
    (let t := (waitingBench.updPosition 5 (fun x =>
        { x with identity := some ⟨serial1.map (· + 1), 0x0C31, 1, some ⟨[⟨.nominal, .a, 7⟩], false⟩⟩ }))
     let u := (({ t with records := [rec1 .writePending] } : State).queueItem 3 (.write none)).retire (rec1 .writePending)
     (u.position 3).state = .spent ∧ (u.position 3).bound = none ∧ (u.position 3).item = none ∧ u.tag 1 = 1#8 ∧
     (u.position 5).bound = some ⟨1, 1#8⟩ ∧ u.records.map (·.serial) = [serial1.map (· + 1)] ∧
     u.profileSlot 1 = some ⟨pf1, 1⟩) ∧
    (let u := (awaiting .ident 0 ((bench (rec1 .passed)).updPosition 3 (fun x =>
        { x with state := .identifying, phase := some .ident, held := true }))).retire (rec1 .passed)
     (u.position 3).state = .spent ∧ (u.position 3).held = false ∧ (u.position 3).item = none ∧
     (u.lane 1).state = .idle ∧ u.records = []) ∧
    (let u := (leaving (rec1 .writePending) none []).retire { rec1 .writePending with position := none }
     u.records = [] ∧ (u.position 3).state = .empty ∧ u.inFlight = [.orphan 3 h1 none]) := by decide +kernel

/-! ### Seals, positions -/

theorem test_hyp_seal : (bench (rec1 .passed)).reachable (rec1 .passed) = true ∧ (rec1 .passed).flags.any = false ∧
    (bench (rec1 .passed)).seals.remaining = 100 ∧ State.reset.seals.remaining = 0 := by decide

theorem test_hyp_positions : (isPosition 48 = true ∧ isPosition 49 = false ∧ isPosition 0 = false) ∧
    (((bench (rec1 .passed)).updPosition 3 (fun x => { x with raw := false, debounce := some 0 })).position 3).debounce ≠ none ∧
    ((bench (rec1 .passed)).position 3).state = .bound ∧ (State.reset.position 1).debounce = none := by decide

/-- O44: the removal of a bound position whose COMMIT was sent, its lane awaiting the reply and its comparator armed. -/
def goneBench : State :=
  ((awaiting (.write (some { transfer .commit with commitSent := true })) 0 (bench (rec1 .writing))).updCmp 3
    (fun c => { c with state := .armed })).updPosition 3 (fun x => { x with raw := false, debounce := some 0 })

/-- O44: the removal of goneBench's position 3; the phase of a write by its item, and by its outcome on the way. -/
theorem test_removal :
    goneBench.writePhase 3 = some .commitSent ∧
    (goneBench.debounced 3).inFlight = [.finishing 3, .orphan 3 h1 (some .commitSent)] ∧
    ((goneBench.debounced 3).lane 1).state = .idle ∧ ((goneBench.debounced 3).position 3).bound = none ∧
    (goneBench.debounced 3).recordAt 1 = some { rec1 .writing with position := none } ∧
    ((goneBench.debounced 3).position 3).state = .empty ∧
    (awaiting (.write (some (transfer .stage))) 0 (bench (rec1 .writing))).writePhase 3 = some .noCommitSent ∧
    (awaiting (.write none) 0 (bench (rec1 .writing))).writePhase 3 = some .noCommitSent ∧
    (sent (.commitMatch 3 h1) (bench (rec1 .writing))).writePhase 3 = some .commitSent ∧
    (sent (.stageFailed 3 h1) (bench (rec1 .writing))).writePhase 3 = some .noCommitSent ∧
    (bench (rec1 .writing)).writePhase 3 = none := by decide +kernel

theorem test_hyp_retry : (((bench (rec1 .passed)).updPosition 48 (fun x => { x with state := .fault })).position 48).state =
    .fault := by decide

/-- Position 3 identifies again under a held binding. -/
def heldBench : State :=
  (bench (rec1 .measuring)).updPosition 3 (fun x => { x with state := .identifying, phase := some .ident, held := true })

/-- O45: a reply that does not confirm the held binding orphans the record and is decided as at a free position. O47: an
identification that fails under a held binding. -/
theorem test_identification :
    (bench (rec1 .passed)).codeOfType 0x0C31 = some 1 ∧
    ((bench (rec1 .passed)).position 4).held = false ∧ (bench (rec1 .passed)).codeOfType 0x0C32 = none ∧
    (bench (rec1 .passed)).confirms ⟨serial1, 0x0C31, 1, none⟩ (rec1 .passed) = true ∧
    (heldBench.position 3).held = true ∧ (heldBench.position 3).bound = some h1 ∧
    heldBench.confirms ⟨serial1.map (· + 1), 0x0C31, 1, none⟩ (rec1 .measuring) = false ∧
    (heldBench.identReplied 3 ⟨serial1.map (· + 1), 0x0C31, 1, none⟩).recordAt 1 =
      some { rec1 .measuring with position := none } ∧
    ((heldBench.identReplied 3 ⟨serial1.map (· + 1), 0x0C31, 1, none⟩).position 3).phase = some .image ∧
    ((heldBench.identReplied 3 ⟨serial1, 0x0C31, 1, none⟩).position 3).state = .bound ∧
    (((awaiting .ident 3 heldBench).replyTimeout 1).position 3).state = .fault ∧
    (((awaiting .ident 3 heldBench).replyTimeout 1).position 3).bound = none ∧
    ((awaiting .ident 3 heldBench).replyTimeout 1).recordAt 1 = some { rec1 .measuring with position := none } := by decide +kernel

/-! ### Lane turns -/

/-- O47: turns that await a reply. O48, O49: each reply kind reads back, answers the turn of position 3 under mark 7, and
lies in its range. O48: a frame whose check is wrong, replies that the turn does not accept, and one outside its range. -/
theorem test_hyp_turns_and_replies :
    ((awaiting .ident 2 (bench (rec1 .measuring))).lane 1).state = .awaitReply 3 ∧
    ((awaiting .ident 2 (bench (rec1 .measuring))).position 3).item = some ⟨.ident, false, true, 2⟩ ∧
    (bench (rec1 .measuring)).port.bench.retryLimit = 3 ∧ (requestingBench.settle.lane 1).state = .granted 3 ∧
    (transfer .stage).phase = .stage ∧ (transfer .commit).phase = .commit ∧
    readFrame (frame 3 kCommitted 7#8 [0x34, 0x12]) = some ⟨3, 7#8, .committed 0x1234#16⟩ ∧
    readFrame (frame 3 kStaged 7#8 [1]) = some ⟨3, 7#8, .staged 1⟩ ∧
    readFrame (frame 3 kLocked 7#8 [0x34, 0x12]) = some ⟨3, 7#8, .locked 0x1234#16⟩ ∧
    readFrame (frame 3 kRefused 7#8 []) = some ⟨3, 7#8, .refused⟩ ∧
    readFrame (frame 3 kImageWords 7#8 [0, 1, 0x33, 7, 0, 0]) = some ⟨3, 7#8, .imageWords 0 1 [0x00000733#32]⟩ ∧
    readFrame (frame 3 kIdentReply 7#8 ([7] ++ serial1 ++ [0x31, 0x0C, 1])) =
      some ⟨3, 7#8, .identReply serial1 0x0C31 1⟩ ∧
    readFrame [3, 0x87, 7, 0, 0] = none ∧ [3#8, 0x87, 7, 0, 0].drop 3 ≠ leBytes 2 (check [3, 0x87, 7]).toNat ∧
    Work.ident.accepts .refused = false ∧ (Work.write (some (transfer .stage))).accepts (.committed 0x1234#16) = false ∧
    (Work.write (some (transfer .commit))).accepts (.staged 1) = false ∧
    (Work.write (some (transfer .stage))).inRange 1 (.staged 2) = false ∧ probeAddress 3 = 3 := by decide +kernel

theorem test_hyp_image_complete : ((((bench (rec1 .measuring)).updPosition 3 (fun x =>
    { x with identity := some ⟨serial1, 0x0C31, 1, none⟩ })).position 3).wordCount = 1) ∧ 0 + min 8 (1 - 0) = 1 ∧
    0 + min 8 (9 - 0) ≠ 9 := by decide

/-! ### Claims -/

theorem test_hyp_claims (s : State) :
    (sent (.creation 5 ⟨serial1, 0x0C31, 1, none⟩ ⟨[], false⟩) s).Claims (ofPosition 5)
      (.creation 5 ⟨serial1, 0x0C31, 1, none⟩ ⟨[], false⟩) ∧
    (sent (.rebind 3 h1) s).Claims (ofPosition 3) (.rebind 3 h1) ∧
    (sent (.orphan 3 h1 none) s).Claims (ofPosition 3) (.orphan 3 h1 none) ∧
    (sent (.flag 3 h1 .glitch) s).Claims (ofComparator 3) (.flag 3 h1 .glitch) ∧
    (sent (.result 3 h1 1 ⟨.done, some 0, 2, false⟩) s).Claims (ofComparator 3) (.result 3 h1 1 ⟨.done, some 0, 2, false⟩) ∧
    (sent (.writeStart 3 h1) s).Claims (ofLaneWork 3) (.writeStart 3 h1) ∧
    (sent (.sealStart 3 h1) s).Claims (ofLaneWork 3) (.sealStart 3 h1) ∧
    (sent (.commitMatch 3 h1) s).Claims (ofLaneWork 3) (.commitMatch 3 h1) ∧
    (sent (.stageFailed 3 h1) s).Claims (ofLaneWork 3) (.stageFailed 3 h1) ∧
    (sent (.commitMismatch 3 h1) s).Claims (ofLaneWork 3) (.commitMismatch 3 h1) ∧
    (sent (.commitUnknown 3 h1) s).Claims (ofLaneWork 3) (.commitUnknown 3 h1) ∧
    (sent (.locked 3 h1 0#16 1#16) s).Claims (ofLaneWork 3) (.locked 3 h1 0#16 1#16) ∧
    (sent (.refused 3 h1) s).Claims (ofLaneWork 3) (.refused 3 h1) ∧
    (sent (.noReply 3 h1) s).Claims (ofLaneWork 3) (.noReply 3 h1) := by
  refine ⟨?_, ?_, ?_, ?_, ?_, ?_, ?_, ?_, ?_, ?_, ?_, ?_, ?_, ?_⟩ <;> simp [State.Claims, sent, ofPosition, ofComparator, ofLaneWork]

/-- The handle resolves to the record in any of its states, bound to position 3; another tag does not. -/
theorem test_hyp_named : (bench (rec1 .writing)).named h1 = some (rec1 .writing) ∧
    (bench { rec1 .sealing with sealNumber := some 40001 }).named h1 = some { rec1 .sealing with sealNumber := some 40001 } ∧
    (bench { rec1 .writePending with position := none }).named h1 = some { rec1 .writePending with position := none } ∧
    (bench (rec1 .writing)).named ⟨1, 1#8⟩ = none := by decide +kernel

/-- R122: the bounds at tolerance 1,000 (half 500) and an adjustable limit of 100,000. R78: the tolerance of each class, at
the first point of [PLAN:APPLY:EX]. -/
theorem test_hyp_verdicts :
    [0, 1, 2, 3].map ({ point .adjust with tolerances := [400, 1000, 2000, 4000] } : Point).toleranceOf =
      [400, 1000, 2000, 4000] ∧
    (point .adjust).toleranceOf 0 = 1000 ∧ adjustVerdict pf1 1000 0 500 = .pass ∧
    adjustVerdict pf1 1000 0 501 = .adjusted ∧ adjustVerdict pf1 1000 0 100000 = .adjusted ∧
    adjustVerdict pf1 1000 3 100000 = .adjustLimit ∧ adjustVerdict pf1 1000 3 100001 = .outOfRange ∧
    checkVerdict 1000 (-1000) = .pass ∧ checkVerdict 1000 (-1001) = .fail := by decide

theorem test_hyp_correction : (⟨.nominal, .a, 5, 5⟩ : Trim).under (point .adjust) pf1 = true ∧
    (⟨.nominal, .b, 5, 5⟩ : Trim).under (point .adjust) pf1 = false := by decide

/-- O53: pf1's trim of 8 bits clamps at 127; the bands of a current at the bounds of two and three bands. O54: a void
grant. -/
theorem test_clamp_and_void_grant :
    trimWidth .nominal .a pf1.layout = some 8 ∧
    ((rec1 .measuring).adjust (point .adjust) pf1 (-3000)).trims = [⟨.nominal, .a, 5, 127⟩] ∧
    ((rec1 .measuring).adjust (point .adjust) pf1 (-3000)).flags.trimLimit = true ∧
    ((rec1 .measuring).adjust (point .adjust) pf1 (-2440)).flags.trimLimit = false ∧
    { pf1 with bandCount := 2, t1 := 500 }.bandOf 499 = .low ∧
    { pf1 with bandCount := 2, t1 := 500 }.bandOf 500 = .nominal ∧
    { pf1 with bandCount := 3, t1 := 500, t2 := 900 }.bandOf 899 = .nominal ∧
    { pf1 with bandCount := 3, t1 := 500, t2 := 900 }.bandOf 900 = .high ∧
    (((awaiting (.write none) 0 (bench (rec1 .measuring))).voidGrant 3).lane 1).state = .idle ∧
    (((awaiting (.write none) 0 (bench (rec1 .measuring))).voidGrant 3).position 3).item = none := by decide +kernel

/-! ### Pulses -/

/-- Position 3's comparator COUNTING with an edge under test. -/
def counting (count windows : Nat) : Comparator :=
  { state := .counting, handle := some h1, index := some 1
    params := some ⟨2, 2, .rising, 2000, .stall, 1000, 1000000⟩, edge := some ⟨2500#32, 100⟩, start := some 500#32
    count := count, windows := windows, acc := 0 }

theorem test_hyp_pulses : (((bench (rec1 .measuring)).updCmp 3 (fun _ => counting 1 1)).position 3).cmp = counting 1 1 ∧
    2099 - 100 < 2000 ∧ 2000 ≤ 2100 - 100 ∧ (2500#32 - 500#32).toNat ≠ 0 := by decide

/-- O57: the advance that arrives at the timeout of 1,000 ms, the one before it, and an edge taken first. R113: the last
window of two, 2,000 reference pulses for 2 meter pulses at Kref 1,000,000, is 0 ppm. R109: a window of no pulses. -/
theorem test_windows_and_watchdog :
    (running { bench (rec1 .measuring) with
      ref := { State.reset.ref with watchdog := 999 } }).watchdogTimeout.inFlight = [.refLoss] ∧
    (running { bench (rec1 .measuring) with
      ref := { State.reset.ref with watchdog := 998 } }).watchdogTimeout.inFlight = [] ∧
    ({ running { bench (rec1 .measuring) with ref := { State.reset.ref with watchdog := 999 } } with
      ref := { State.reset.ref with watchdog := 999 }.edge }).watchdogTimeout.inFlight = [] ∧
    testEnd 3 (counting 1 1) =
    ⟨{ counting 1 1 with state := .done, edge := none, count := 2, windows := 2 },
      [.result 3 h1 1 ⟨.done, some 0, 2, false⟩, .finishing 3]⟩ ∧
    testEnd 3 { counting 1 1 with start := some 2500#32 } =
    ⟨{ counting 1 1 with start := some 2500#32, state := .done, edge := none, count := 2 },
      [.result 3 h1 1 ⟨.refLost, none, 0, false⟩, .finishing 3]⟩ := by decide +kernel

end Sys2Proof.Tests
end

section
/-! Proof of O25: what FIND and LIST answer (R23, R24). -/

namespace Sys2Proof.Machine

/-! ### The arguments as the requests carry them -/

/-- R214: a one-byte field at the front is the number its byte spells. -/
@[simp] theorem uField_zero_cons (b : Byte) (bs : List Byte) : uField (b :: bs) 0 1 = b.toNat := by
  simp [uField, leNat]

/-- R214: a one-byte field behind the first byte is the number the second byte spells. -/
@[simp] theorem uField_one_cons_cons (a b : Byte) (bs : List Byte) : uField (a :: b :: bs) 1 1 = b.toNat := by
  simp [uField, leNat]

/-- R23, R58: the two bounds on a serial's length and the one on its characters. -/
theorem serialOk_iff {cs : List Byte} :
    serialOk cs = true ↔ 4 ≤ cs.length ∧ cs.length ≤ 20 ∧ cs.all serialChar = true := by
  simp [serialOk, and_assoc]

/-- R214: the argument formed from a serial in range reads back as that serial. -/
theorem serialArg_serialBytes {serial : List Byte} (hok : serialOk serial = true) :
    serialArg (serialBytes (some serial)) = some serial := by
  obtain ⟨-, hle, -⟩ := serialOk_iff.mp hok
  have hn : (BitVec.ofNat 8 serial.length).toNat = serial.length := by
    rw [BitVec.toNat_ofNat]; omega
  simp [serialArg, serialBytes, padTo, hn, hle, hok]

/-- R23: an argument whose length or a character is out of range holds no serial. -/
theorem serialArg_eq_none {args : List Byte}
    (hbad : uField args 0 1 < 4 ∨ 20 < uField args 0 1 ∨ serialOk ((args.drop 1).take (uField args 0 1)) = false) :
    serialArg args = none := by
  refine if_neg fun ⟨hle, hok, hlen⟩ => ?_
  obtain ⟨h4, -, -⟩ := serialOk_iff.mp hok
  rcases hbad with hlt | hgt | hno
  · omega
  · omega
  · rw [hno] at hok; cases hok

/-- R214: the codes from 3 on are no LIST filter. -/
theorem listFilterOfCode_eq_none {n : Nat} (h : 3 ≤ n) : listFilterOfCode n = none := by
  obtain ⟨k, rfl⟩ := Nat.exists_eq_add_of_le' h
  rfl

/-! ### The serial index (R6) -/

/-- R6: in a sound table the index answers a held serial with the one record that holds it. -/
theorem State.TableSound.recordOf_serial {s : State} {r : Record} (hs : s.TableSound) (hr : r ∈ s.records) :
    s.recordOf r.serial = some r := by
  obtain ⟨-, hserials, -⟩ := hs
  have hsome : (s.recordOf r.serial).isSome = true := List.find?_isSome.mpr ⟨r, hr, beq_self_eq_true _⟩
  obtain ⟨x, hx⟩ := Option.isSome_iff_exists.mp hsome
  have hserial : x.serial = r.serial := by simpa using List.find?_some hx
  rw [hx, List.inj_on_of_nodup_map hserials (List.mem_of_find?_eq_some hx) hr hserial]

/-- R6: the index answers nothing for a serial that no record holds. -/
theorem State.recordOf_eq_none {s : State} {serial : List Byte} (h : ∀ r ∈ s.records, r.serial ≠ serial) :
    s.recordOf serial = none :=
  List.find?_eq_none.mpr fun r hr => by simpa using h r hr

/-! ### What the Record Table makes of FIND and LIST -/

/-- R23: FIND with an argument that holds no serial. -/
theorem doFind_badArgument {s : State} {args : List Byte} (ha : serialArg args = none) :
    doFind args s = refuse s .badArgument := by
  simp [doFind, ha]

/-- R23: FIND with a serial that the index does not hold. -/
theorem doFind_noSuch {s : State} {args serial : List Byte} (ha : serialArg args = some serial)
    (hr : s.recordOf serial = none) : doFind args s = refuse s .noSuch := by
  simp [doFind, ha, hr]

/-- R23: FIND with the serial of a record. -/
theorem doFind_found {s : State} {args serial : List Byte} {r : Record} (ha : serialArg args = some serial)
    (hr : s.recordOf serial = some r) : doFind args s = taken s (handleBytes (s.handleOf r)) := by
  simp [doFind, ha, hr]

/-- R24: LIST with a state set that is empty or names no state, or with no filter. -/
theorem doList_badArgument {s : State} {states filter : Byte}
    (hbad : states = 0#8 ∨ 128 ≤ states.toNat ∨ 3 ≤ filter.toNat) :
    doList [states, filter] s = refuse s .badArgument := by
  cases hf : listFilterOfCode filter.toNat with
  | none => simp [doList, hf]
  | some lf =>
    have hstates : states.toNat = 0 ∨ 128 ≤ states.toNat := by
      rcases hbad with rfl | hhigh | hfilter
      · exact .inl rfl
      · exact .inr hhigh
      · rw [listFilterOfCode_eq_none hfilter] at hf; cases hf
    simp [doList, hf, hstates]

/-- R24, R214: the binding filter of LIST by its code byte, as the statement of R24 spells it. -/
def Record.passesFilter (filter : Byte) (r : Record) : Bool :=
  filter == 0#8 || (filter == 1#8 && r.position.isSome) || (filter == 2#8 && r.position.isNone)

/-- R24, R214: each code byte below 3 is a filter, and that filter lists what the code byte says. -/
theorem listFilterOfCode_listed {filter : Byte} (h : filter.toNat < 3) :
    ∃ lf, listFilterOfCode filter.toNat = some lf ∧
      ∀ states (r : Record), r.listed states lf = (states.testBit r.state.code && r.passesFilter filter) := by
  have hcode : filter = 0#8 ∨ filter = 1#8 ∨ filter = 2#8 := by bv_omega
  rcases hcode with rfl | rfl | rfl
  · exact ⟨.all, rfl, fun _ _ => by simp [Record.listed, Record.passesFilter]⟩
  · exact ⟨.boundOnly, rfl, fun _ _ => by simp [Record.listed, Record.passesFilter]⟩
  · exact ⟨.orphanedOnly, rfl, fun _ _ => by simp [Record.listed, Record.passesFilter]⟩

/-- R24: LIST with a state set and a filter in range answers the matching records in the order of the table. -/
theorem doList_listed {s : State} {states filter : Byte} (h0 : states ≠ 0#8) (hstates : states.toNat < 128)
    (hfilter : filter.toNat < 3) :
    let found := s.records.filter (fun r => states.toNat.testBit r.state.code && r.passesFilter filter)
    doList [states, filter] s =
      taken s (u8 found.length ++ found.flatMap (fun r => handleBytes (s.handleOf r))) := by
  obtain ⟨lf, hlf, hlisted⟩ := listFilterOfCode_listed hfilter
  have hin : ¬ (states.toNat = 0 ∨ 128 ≤ states.toNat) := by
    have : states.toNat ≠ 0 := fun h => h0 (BitVec.eq_of_toNat_eq h)
    omega
  simp only [doList, uField_zero_cons, uField_one_cons_cons, hlf, hlisted, if_neg hin]

/-! ### The answers at the port -/

/-- R197: where the block changes no state, taking the request takes its message and places its answer, nothing else. -/
theorem serve_reading {k : RequestKind} {tag : BitVec 16} {args : List Byte} {rest : List Message} {s : State}
    {block : List Byte → State → Served} {c : AnswerCode} {body : List Byte} (ho : s.Offers k tag args rest)
    (hb : block args (s.dequeued rest) = ⟨s.dequeued rest, c, body⟩) :
    serve k block s = (s.dequeued rest).answered tag k c body := by
  rw [serve_offers block ho, hb]

/-- R23: FIND is served by the serial index. -/
theorem exec_find (s : State) : exec .find s = .next (serve .find doFind s) := rfl

/-- R24: LIST is served by the Record Table. -/
theorem exec_list (s : State) : exec .list s = .next (serve .list doList s) := rfl

/-- Settles O25: the block's answer by the case of its arguments (R23, R24), placed by the port. -/
theorem findAndListAnswer : Obligations.FindAndListAnswer := by
  refine ⟨fun s tag rest hs => ⟨?found, ?noSuch, ?badSerial⟩, fun s tag states filter rest ho => ⟨?badList, ?listed⟩⟩
  case found =>
    rintro serial r hok ho hr rfl
    have hindex : (s.dequeued rest).recordOf r.serial = some r := hs.recordOf_serial hr
    rw [exec_find, serve_reading ho (doFind_found (serialArg_serialBytes hok) hindex)]
    rfl
  case noSuch =>
    intro serial hok ho hno
    have hindex : (s.dequeued rest).recordOf serial = none := State.recordOf_eq_none hno
    rw [exec_find, serve_reading ho (doFind_noSuch (serialArg_serialBytes hok) hindex)]
  case badSerial =>
    intro args ho hbad
    rw [exec_find, serve_reading ho (doFind_badArgument (serialArg_eq_none hbad))]
  case badList =>
    intro hbad
    rw [exec_list, serve_reading ho (doList_badArgument hbad)]
  case listed =>
    intro h0 hstates hfilter
    rw [exec_list, serve_reading ho (doList_listed h0 hstates hfilter)]
    rfl

end Sys2Proof.Machine
end

section
/-! Proof of O24: what GET_BENCH reports (R208). -/

namespace Sys2Proof.Machine

/-- R208: the report holds the nine parameters in code order, each in the width of the catalogue (R213). -/
theorem State.benchReport_eq (s : State) :
    s.benchReport =
      leBytes 4 s.ref.kref ++ leBytes 2 s.port.bench.refTimeout ++ leBytes 2 s.port.bench.replyTimeout ++
      leBytes 1 s.port.bench.retryLimit ++ leBytes 1 s.port.bench.burstCap ++ leBytes 2 s.port.bench.debounce ++
      [if s.port.bench.polarity = .activeLow then 0#8 else 1#8] ++
      [if s.port.bench.autoSeal = true then 1#8 else 0#8] ++ leBytes 2 s.port.bench.sealLow := by
  dsimp only [State.benchReport]
  cases s.port.bench.polarity with
  | activeLow => rfl
  | activeHigh => rfl

/-- R208: the report reads no queue of the port, so it is the same once the request has left its queue. -/
theorem State.benchReport_dequeued (s : State) (rest : List Message) : (s.dequeued rest).benchReport = s.benchReport :=
  rfl

/-- R208: GET_BENCH is served from the bench report alone. -/
theorem exec_getBench (s : State) : exec .getBench s = .next (serve .getBench doGetBench s) := rfl

/-- R208: the block answers OK with the bench report and hands back the state it was given. -/
theorem doGetBench_eq (args : List Byte) (s : State) : doGetBench args s = ⟨s, .ok, s.benchReport⟩ := rfl

/-- Settles O24: the block reads the state only, and its report is the nine parameters (R208). -/
theorem getBenchReportsParameters : Obligations.GetBenchReportsParameters := by
  intro s tag args rest ho
  rw [exec_getBench, serve_reading ho (doGetBench_eq args (s.dequeued rest)), State.benchReport_dequeued,
    State.benchReport_eq]

end Sys2Proof.Machine
end

section
/-! Proof of O27: what SET_ATTENTION replaces (R203) and what a poll of the attention pipe reports (R205). -/

namespace Sys2Proof.Machine

/-! ### SET_ATTENTION (R203) -/

/-- R203: an always-report of 0 or 1 is taken: both fields get their new values, and the answer shows the pending set
and the new enable set. -/
theorem doSetAttention_taken {s : State} {enable always : Byte} (h : always.toNat ≤ 1) :
    doSetAttention [enable, always] s =
      taken { s with port := { s.port with enableSet := enable, alwaysReport := decide (always = 1#8) } }
        [s.port.pendingSet, enable] := by
  have hon : always.toNat = 1 ↔ always = 1#8 := BitVec.toNat_inj (y := 1#8)
  simp [doSetAttention, Nat.not_lt.mpr h, hon]

/-- R203: another always-report is refused. -/
theorem doSetAttention_badArgument {s : State} {enable always : Byte} (h : 1 < always.toNat) :
    doSetAttention [enable, always] s = refuse s .badArgument := by
  simp [doSetAttention, h]

/-- R203: SET_ATTENTION is served by the port itself. -/
theorem exec_setAttention (s : State) : exec .setAttention s = .next (serve .setAttention doSetAttention s) := rfl

/-! ### The attention pipe (R205) -/

/-- R205, first row: where an enabled condition is pending, the report holds those conditions. -/
theorem attentionReport_of_seen {pending enabled : Byte} (always : Bool) (h : pending &&& enabled ≠ 0#8) :
    attentionReport pending enabled always = .data [pending &&& enabled] := if_pos h

/-- R205, second and third row: where none is, always-report decides between the empty report and a NAK. -/
theorem attentionReport_of_unseen {pending enabled : Byte} (always : Bool) (h : pending &&& enabled = 0#8) :
    attentionReport pending enabled always = if always = true then .data [0#8] else .nak := if_neg (not_not_intro h)

/-- R205: a poll puts the report on the attention line and touches no other field. -/
theorem exec_attentionPoll (s : State) :
    exec .attentionPoll s = .next { s with port := { s.port with
      attentionWire := attentionReport s.port.pendingSet s.port.enableSet s.port.alwaysReport } } := rfl

/-- Settles O27: SET_ATTENTION by the range of always-report (R203), the poll by the table of R205. -/
theorem attentionIsSetAndReported : Obligations.AttentionIsSetAndReported := by
  refine ⟨fun s tag enable always rest ho => ⟨?replaced, ?badArgument⟩, ?poll⟩
  case replaced =>
    intro h
    rw [exec_setAttention, serve_offers doSetAttention ho, doSetAttention_taken h]
    rfl
  case badArgument =>
    intro h
    rw [exec_setAttention, serve_reading ho (doSetAttention_badArgument h)]
  case poll =>
    intro s seen report
    have hreport : attentionReport s.port.pendingSet s.port.enableSet s.port.alwaysReport = report := by
      by_cases h : seen = 0#8
      · rw [attentionReport_of_unseen _ h]
        exact (if_neg (not_not_intro h)).symm
      · rw [attentionReport_of_seen _ h]
        exact (if_pos h).symm
    rw [exec_attentionPoll, hreport]

end Sys2Proof.Machine
end

section
/-! What a step can do, said once: the effect of every command and of every request, with the conditions under which it
comes about. The proofs of the invariants split into these cases. -/

namespace Sys2Proof.Machine

/-! ### Requests -/

/-- The block that serves a request kind. -/
def RequestKind.block : RequestKind → List Byte → State → Served
  | .getStatus => doGetStatus | .setBench => doSetBench | .getBench => doGetBench | .restart => doRestart
  | .setAttention => doSetAttention | .ackAttention => doAckAttention | .loadProfile => doLoadProfile
  | .dropProfile => doDropProfile | .getProfile => doGetProfile | .saveProfiles => doSaveProfiles
  | .setPoint => doSetPoint | .clearPoint => doClearPoint | .getPlan => doGetPlan | .startPoint => doStartPoint
  | .endPoint => doEndPoint | .abortPoint => doAbortPoint | .find => doFind | .list => doList
  | .readRecord => doReadRecord | .amendTrim => doAmendTrim | .reject => doReject | .retire => doRetire
  | .clearFlags => doClearFlags | .seal => doSeal | .sealAll => doSealAll | .getPositions => doGetPositions
  | .retryPosition => doRetryPosition | .setSealRange => doSetSealRange | .getSealRange => doGetSealRange

/-- R197: a request command is the serving of its kind by its block. -/
theorem exec_command (k : RequestKind) (s : State) : exec k.command s = .next (serve k k.block s) := by
  cases k <;> rfl

/-- R207: the assignments of a SET_BENCH that passes its checks. -/
structure BenchSound (s : State) (as : List (Nat × Nat)) : Prop where
  inRange : ∀ a ∈ as, benchInRange a.1 a.2 = true
  kref : s.seq.running = none ∨ ∀ a ∈ as, a.1 = 1 → a.2 = s.ref.kref

/-- What a request makes of the state it is taken in, and the conditions of each effect. -/
inductive RequestEffect (s : State) : State → Prop
  /-- A refusal, or a request that reads. -/
  | nothing : RequestEffect s s
  | setBench (as) (h : BenchSound s as) :
      RequestEffect s ((as.foldl (fun t a => t.assign a) s).benchEffects s.port.bench)
  | port (q : Port) (hq : q.requests = s.port.requests ∧ q.answers = s.port.answers ∧ q.bench = s.port.bench) :
      RequestEffect s { s with port := q }
  | loadProfile (code pf) (hs : s.store.activity ≠ .saving) (hc : within 16 code = true)
      (hp : ∀ ps, s.profileSlot code = some ps → ps.pins = 0) : RequestEffect s (s.installProfile code pf)
  | dropProfile (code ps) (hs : s.store.activity ≠ .saving) (hc : within 16 code = true)
      (hp : s.profileSlot code = some ps) (h0 : ps.pins = 0) :
      RequestEffect s { s with profiles := setPlace s.profiles code none }
  | saveProfiles : RequestEffect s { s with store := { s.store with activity := .saving, slot := 1 } }
  | editPlan (k pt) (hr : s.seq.running = none) : RequestEffect s (s.editPlan k pt)
  | startPoint (k pt) (hr : s.seq.running = none) : RequestEffect s (s.startPoint k pt)
  | endPoint (k) (hr : s.seq.running = some k) : RequestEffect s (s.endPoint k .ended closingResult).settle
  | abortPoint (k) (hr : s.seq.running = some k) : RequestEffect s (s.abortPoint k).settle
  | amendTrim (h r t v) (hh : s.resolve h = .ok r) (hst : r.state = .measuring ∨ r.state = .passed)
      (hm : s.measuringNow r = false) : RequestEffect s (s.amendTrim h.slot t v r)
  | reject (h r c) (hh : s.resolve h = .ok r)
      (hst : r.state = .measuring ∨ r.state = .passed ∨ r.state = .writePending ∨ r.state = .rejected) :
      RequestEffect s (s.reject h.slot c)
  | retire (h r) (hh : s.resolve h = .ok r) (hst : r.state ≠ .writing ∧ r.state ≠ .sealing)
      (hm : s.measuringNow r = false) : RequestEffect s (s.retire r)
  | clearFlags (h r) (hh : s.resolve h = .ok r) (hst : r.state ≠ .sealed) : RequestEffect s (s.clearFlags h.slot r)
  | enterSealing (h r) (hh : s.resolve h = .ok r) (hst : r.state = .passed) (hn : s.seals.remaining ≠ 0) :
      RequestEffect s (s.enterSealing h.slot).settle
  | sealAll (hn : s.seals.remaining ≠ 0) :
      RequestEffect s (s.sealable.foldl (fun t r => t.enterSealing r.slot) s).settle
  | retryPosition (p) (hp : isPosition p = true)
      (hst : (s.position p).state = .fault ∨ (s.position p).state = .conflict ∨ (s.position p).state = .unknownType) :
      RequestEffect s (s.enterIdentifying p).settle
  | setSealRange (a b low) (h1 : within Config.lastSeal a = true) (h2 : within Config.lastSeal b = true) (hab : a ≤ b)
      (hl : s.seals.lastIssued < a) :
      RequestEffect s (({ s with seals := s.seals.withRange a b } : State).raiseIf low .sealLow)

theorem RequestEffect.of_eq {s t u : State} (h : RequestEffect s u) (e : t = u) : RequestEffect s t := e ▸ h

/-- R3: what a request on a record does is settled by what it does where the handle resolves. -/
theorem withRecord_effect {s : State} {h : Handle} {f : Record → Served}
    (hf : ∀ r, s.resolve h = .ok r → RequestEffect s (f r).state) : RequestEffect s (withRecord h s f).state := by
  cases hr : s.resolve h with
  | error c => rw [withRecord_error f hr]; exact .nothing
  | ok r => rw [withRecord_ok f hr]; exact hf r hr

section
variable (args : List Byte) (s : State)

/-- R201: a refusal changes nothing. -/
theorem refuse_effect (c : AnswerCode) : RequestEffect s (refuse s c).state := .nothing

/-- R201: a taken request leaves its effect. -/
theorem taken_effect {s u : State} {body : List Byte} (h : RequestEffect s u) : RequestEffect s (taken u body).state := h

theorem doSetBench_effect : RequestEffect s (doSetBench args s).state := by
  unfold doSetBench
  dsimp only
  iterate 3 (split; · exact refuse_effect s _)
  split
  · exact refuse_effect s _
  rename_i hrange
  split
  · exact refuse_effect s _
  rename_i hbusy
  refine taken_effect (.setBench _ ⟨by simpa using hrange, ?_⟩)
  cases hr : s.seq.running with
  | none => exact .inl rfl
  | some k =>
    simp only [hr, Option.isSome_some, true_and, List.any_eq_true, decide_eq_true_eq, not_exists, not_and] at hbusy
    exact .inr fun a ha h1 => not_not.mp (hbusy a ha h1)

theorem doSetAttention_effect : RequestEffect s (doSetAttention args s).state := by
  unfold doSetAttention
  dsimp only
  split
  · exact refuse_effect s _
  · exact taken_effect (.port _ ⟨rfl, rfl, rfl⟩)

theorem doLoadProfile_effect : RequestEffect s (doLoadProfile args s).state := by
  unfold doLoadProfile
  dsimp only
  split
  · exact refuse_effect s _
  rename_i hsave
  split
  · exact refuse_effect s _
  rename_i hcode
  split
  · exact .nothing
  rename_i pf _
  split
  · exact refuse_effect s _
  rename_i hpins
  split
  · exact refuse_effect s _
  refine taken_effect (.loadProfile _ pf hsave (not_not.mp hcode) fun ps hps => ?_)
  simpa [hps] using hpins

theorem doDropProfile_effect : RequestEffect s (doDropProfile args s).state := by
  unfold doDropProfile
  dsimp only
  split
  · exact refuse_effect s _
  rename_i hsave
  split
  · exact refuse_effect s _
  rename_i hcode
  split
  · exact refuse_effect s _
  rename_i ps hps
  split
  · exact refuse_effect s _
  exact taken_effect (.dropProfile _ ps hsave (not_not.mp hcode) hps (by omega))

theorem doSaveProfiles_effect : RequestEffect s (doSaveProfiles args s).state := by
  unfold doSaveProfiles
  split
  · exact refuse_effect s _
  · exact .saveProfiles

theorem doSetPoint_effect : RequestEffect s (doSetPoint args s).state := by
  unfold doSetPoint
  dsimp only
  split
  · exact refuse_effect s _
  split
  · exact refuse_effect s _
  split
  · exact refuse_effect s _
  rename_i hr
  exact taken_effect (.editPlan _ _ (by simpa using hr))

theorem doClearPoint_effect : RequestEffect s (doClearPoint args s).state := by
  unfold doClearPoint
  dsimp only
  split
  · exact refuse_effect s _
  split
  · exact refuse_effect s _
  rename_i hr
  split
  · exact refuse_effect s _
  exact taken_effect (.editPlan _ _ (by simpa using hr))

theorem doStartPoint_effect : RequestEffect s (doStartPoint args s).state := by
  unfold doStartPoint
  dsimp only
  split
  · exact refuse_effect s _
  split
  · exact refuse_effect s _
  rename_i hr
  split
  · exact refuse_effect s _
  split
  · exact refuse_effect s _
  exact taken_effect (.startPoint _ _ (by simpa using hr))

theorem doEndPoint_effect : RequestEffect s (doEndPoint args s).state := by
  unfold doEndPoint
  split
  · exact refuse_effect s _
  · exact taken_effect (.endPoint _ ‹_›)

theorem doAbortPoint_effect : RequestEffect s (doAbortPoint args s).state := by
  unfold doAbortPoint
  split
  · exact refuse_effect s _
  · exact taken_effect (.abortPoint _ ‹_›)

theorem doAmendTrim_effect : RequestEffect s (doAmendTrim args s).state := by
  unfold doAmendTrim
  refine withRecord_effect fun r hr => ?_
  split
  · exact refuse_effect s _
  rename_i t _
  cases hst : r.state
  case measuring | passed =>
    cases hm : s.measuringNow r with
    | true => exact refuse_effect s _
    | false => exact taken_effect (.amendTrim _ r t _ hr (by simp [hst]) hm)
  all_goals exact refuse_effect s _

theorem doReject_effect : RequestEffect s (doReject args s).state := by
  unfold doReject
  refine withRecord_effect fun r hr => ?_
  cases hst : r.state
  case measuring | passed | writePending | rejected => exact taken_effect (.reject _ r _ hr (by simp [hst]))
  all_goals exact refuse_effect s _

theorem doRetire_effect : RequestEffect s (doRetire args s).state := by
  refine withRecord_effect fun r hr => ?_
  split
  · exact refuse_effect s _
  rename_i hb
  simp only [not_or, Bool.not_eq_true] at hb
  exact taken_effect (.retire _ r hr ⟨hb.1, hb.2.1⟩ hb.2.2)

theorem doClearFlags_effect : RequestEffect s (doClearFlags args s).state := by
  refine withRecord_effect fun r hr => ?_
  split
  · exact refuse_effect s _
  · exact taken_effect (.clearFlags _ r hr ‹_›)

/-- R183: a record that checks 2 to 5 let pass is PASSED. -/
theorem passed_of_sealRefusal {s : State} {r : Record} (h : s.sealRefusal r = none) : r.state = .passed := by
  by_contra hne
  simp [State.sealRefusal, hne] at h

theorem doSeal_effect : RequestEffect s (doSeal args s).state := by
  refine withRecord_effect fun r hr => ?_
  split
  · exact refuse_effect s _
  split
  · exact refuse_effect s _
  rename_i href
  split
  · exact refuse_effect s _
  exact taken_effect (.enterSealing _ r hr (passed_of_sealRefusal href) ‹_›)

theorem doSealAll_effect : RequestEffect s (doSealAll args s).state := by
  unfold doSealAll
  split
  · exact refuse_effect s _
  · exact taken_effect (.sealAll ‹_›)

theorem doRetryPosition_effect : RequestEffect s (doRetryPosition args s).state := by
  unfold doRetryPosition
  dsimp only
  split
  · exact refuse_effect s _
  rename_i hp
  cases hst : (s.position (uField args 0 1)).state
  case fault | conflict | unknownType => exact taken_effect (.retryPosition _ (not_not.mp hp) (by simp [hst]))
  all_goals exact refuse_effect s _

theorem doSetSealRange_effect : RequestEffect s (doSetSealRange args s).state := by
  unfold doSetSealRange
  dsimp only
  split
  · exact refuse_effect s _
  rename_i hw
  split
  · exact refuse_effect s _
  split
  · exact refuse_effect s _
  obtain ⟨h1, h2⟩ := not_not.mp hw
  exact taken_effect (.setSealRange _ _ _ h1 h2 (by omega) (by omega))

theorem doGetProfile_effect : RequestEffect s (doGetProfile args s).state := by
  unfold doGetProfile
  dsimp only
  split
  · exact refuse_effect s _
  split
  · exact refuse_effect s _
  · exact .nothing

theorem doFind_effect : RequestEffect s (doFind args s).state := by
  unfold doFind
  split
  · exact refuse_effect s _
  split
  · exact refuse_effect s _
  · exact .nothing

theorem doList_effect : RequestEffect s (doList args s).state := by
  unfold doList
  dsimp only
  split
  · exact refuse_effect s _
  split
  · exact refuse_effect s _
  · exact .nothing

/-- R197: what each of the 29 requests makes of the state. -/
theorem block_effect (k : RequestKind) : RequestEffect s (k.block args s).state := by
  cases k
  case getStatus | getBench | getPlan | getPositions | getSealRange => exact .nothing
  case restart | ackAttention => exact .port _ ⟨rfl, rfl, rfl⟩
  case setBench => exact doSetBench_effect args s
  case setAttention => exact doSetAttention_effect args s
  case loadProfile => exact doLoadProfile_effect args s
  case dropProfile => exact doDropProfile_effect args s
  case saveProfiles => exact doSaveProfiles_effect args s
  case setPoint => exact doSetPoint_effect args s
  case clearPoint => exact doClearPoint_effect args s
  case startPoint => exact doStartPoint_effect args s
  case endPoint => exact doEndPoint_effect args s
  case abortPoint => exact doAbortPoint_effect args s
  case amendTrim => exact doAmendTrim_effect args s
  case reject => exact doReject_effect args s
  case retire => exact doRetire_effect args s
  case clearFlags => exact doClearFlags_effect args s
  case sealAll => exact doSealAll_effect args s
  case retryPosition => exact doRetryPosition_effect args s
  case setSealRange => exact doSetSealRange_effect args s
  case getProfile => exact doGetProfile_effect args s
  case find => exact doFind_effect args s
  case list => exact doList_effect args s
  case readRecord => exact withRecord_effect fun _ _ => .nothing
  -- SEAL comes last: the name of its case is a word of Lean's own.
  case _ => exact doSeal_effect args s
end

/-! ### Commands -/

/-- What a command makes of the state: nothing where what it names does not wait or is not due, and otherwise its
meaning, with the claim or the request it takes. -/
inductive Effect (s : State) : Instr → State → Prop
  | nothing (i) : Effect s i s
  | powerOn : Effect s .powerOn s.poweredOn
  | warmRestart : Effect s .warmRestart (s.warmRestart .resetLine)
  | loadSlot : Effect s .profileLoadSlot s.loadSlot
  | saveSlot : Effect s .profileSaveSlot s.saveSlot
  | busReset : Effect s .usbBusReset s.busReset
  | acceptMessage (bs) : Effect s (.requestMessageAccepted bs) (s.acceptMessage bs)
  | deliverAnswer : Effect s .answerDelivered s.deliverAnswer
  | pollAttention : Effect s .attentionPoll s.pollAttention
  | malformed (a rest) (hr : s.port.requests.length = rest.length + 1) (ha : s.port.answers.length < Config.queueDepth) :
      Effect s .malformedRequest ((s.dequeued rest).putAnswer a)
  | request (k tag args rest u c body) (ho : s.Offers k tag args rest) (hu : RequestEffect (s.dequeued rest) u) :
      Effect s k.command (u.answered tag k c body)
  | presence (p high) (hp : isPosition p = true) : Effect s (.presenceChange p high) (s.presence p high)
  | debounced (p) (hp : isPosition p = true) : Effect s (.debounceExpiry p) (s.debounced p)
  | sendDone (l) (hl : isLane l = true) : Effect s (.laneSendDone l) (s.sendDone l)
  | receive (l bs) (hl : isLane l = true) : Effect s (.probeFrameReceived l bs) (s.receive l bs)
  | replyTimeout (l) (hl : isLane l = true) : Effect s (.laneReplyTimeout l) (s.replyTimeout l)
  | creation (p d im) (hp : isPosition p = true) (hc : s.Claims (ofPosition p) (.creation p d im)) :
      Effect s (.creationClaim p) ((s.claimTaken (ofPosition p)).creationTaken p (d, im))
  | rebind (p h) (hp : isPosition p = true) (hc : s.Claims (ofPosition p) (.rebind p h)) :
      Effect s (.rebindClaim p) ((s.claimTaken (ofPosition p)).rebindTaken p h)
  | orphan (p h ph) (hp : isPosition p = true) (hc : s.Claims (ofPosition p) (.orphan p h ph)) :
      Effect s (.orphanClaim p) ((s.claimTaken (ofPosition p)).takeOrphan p h ph)
  | result (p h k res) (hp : isPosition p = true) (hc : s.Claims (ofComparator p) (.result p h k res)) :
      Effect s (.resultClaim p) ((s.claimTaken (ofComparator p)).takeResult h k res).settle
  | flag (p h f) (hp : isPosition p = true) (hc : s.Claims (ofComparator p) (.flag p h f)) :
      Effect s (.flagClaim p) ((s.claimTaken (ofComparator p)).takeFlag h f)
  | writeStart (p h) (hp : isPosition p = true) (hc : s.Claims (ofLaneWork p) (.writeStart p h)) :
      Effect s (.writeStartClaim p) ((s.claimTaken (ofLaneWork p)).writeStartTaken p h)
  | sealStart (p h) (hp : isPosition p = true) (hc : s.Claims (ofLaneWork p) (.sealStart p h)) :
      Effect s (.sealStartClaim p) ((s.claimTaken (ofLaneWork p)).sealStartTaken p h)
  | commitMatch (p h) (hp : isPosition p = true) (hc : s.Claims (ofLaneWork p) (.commitMatch p h)) :
      Effect s (.commitMatchOutcome p) ((s.claimTaken (ofLaneWork p)).commitMatched p h)
  | stageFailed (p h) (hp : isPosition p = true) (hc : s.Claims (ofLaneWork p) (.stageFailed p h)) :
      Effect s (.stageFailedOutcome p) ((s.claimTaken (ofLaneWork p)).stageFailedTaken p h)
  | commitFail (p h c) (hp : isPosition p = true) (hc : s.Claims (ofLaneWork p) (.commitMismatch p h) ∧ c = .commitMismatch ∨
      s.Claims (ofLaneWork p) (.commitUnknown p h) ∧ c = .commitUnknown) :
      Effect s (.commitFailOutcome p) ((s.claimTaken (ofLaneWork p)).commitFailed p (h, c))
  | locked (p h a b) (hp : isPosition p = true) (hc : s.Claims (ofLaneWork p) (.locked p h a b)) :
      Effect s (.lockedOutcome p) ((s.claimTaken (ofLaneWork p)).lockedTaken p (h, a, b))
  | refused (p h) (hp : isPosition p = true) (hc : s.Claims (ofLaneWork p) (.refused p h)) :
      Effect s (.refusedOutcome p) ((s.claimTaken (ofLaneWork p)).refusedTaken p h)
  | noReply (p h) (hp : isPosition p = true) (hc : s.Claims (ofLaneWork p) (.noReply p h)) :
      Effect s (.noReplyOutcome p) ((s.claimTaken (ofLaneWork p)).noReplyTaken p h)
  | refEdge : Effect s .refEdge { s with ref := s.ref.edge }
  | watchdogTimeout : Effect s .refWatchdogTimeout s.watchdogTimeout
  | refLoss (hc : s.Claims isRefLoss .refLoss) : Effect s .refLossReport ((s.claimTaken isRefLoss).lossTaken ())
  | timerExpired : Effect s .pointTimerExpiry s.timerExpired
  | finishing (p) (hp : isPosition p = true) (hc : s.Claims (isFinishing p) (.finishing p)) :
      Effect s (.finishingReport p) ((s.claimTaken (isFinishing p)).finishingTaken ())
  | meterActive (p tr time) (hp : isPosition p = true) : Effect s (.meterActiveEdge p tr time) (s.meterActive p tr time)
  | meterOpposite (p tr time) (hp : isPosition p = true) :
      Effect s (.meterOppositeEdge p tr time) (s.meterOpposite p tr time)
  | glitchTestEnd (p) (hp : isPosition p = true) : Effect s (.glitchTestEnd p) (s.glitchTestEnded p)

/-- R197: a served request takes its message, or nothing happens. -/
theorem serve_effect (k : RequestKind) (s : State) : Effect s k.command (serve k k.block s) := by
  by_cases ho : ∃ tag args rest, s.Offers k tag args rest
  · obtain ⟨tag, args, rest, ho⟩ := ho
    rw [serve_offers k.block ho]
    exact .request k tag args rest _ _ _ ho (block_effect args _ k)
  · simp only [not_exists] at ho
    rw [serve_not_offered k.block ho]
    exact .nothing _

/-- R198: a malformed message is taken and answered, or nothing happens. -/
theorem rejectMalformed_effect (s : State) : Effect s .malformedRequest s.rejectMalformed := by
  unfold State.rejectMalformed State.takeMessage
  cases hq : s.port.requests with
  | nil => exact .nothing _
  | cons m rest =>
    cases hm : s.mayTake with
    | false => exact .nothing _
    | true =>
      simp only [State.mayTake, Bool.and_eq_true, decide_eq_true_eq, Bool.not_eq_true'] at hm
      cases ho : openMessage m with
      | malformed tag kind =>
        simp only [if_true, ho]
        exact .malformed _ rest (by rw [hq]; rfl) hm.1
      | request tag k args => simp only [if_true, ho]; exact .nothing _

/-- Taking the first claim of a stream: nothing happens, or it is of the kind wanted and its taker takes it. -/
theorem takeClaim_cases {α : Type} (stream : Claim → Bool) (want : Claim → Option α) (f : α → State → State) (s : State) :
    s.takeClaim stream want f = s ∨ ∃ c a, s.Claims stream c ∧ stream c = true ∧ want c = some a ∧
      s.takeClaim stream want f = f a (s.claimTaken stream) := by
  cases hc : s.inFlight.find? stream with
  | none => exact .inl (takeClaim_none want f hc)
  | some c =>
    cases hw : want c with
    | none => exact .inl (by simp [State.takeClaim, hc, hw])
    | some a => exact .inr ⟨c, a, hc, List.find?_some hc, hw, takeClaim_claims f hc hw⟩

/-- A command of a position that completes names a position of the part. -/
theorem onPosition_eq_next {p : Nat} {s t : State} {f : State → State} (h : onPosition p s f = .next t) :
    isPosition p = true ∧ t = f s := by
  cases hp : isPosition p with
  | false => simp [onPosition, hp] at h
  | true => rw [onPosition_next f hp] at h; exact ⟨rfl, by injection h with h; exact h.symm⟩

/-- A command of a lane that completes names a lane of the part. -/
theorem onLane_eq_next {l : Nat} {s t : State} {f : State → State} (h : onLane l s f = .next t) :
    isLane l = true ∧ t = f s := by
  cases hl : isLane l with
  | false => simp [onLane, hl] at h
  | true => rw [onLane_next f hl] at h; exact ⟨rfl, by injection h with h; exact h.symm⟩

/-- A claim command of a position that completes did nothing, or took the claim. -/
theorem onPosition_takeClaim {α : Type} {p : Nat} {s t : State} {stream : Claim → Bool} {want : Claim → Option α}
    {f : α → State → State} (h : onPosition p s (State.takeClaim stream want f) = .next t) :
    isPosition p = true ∧ (t = s ∨ ∃ c a, s.Claims stream c ∧ stream c = true ∧ want c = some a ∧
      t = f a (s.claimTaken stream)) := by
  obtain ⟨hp, rfl⟩ := onPosition_eq_next h
  exact ⟨hp, takeClaim_cases stream want f s⟩

/-! ### The claim a command reads -/

section
variable {c : Claim}

theorem Claim.of_asCreation {d : Identity × Unpacked} (h : c.asCreation = some d) : ∃ q, c = .creation q d.1 d.2 := by
  cases c <;> cases h
  exact ⟨_, rfl⟩
theorem Claim.of_asRebind {h : Handle} (h' : c.asRebind = some h) : ∃ q, c = .rebind q h := by
  cases c <;> cases h'
  exact ⟨_, rfl⟩
theorem Claim.of_asOrphan {x : Handle × Option AbandonPhase} (h : c.asOrphan = some x) : ∃ q, c = .orphan q x.1 x.2 := by
  cases c <;> cases h
  exact ⟨_, rfl⟩
theorem Claim.of_asResult {x : Handle × Nat × Result} (h : c.asResult = some x) : ∃ q, c = .result q x.1 x.2.1 x.2.2 := by
  cases c <;> cases h
  exact ⟨_, rfl⟩
theorem Claim.of_asFlag {x : Handle × ClaimFlag} (h : c.asFlag = some x) : ∃ q, c = .flag q x.1 x.2 := by
  cases c <;> cases h
  exact ⟨_, rfl⟩
theorem Claim.of_asWriteStart {h : Handle} (h' : c.asWriteStart = some h) : ∃ q, c = .writeStart q h := by
  cases c <;> cases h'
  exact ⟨_, rfl⟩
theorem Claim.of_asSealStart {h : Handle} (h' : c.asSealStart = some h) : ∃ q, c = .sealStart q h := by
  cases c <;> cases h'
  exact ⟨_, rfl⟩
theorem Claim.of_asCommitMatch {h : Handle} (h' : c.asCommitMatch = some h) : ∃ q, c = .commitMatch q h := by
  cases c <;> cases h'
  exact ⟨_, rfl⟩
theorem Claim.of_asStageFailed {h : Handle} (h' : c.asStageFailed = some h) : ∃ q, c = .stageFailed q h := by
  cases c <;> cases h'
  exact ⟨_, rfl⟩
theorem Claim.of_asLocked {x : Handle × Check × Check} (h : c.asLocked = some x) : ∃ q, c = .locked q x.1 x.2.1 x.2.2 := by
  cases c <;> cases h
  exact ⟨_, rfl⟩
theorem Claim.of_asRefused {h : Handle} (h' : c.asRefused = some h) : ∃ q, c = .refused q h := by
  cases c <;> cases h'
  exact ⟨_, rfl⟩
theorem Claim.of_asNoReply {h : Handle} (h' : c.asNoReply = some h) : ∃ q, c = .noReply q h := by
  cases c <;> cases h'
  exact ⟨_, rfl⟩
theorem Claim.of_asCommitFail {x : Handle × RejectCause} (h : c.asCommitFail = some x) :
    ∃ q, c = .commitMismatch q x.1 ∧ x.2 = .commitMismatch ∨ c = .commitUnknown q x.1 ∧ x.2 = .commitUnknown := by
  cases c <;> cases h
  · exact ⟨_, .inl ⟨rfl, rfl⟩⟩
  · exact ⟨_, .inr ⟨rfl, rfl⟩⟩
theorem Claim.of_asFinishing {u : Unit} (h : c.asFinishing = some u) : ∃ q, c = .finishing q := by
  cases c <;> cases h
  exact ⟨_, rfl⟩
theorem Claim.of_asRefLoss {u : Unit} (h : c.asRefLoss = some u) : c = .refLoss := by
  cases c <;> cases h
  rfl
end

/-- A command that takes the claim `mk p a` from a stream of position p: what it does is settled by what the taking
does. -/
theorem claim_effect {α : Type} {p : Nat} {s t : State} {i : Instr} {stream : Claim → Bool} {want : Claim → Option α}
    {f : α → State → State} {mk : Nat → α → Claim} (hw : ∀ {c a}, want c = some a → ∃ q, c = mk q a)
    (hs : ∀ {q a}, stream (mk q a) = true → q = p)
    (hf : ∀ a, isPosition p = true → s.Claims stream (mk p a) → Effect s i (f a (s.claimTaken stream)))
    (h : onPosition p s (State.takeClaim stream want f) = .next t) : Effect s i t := by
  obtain ⟨hp, rfl | ⟨c, a, hc, hm, hwa, rfl⟩⟩ := onPosition_takeClaim h
  · exact .nothing _
  · obtain ⟨q, rfl⟩ := hw hwa
    obtain rfl := hs hm
    exact hf a hp hc

/-- What a command that completes makes of the state. -/
theorem exec_effect {i : Instr} {s t : State} (h : exec i s = .next t) : Effect s i t := by
  cases i with
  | powerOn => injection h with h; subst h; exact .powerOn
  | warmRestart => injection h with h; subst h; exact .warmRestart
  | profileLoadSlot => injection h with h; subst h; exact .loadSlot
  | profileSaveSlot => injection h with h; subst h; exact .saveSlot
  | usbBusReset => injection h with h; subst h; exact .busReset
  | requestMessageAccepted bs => injection h with h; subst h; exact .acceptMessage bs
  | answerDelivered => injection h with h; subst h; exact .deliverAnswer
  | attentionPoll => injection h with h; subst h; exact .pollAttention
  | malformedRequest => injection h with h; subst h; exact rejectMalformed_effect s
  | refEdge => injection h with h; subst h; exact .refEdge
  | refWatchdogTimeout => injection h with h; subst h; exact .watchdogTimeout
  | pointTimerExpiry => injection h with h; subst h; exact .timerExpired
  | getStatus => injection h with h; subst h; exact serve_effect .getStatus s
  | setBench => injection h with h; subst h; exact serve_effect .setBench s
  | getBench => injection h with h; subst h; exact serve_effect .getBench s
  | restart => injection h with h; subst h; exact serve_effect .restart s
  | setAttention => injection h with h; subst h; exact serve_effect .setAttention s
  | ackAttention => injection h with h; subst h; exact serve_effect .ackAttention s
  | loadProfile => injection h with h; subst h; exact serve_effect .loadProfile s
  | dropProfile => injection h with h; subst h; exact serve_effect .dropProfile s
  | getProfile => injection h with h; subst h; exact serve_effect .getProfile s
  | saveProfiles => injection h with h; subst h; exact serve_effect .saveProfiles s
  | setPoint => injection h with h; subst h; exact serve_effect .setPoint s
  | clearPoint => injection h with h; subst h; exact serve_effect .clearPoint s
  | getPlan => injection h with h; subst h; exact serve_effect .getPlan s
  | startPoint => injection h with h; subst h; exact serve_effect .startPoint s
  | endPoint => injection h with h; subst h; exact serve_effect .endPoint s
  | abortPoint => injection h with h; subst h; exact serve_effect .abortPoint s
  | find => injection h with h; subst h; exact serve_effect .find s
  | list => injection h with h; subst h; exact serve_effect .list s
  | readRecord => injection h with h; subst h; exact serve_effect .readRecord s
  | amendTrim => injection h with h; subst h; exact serve_effect .amendTrim s
  | reject => injection h with h; subst h; exact serve_effect .reject s
  | retire => injection h with h; subst h; exact serve_effect .retire s
  | clearFlags => injection h with h; subst h; exact serve_effect .clearFlags s
  | sealAll => injection h with h; subst h; exact serve_effect .sealAll s
  | getPositions => injection h with h; subst h; exact serve_effect .getPositions s
  | retryPosition => injection h with h; subst h; exact serve_effect .retryPosition s
  | setSealRange => injection h with h; subst h; exact serve_effect .setSealRange s
  | getSealRange => injection h with h; subst h; exact serve_effect .getSealRange s
  | presenceChange p high => obtain ⟨hp, rfl⟩ := onPosition_eq_next h; exact .presence p high hp
  | debounceExpiry p => obtain ⟨hp, rfl⟩ := onPosition_eq_next h; exact .debounced p hp
  | meterActiveEdge p tr time => obtain ⟨hp, rfl⟩ := onPosition_eq_next h; exact .meterActive p tr time hp
  | meterOppositeEdge p tr time => obtain ⟨hp, rfl⟩ := onPosition_eq_next h; exact .meterOpposite p tr time hp
  | glitchTestEnd p => obtain ⟨hp, rfl⟩ := onPosition_eq_next h; exact .glitchTestEnd p hp
  | laneSendDone l => obtain ⟨hl, rfl⟩ := onLane_eq_next h; exact .sendDone l hl
  | probeFrameReceived l bs => obtain ⟨hl, rfl⟩ := onLane_eq_next h; exact .receive l bs hl
  | laneReplyTimeout l => obtain ⟨hl, rfl⟩ := onLane_eq_next h; exact .replyTimeout l hl
  | creationClaim p =>
    exact claim_effect (mk := fun q a => .creation q a.1 a.2) Claim.of_asCreation (by simp [ofPosition]) (fun a hp hc => .creation p a.1 a.2 hp hc) h
  | rebindClaim p =>
    exact claim_effect (mk := .rebind) Claim.of_asRebind (by simp [ofPosition]) (fun a hp hc => .rebind p a hp hc) h
  | orphanClaim p =>
    exact claim_effect (mk := fun q a => .orphan q a.1 a.2) Claim.of_asOrphan (by simp [ofPosition]) (fun a hp hc => .orphan p a.1 a.2 hp hc) h
  | resultClaim p =>
    exact claim_effect (mk := fun q a => .result q a.1 a.2.1 a.2.2) Claim.of_asResult (by simp [ofComparator]) (fun a hp hc => .result p a.1 a.2.1 a.2.2 hp hc) h
  | flagClaim p =>
    exact claim_effect (mk := fun q a => .flag q a.1 a.2) Claim.of_asFlag (by simp [ofComparator]) (fun a hp hc => .flag p a.1 a.2 hp hc) h
  | writeStartClaim p =>
    exact claim_effect (mk := .writeStart) Claim.of_asWriteStart (by simp [ofLaneWork]) (fun a hp hc => .writeStart p a hp hc) h
  | sealStartClaim p =>
    exact claim_effect (mk := .sealStart) Claim.of_asSealStart (by simp [ofLaneWork]) (fun a hp hc => .sealStart p a hp hc) h
  | commitMatchOutcome p =>
    exact claim_effect (mk := .commitMatch) Claim.of_asCommitMatch (by simp [ofLaneWork]) (fun a hp hc => .commitMatch p a hp hc) h
  | stageFailedOutcome p =>
    exact claim_effect (mk := .stageFailed) Claim.of_asStageFailed (by simp [ofLaneWork]) (fun a hp hc => .stageFailed p a hp hc) h
  | lockedOutcome p =>
    exact claim_effect (mk := fun q a => .locked q a.1 a.2.1 a.2.2) Claim.of_asLocked (by simp [ofLaneWork]) (fun a hp hc => .locked p a.1 a.2.1 a.2.2 hp hc) h
  | refusedOutcome p =>
    exact claim_effect (mk := .refused) Claim.of_asRefused (by simp [ofLaneWork]) (fun a hp hc => .refused p a hp hc) h
  | noReplyOutcome p =>
    exact claim_effect (mk := .noReply) Claim.of_asNoReply (by simp [ofLaneWork]) (fun a hp hc => .noReply p a hp hc) h
  | finishingReport p =>
    exact claim_effect (mk := fun q _ => .finishing q) Claim.of_asFinishing (by simp [isFinishing]) (fun a hp hc => .finishing p hp hc) h
  | commitFailOutcome p =>
    obtain ⟨hp, rfl | ⟨c, a, hc, hs, hw, rfl⟩⟩ := onPosition_takeClaim h
    · exact .nothing _
    · obtain ⟨q, ⟨rfl, ha⟩ | ⟨rfl, ha⟩⟩ := Claim.of_asCommitFail hw
      · obtain rfl : q = p := by simpa [ofLaneWork] using hs
        exact .commitFail q _ _ hp (.inl ⟨hc, ha⟩)
      · obtain rfl : q = p := by simpa [ofLaneWork] using hs
        exact .commitFail q _ _ hp (.inr ⟨hc, ha⟩)
  | refLossReport =>
    injection h with h; subst h
    obtain h | ⟨c, a, hc, -, hw, h⟩ := takeClaim_cases isRefLoss Claim.asRefLoss State.lossTaken s
    · rw [h]; exact .nothing _
    · obtain rfl := Claim.of_asRefLoss hw
      rw [h]; exact .refLoss hc
  -- SEAL: the name of its case is a word of Lean's own.
  | _ => injection h with h; subst h; exact serve_effect .seal s

/-- What a step can do: one ms on an empty queue, or the effect of the command at the front of the queue. -/
theorem step_cases {s t : State} (h : step s = .next t) :
    s.pending = [] ∧ t = s.tick ∨
      ∃ i rest, s.pending = i :: rest ∧ Effect { s with pending := rest } i t := by
  unfold step at h
  cases hq : s.pending with
  | nil => rw [hq] at h; injection h with h; exact .inl ⟨rfl, h.symm⟩
  | cons i rest => rw [hq] at h; exact .inr ⟨i, rest, rfl, exec_effect h⟩

end Sys2Proof.Machine
end

section
/-! What each command leaves of the still part of the state (`State.still`). -/

namespace Sys2Proof.Machine

variable (s : State)

@[simp] theorem still_claimTaken (f : Claim → Bool) : (s.claimTaken f).still = s.still := rfl
@[simp] theorem still_count (p : Nat) (f : Comparator → Counted) : (s.count p f).still = s.still := by
  unfold State.count; rw [still_inFlight, still_updCmp]
@[simp] theorem still_meterActive (p : Nat) (tr : PulseEdge) (time : Nat) : (s.meterActive p tr time).still = s.still :=
  still_updCmp s _ _
@[simp] theorem still_meterOpposite (p : Nat) (tr : PulseEdge) (time : Nat) :
    (s.meterOpposite p tr time).still = s.still := still_count s _ _
@[simp] theorem still_glitchTestEnded (p : Nat) : (s.glitchTestEnded p).still = s.still := still_count s _ _
@[simp] theorem still_presence (p : Nat) (high : Bool) : (s.presence p high).still = s.still := by
  unfold State.presence; dsimp only; split <;> simp
@[simp] theorem still_creationTaken (p : Nat) (c : Identity × Unpacked) : (s.creationTaken p c).still = s.still := by
  unfold State.creationTaken; simp
@[simp] theorem still_rebindTaken (p : Nat) (h : Handle) : (s.rebindTaken p h).still = s.still := by
  unfold State.rebindTaken; simp
@[simp] theorem still_setWork (p : Nat) (w : Work) : (s.setWork p w).still = s.still := still_updPosition s _ _
@[simp] theorem still_writeStartTaken (p : Nat) (h : Handle) : (s.writeStartTaken p h).still = s.still := by
  unfold State.writeStartTaken; dsimp only; (repeat' split) <;> simp
theorem still_onWriting (p : Nat) (h : Handle) (f : Record → State → State) (hf : ∀ r t, (f r t).still = t.still) :
    (s.onWriting p h f).still = s.still := by
  unfold State.onWriting; (repeat' split) <;> simp [hf]
theorem still_onLock (p : Nat) (h : Handle) (f : State → State) (hf : ∀ t, (f t).still = t.still) :
    (s.onLock p h f).still = s.still := by
  unfold State.onLock; (repeat' split) <;> simp [hf]
@[simp] theorem still_commitMatched (p : Nat) (h : Handle) : (s.commitMatched p h).still = s.still :=
  still_onWriting s p h _ (fun r t => still_confirmWrite t _ r)
@[simp] theorem still_stageFailedTaken (p : Nat) (h : Handle) : (s.stageFailedTaken p h).still = s.still :=
  still_onWriting s p h _ (fun r t => by unfold State.failStage; dsimp only; split <;> simp)
@[simp] theorem still_commitFailed (p : Nat) (c : Handle × RejectCause) : (s.commitFailed p c).still = s.still :=
  still_onWriting s p c.1 _ (fun _ t => still_reject t _ _)
@[simp] theorem still_spoilReject (n : Nat) (c : RejectCause) : (s.spoilReject n c).still = s.still := by
  unfold State.spoilReject; simp
@[simp] theorem still_lockedTaken (p : Nat) (c : Handle × Check × Check) : (s.lockedTaken p c).still = s.still :=
  still_onLock s p c.1 _ (fun t => by unfold State.sealRecord; split <;> simp)
@[simp] theorem still_refusedTaken (p : Nat) (h : Handle) : (s.refusedTaken p h).still = s.still :=
  still_onLock s p h _ (fun t => still_spoilReject t _ _)
@[simp] theorem still_noReplyTaken (p : Nat) (h : Handle) : (s.noReplyTaken p h).still = s.still :=
  still_onLock s p h _ (fun t => still_spoilAttempt t _)
@[simp] theorem still_amendTrim (n : Nat) (t : Trim) (v : Int) (r : Record) : (s.amendTrim n t v r).still = s.still := by
  unfold State.amendTrim; dsimp only; split <;> simp
@[simp] theorem still_clearFlags (n : Nat) (r : Record) : (s.clearFlags n r).still = s.still := by
  unfold State.clearFlags; dsimp only; split <;> simp

/-- R184: SEAL ALL leaves the still part. -/
@[simp] theorem still_sealAll (rs : List Record) : (rs.foldl (fun t r => t.enterSealing r.slot) s).still = s.still :=
  still_foldl s _ (fun t r => still_enterSealing t r.slot) rs

/-! ### The fields of the still part -/

section
variable {s} {t v : State}

theorem plan_of_still (h : t.still = v) : t.plan = v.plan := by have := congrArg State.plan h; exact this
theorem seals_of_still (h : t.still = v) : t.seals = v.seals := by have := congrArg State.seals h; exact this
theorem seq_of_still (h : t.still = v) : t.seq = v.seq := by have := congrArg State.seq h; exact this
theorem ref_of_still (h : t.still = v) : t.ref = v.ref := by have := congrArg State.ref h; exact this
theorem pending_of_still (h : t.still = v) : t.pending = v.pending := by have := congrArg State.pending h; exact this
theorem store_of_still (h : t.still = v) : t.store = v.store := by have := congrArg State.store h; exact this
theorem bench_of_still (h : t.still = v) : t.port.bench = v.port.bench := by
  have := congrArg (fun x => x.port.bench) h; exact this
end

/-! ### Commands that change the still part -/

/-- The plan alone changes in an edit of the plan. -/
theorem still_editPlan (k : Nat) (pt : Option Point) :
    (s.editPlan k pt).still = { s.still with plan := setPlace s.plan k pt } := by
  unfold State.editPlan; rw [still_settle, still_resetClaim]; rfl

/-- R97: the comparison changes the loss-reported mark alone. -/
theorem still_compareWatchdog : s.compareWatchdog.still = { s.still with ref := s.compareWatchdog.ref } := by
  unfold State.compareWatchdog; split <;> rfl

/-- R97: the comparison changes no other part of the Reference Unit. -/
theorem compareWatchdog_ref : s.compareWatchdog.ref = { s.ref with lossReported := s.compareWatchdog.ref.lossReported } := by
  unfold State.compareWatchdog; split <;> rfl

/-- R207: assignments change the bench parameters and Kref alone of the still part. -/
theorem still_assigns (as : List (Nat × Nat)) : (as.foldl (fun t a => t.assign a) s).still = { s.still with
    port := { s.still.port with bench := (as.foldl (fun t a => t.assign a) s).port.bench }
    ref := { s.ref with kref := (as.foldl (fun t a => t.assign a) s).ref.kref } } := by
  induction as generalizing s with
  | nil => rfl
  | cons a as ih =>
    have ha : (s.assign a).still = { s.still with
        port := { s.still.port with bench := (s.assign a).port.bench }
        ref := { s.ref with kref := (s.assign a).ref.kref } } := by
      unfold State.assign; dsimp only; split <;> rfl
    have hr : (s.assign a).ref = { s.ref with kref := (s.assign a).ref.kref } := by
      have := congrArg State.ref ha; exact this
    rw [List.foldl_cons, ih, ha, hr]

/-- R54, R97: what SET_BENCH brings about beside its assignments changes the loss-reported mark alone of the still part. -/
theorem still_benchEffects (b : Bench) : ∃ lost, (s.benchEffects b).still =
    { s.still with ref := { s.ref with lossReported := lost } } := by
  have h1 : ∃ lost, (if s.port.bench.refTimeout = b.refTimeout then s else s.compareWatchdog).still =
      { s.still with ref := { s.ref with lossReported := lost } } := by
    split
    · exact ⟨s.ref.lossReported, rfl⟩
    · exact ⟨_, (still_compareWatchdog s).trans (by rw [compareWatchdog_ref])⟩
  unfold State.benchEffects
  generalize (if s.port.bench.refTimeout = b.refTimeout then s else s.compareWatchdog) = v at h1
  dsimp only
  split
  · rw [still_sampleAll]; exact h1
  · exact h1

/-- R43: an installed profile leaves the still part of a table of profiles. -/
theorem still_installProfile (code : Nat) (pf : Profile) : (s.installProfile code pf).still = s.still := by
  have h : ∀ (l : List (Option ProfileSlot)) (x : Option ProfileSlot),
      (setPlace l code x).map (fun _ => (none : Option ProfileSlot)) = l.map (fun _ => none) := by
    intro l x; simp [List.map_const']
  unfold State.installProfile
  rw [still_settle, still_announce]
  simp only [State.still, h]

/-- R27: a retirement increments a tag. -/
theorem still_retire (r : Record) : (s.retire r).still = { s.still with tags := updPlace s.tags r.slot (· + 1#8) } := by
  have hw : ((s.withdrawWrite r).retirePosition r).still = s.still := by
    unfold State.retirePosition State.toSpent
    dsimp only
    (repeat' split) <;> simp
  unfold State.retire
  rw [still_settle, still_handFreed]
  unfold State.removeRecord
  rw [still_raise, still_updPins]
  have := still_tags hw
  generalize (s.withdrawWrite r).retirePosition r = t at hw this
  show ({ t.still with tags := updPlace t.tags r.slot (· + 1#8) } : State) = _
  rw [hw, this]

/-- R188: a seal start claim that is taken may issue a number. -/
theorem still_sealStartTaken (p : Nat) (h : Handle) : (s.sealStartTaken p h).still = s.still ∨
    s.seals.remaining ≠ 0 ∧ (s.sealStartTaken p h).still = { s.still with seals := s.seals.issued } := by
  have hi : s.issueSeal.still = { s.still with seals := s.seals.issued } := by
    unfold State.issueSeal; dsimp only; rw [still_raiseIf, still_raiseIf]; rfl
  unfold State.sealStartTaken
  dsimp only
  split
  · left; simp
  split
  · left; simp
  split
  · split
    · left; simp
    · split
      · left; simp
      · right
        refine ⟨‹_›, ?_⟩
        unfold State.startLock
        dsimp only
        rw [still_sendTurn, still_setWork, still_updRecord, hi]
  · left; simp

/-- R87, R88, R92: what ends a point changes the sequencer alone of the still part. -/
theorem still_lossTaken : (s.lossTaken ()).still = s.still ∧ s.seq.running = none ∨
    ∃ k, (s.lossTaken ()).still = { s.still with seq := s.seq.closed k .refLost } := by
  unfold State.lossTaken
  split
  · left; exact ⟨rfl, ‹_›⟩
  · right; exact ⟨_, by rw [still_settle, still_losePoint]⟩

theorem still_timerExpired : s.timerExpired.still = s.still ∨
    ∃ k, s.timerExpired.still = { s.still with seq := s.seq.closed k .timedOut } := by
  unfold State.timerExpired
  split
  · right; exact ⟨_, by rw [still_settle, still_endPoint]⟩
  · left; rfl

/-- R87: a finishing report counts one comparator, and the last ends the point. -/
theorem still_finishingTaken : (s.finishingTaken ()).still = s.still ∨
    (∃ k n, s.seq.running = some k ∧ (s.finishingTaken ()).still = { s.still with seq := { s.seq with armedRemaining := n } }) ∨
    ∃ k, (s.finishingTaken ()).still = { s.still with seq := s.seq.closed k .complete } := by
  unfold State.finishingTaken
  split
  · left; rfl
  · rename_i k hk
    split
    · left; rfl
    · rename_i n hn
      dsimp only
      split
      · right; right; exact ⟨k, by rw [still_settle, still_endPoint]; rfl⟩
      · right; left; exact ⟨k, n, hk, rfl⟩

/-- R85: START_POINT changes the sequencer and the loss-reported mark. -/
theorem still_startPoint (k : Nat) (pt : Point) : (s.startPoint k pt).still = { s.still with
    seq := { s.seq with running := some k, timer := some (1000 * pt.timeout)
                        armedRemaining := (s.armable k).length, armedAtStart := (s.armable k).length }
    ref := (s.startPoint k pt).ref } := by
  have h : (s.arm k).still = s.still := still_mapCmps s _
  unfold State.startPoint
  dsimp only
  rw [still_compareWatchdog]
  show ({ (s.arm k).still with seq := _, ref := _ } : State) = _
  rw [h]
  rfl

/-- R212: what a warm restart makes of the still part. -/
theorem still_warmRestart (c : WarmCause) : (s.warmRestart c).still = { s.still with
    port := { s.port.restarted c with pendingSet := 0#8 }, seq := s.seq.restarted
    ref := { s.ref with lossReported := false }, store := s.store.restarted, flash := s.cutFlash
    fresh := s.freshAfterCut } := by
  unfold State.warmRestart
  dsimp only
  rw [still_settle, still_foldl _ _ (fun t p => still_restartPosition t p)]
  have h2 : (s.records.foldl (settleAtRestart s) { s with port := s.port.restarted c }).still =
      { s.still with port := { s.port.restarted c with pendingSet := 0#8 } } :=
    still_foldl _ (settleAtRestart s) (fun t r => still_settleRecord t _ _) s.records
  generalize s.records.foldl (settleAtRestart s) { s with port := s.port.restarted c } = t at h2 ⊢
  have hseq : t.seq = s.seq := by have := congrArg State.seq h2; exact this
  have href : t.ref = s.ref := by have := congrArg State.ref h2; exact this
  have hstore : t.store = s.store := by have := congrArg State.store h2; exact this
  rw [hseq, href, hstore]
  have hl : ∀ l : List Lane, (l.mapIdx (fun i x => x.restarted (i + 1))).map (fun _ => Lane.powerOn 1) =
      l.map (fun _ => Lane.powerOn 1) := by intro l; simp [List.map_const']
  show ({ t.still with
    seq := _, ref := _, store := _, flash := _, fresh := _
    lanes := (t.lanes.mapIdx (fun i x => x.restarted (i + 1))).map (fun _ => Lane.powerOn 1) } : State) = _
  rw [hl]
  show ({ t.still with seq := _, ref := _, store := _, flash := _, fresh := _ } : State) = _
  rw [h2]

end Sys2Proof.Machine
end

section
/-! Proof of O4: every step keeps the shape of the part and the bounds of the two queues (R52, R151, R75, R1, R32, R48,
R195). -/

namespace Sys2Proof.Machine

variable {s t u : State}

/-! ### The shape -/

/-- The shape is a matter of the still part: a change of a still field that keeps its length keeps the shape. -/
theorem State.shaped_still (s : State) : s.still.Shaped ↔ s.Shaped := by
  simp [State.Shaped, State.still]

theorem State.Shaped.of_still (hs : s.Shaped) (h : t.still.Shaped ↔ s.still.Shaped) : t.Shaped :=
  (State.shaped_still t).mp (h.mpr ((State.shaped_still s).mpr hs))

theorem length_cutFlash (s : State) : s.cutFlash.length = s.flash.length := by
  unfold State.cutFlash; split <;> simp

theorem shaped_poweredOn (h : s.Shaped) : s.poweredOn.Shaped := by
  obtain ⟨-, -, -, -, -, hf⟩ := h
  exact ⟨by simp [State.poweredOn, places], rfl, rfl, rfl, rfl, (length_cutFlash s).trans hf⟩

theorem shaped_warmRestart (c : WarmCause) (h : s.Shaped) : (s.warmRestart c).Shaped := by
  refine h.of_still ?_
  rw [still_warmRestart]
  simp [State.Shaped, State.still, length_cutFlash]

theorem shaped_loadSlot (h : s.Shaped) : s.loadSlot.Shaped := by
  have hl : (s.loadStored s.store.slot).Shaped := by
    unfold State.loadStored
    dsimp only
    split <;> simpa [State.Shaped] using h
  unfold State.loadSlot
  split
  · dsimp only
    split
    · exact hl
    · exact still_shaped (still_sampleAll _) hl
  · exact h
  · exact h

theorem shaped_saveSlot (h : s.Shaped) : s.saveSlot.Shaped := by
  unfold State.saveSlot
  split
  · dsimp only
    split <;> simpa [State.Shaped] using h
  · exact h
  · exact h

theorem shaped_assign (a : Nat × Nat) (h : s.Shaped) : (s.assign a).Shaped := by
  unfold State.assign
  dsimp only
  split <;> exact h

theorem shaped_compareWatchdog (h : s.Shaped) : s.compareWatchdog.Shaped := by
  unfold State.compareWatchdog
  split <;> exact h

theorem shaped_benchEffects (b : Bench) (h : s.Shaped) : (s.benchEffects b).Shaped := by
  have h1 : (if s.port.bench.refTimeout = b.refTimeout then s else s.compareWatchdog).Shaped := by
    split
    · exact h
    · exact shaped_compareWatchdog h
  unfold State.benchEffects
  generalize (if s.port.bench.refTimeout = b.refTimeout then s else s.compareWatchdog) = v at h1
  dsimp only
  split
  · exact still_shaped (still_sampleAll v) h1
  · exact h1

theorem shaped_request (hr : RequestEffect s u) (hs : s.Shaped) : u.Shaped := by
  cases hr with
  | nothing => exact hs
  | setBench as => exact shaped_benchEffects _ (List.foldlRecOn as _ hs (fun _ h a _ => shaped_assign a h))
  | port => exact hs
  | loadProfile code pf => exact still_shaped (still_installProfile _ code pf) hs
  | dropProfile => simpa [State.Shaped] using hs
  | saveProfiles => exact hs
  | editPlan k pt => exact hs.of_still (by rw [still_editPlan]; simp [State.Shaped, State.still])
  | startPoint k pt => exact hs.of_still (by rw [still_startPoint]; rfl)
  | endPoint k => exact hs.of_still (by rw [still_settle, still_endPoint]; rfl)
  | abortPoint k => exact hs.of_still (by rw [still_settle, still_abortPoint]; rfl)
  | retire h r => exact hs.of_still (by rw [still_retire]; simp [State.Shaped, State.still])
  | setSealRange a b low => exact hs.of_still (by rw [still_raiseIf]; rfl)
  | _ => exact still_shaped (by simp) hs

theorem shaped_effect {i : Instr} (he : Effect s i t) (hs : s.Shaped) : t.Shaped := by
  cases he with
  | powerOn => exact shaped_poweredOn hs
  | warmRestart => exact shaped_warmRestart _ hs
  | loadSlot => exact shaped_loadSlot hs
  | saveSlot => exact shaped_saveSlot hs
  | busReset =>
    unfold State.busReset; dsimp only; split
    · exact shaped_warmRestart _ hs
    · exact hs
  | acceptMessage => unfold State.acceptMessage; split <;> exact hs
  | deliverAnswer =>
    unfold State.deliverAnswer
    split
    · exact hs
    · dsimp only; split
      · exact shaped_warmRestart _ hs
      · exact hs
  | pollAttention | malformed | refEdge => exact hs
  | request k tag args rest u c body ho hu => have h : u.Shaped := shaped_request hu hs; exact h
  | watchdogTimeout =>
    unfold State.watchdogTimeout; split
    · exact shaped_compareWatchdog hs
    · exact hs
  | sealStart p h =>
    obtain h | ⟨-, h⟩ := still_sealStartTaken (s.claimTaken (ofLaneWork p)) p h
    · exact still_shaped h hs
    · exact hs.of_still (by rw [h]; rfl)
  | refLoss =>
    obtain ⟨h, -⟩ | ⟨k, h⟩ := still_lossTaken (s.claimTaken isRefLoss)
    · exact still_shaped h hs
    · exact hs.of_still (by rw [h]; rfl)
  | timerExpired =>
    obtain h | ⟨k, h⟩ := still_timerExpired s
    · exact still_shaped h hs
    · exact hs.of_still (by rw [h]; rfl)
  | finishing p =>
    obtain h | ⟨k, n, -, h⟩ | ⟨k, h⟩ := still_finishingTaken (s.claimTaken (isFinishing p))
    · exact still_shaped h hs
    · exact hs.of_still (by rw [h]; rfl)
    · exact hs.of_still (by rw [h]; rfl)
  | _ => exact still_shaped (by simp) hs

theorem shaped_tick (hs : s.Shaped) : s.tick.Shaped := by
  unfold State.tick
  exact shaped_compareWatchdog (by simpa [State.Shaped] using hs)

/-! ### The queues -/

/-- Every change of the still part that leaves the queues keeps their bounds. -/
theorem State.QueuesBounded.of_still (hs : s.QueuesBounded) (h : t.still.port.requests = s.port.requests)
    (h' : t.still.port.answers = s.port.answers) : t.QueuesBounded := by
  obtain ⟨h1, h2⟩ := hs
  exact ⟨(congrArg List.length h).trans_le h1, (congrArg List.length h').trans_le h2⟩

theorem State.QueuesBounded.of_still_eq (hs : s.QueuesBounded) (h : t.still = s.still) : t.QueuesBounded :=
  hs.of_still (by rw [h]; rfl) (by rw [h]; rfl)

/-- R196, R200, R212: a restart and a bus reset empty both queues. -/
theorem queuesBounded_of_empty (h : t.still.port.requests = []) (h' : t.still.port.answers = []) : t.QueuesBounded := by
  refine ⟨?_, ?_⟩
  · have : t.port.requests = [] := h
    rw [this]; exact Nat.zero_le _
  · have : t.port.answers = [] := h'
    rw [this]; exact Nat.zero_le _

theorem queuesBounded_warmRestart (s : State) (c : WarmCause) : (s.warmRestart c).QueuesBounded :=
  queuesBounded_of_empty (by rw [still_warmRestart]; rfl) (by rw [still_warmRestart]; rfl)

/-- A request leaves the queues as they stand once it has been taken. -/
theorem queues_request (hr : RequestEffect s u) :
    u.still.port.requests = s.port.requests ∧ u.still.port.answers = s.port.answers := by
  cases hr with
  | nothing => exact ⟨rfl, rfl⟩
  | setBench as =>
    obtain ⟨lost, h⟩ := still_benchEffects (as.foldl (fun t a => t.assign a) s) s.port.bench
    rw [h, still_assigns]
    exact ⟨rfl, rfl⟩
  | port q hq => exact ⟨hq.1, hq.2.1⟩
  | loadProfile code pf => rw [still_installProfile]; exact ⟨rfl, rfl⟩
  | dropProfile => exact ⟨rfl, rfl⟩
  | saveProfiles => exact ⟨rfl, rfl⟩
  | editPlan k pt => rw [still_editPlan]; exact ⟨rfl, rfl⟩
  | startPoint k pt => rw [still_startPoint]; exact ⟨rfl, rfl⟩
  | endPoint k => rw [still_settle, still_endPoint]; exact ⟨rfl, rfl⟩
  | abortPoint k => rw [still_settle, still_abortPoint]; exact ⟨rfl, rfl⟩
  | retire h r => rw [still_retire]; exact ⟨rfl, rfl⟩
  | setSealRange a b low => rw [still_raiseIf]; exact ⟨rfl, rfl⟩
  | _ => rw [show State.still _ = s.still by simp]; exact ⟨rfl, rfl⟩

theorem queuesBounded_effect {i : Instr} (he : Effect s i t) (hs : s.QueuesBounded) : t.QueuesBounded := by
  obtain ⟨hq, ha⟩ := id hs
  cases he with
  | powerOn => exact ⟨Nat.zero_le _, Nat.zero_le _⟩
  | warmRestart => exact queuesBounded_warmRestart s _
  | loadSlot =>
    have hl : (s.loadStored s.store.slot).QueuesBounded := by unfold State.loadStored; dsimp only; split <;> exact hs
    unfold State.loadSlot
    split
    · dsimp only
      split
      · exact hl
      · exact hl.of_still (by rw [still_sampleAll]; rfl) (by rw [still_sampleAll]; rfl)
    · exact hs
    · exact hs
  | saveSlot => unfold State.saveSlot; dsimp only; (repeat' split) <;> exact hs
  | busReset =>
    unfold State.busReset
    dsimp only
    split
    · exact queuesBounded_warmRestart _ _
    · exact ⟨Nat.zero_le _, Nat.zero_le _⟩
  | acceptMessage bs =>
    unfold State.acceptMessage
    split
    · rename_i h
      simp only [State.accepting, Bool.and_eq_true, decide_eq_true_eq] at h
      exact ⟨by simpa using h.1.1, ha⟩
    · exact hs
  | deliverAnswer =>
    unfold State.deliverAnswer
    split
    · exact hs
    · rename_i a rest hc
      dsimp only
      split
      · exact queuesBounded_warmRestart _ _
      · exact ⟨hq, by rw [hc] at ha; exact (Nat.le_succ _).trans ha⟩
  | pollAttention | refEdge => exact hs
  | malformed a rest hr hlt =>
    refine ⟨?_, by simpa [State.putAnswer, State.dequeued] using hlt⟩
    show rest.length ≤ _
    omega
  | request k tag args rest u c body ho hu =>
    obtain ⟨m, hm, -, hlt, -⟩ := ho
    obtain ⟨h1, h2⟩ := queues_request hu
    have h1' : u.port.requests = rest := h1
    have h2' : u.port.answers = s.port.answers := h2
    refine ⟨?_, ?_⟩
    · show u.port.requests.length ≤ _
      rw [h1']; rw [hm] at hq; exact (Nat.le_succ _).trans hq
    · show (u.port.answers ++ [_]).length ≤ _
      rw [h2', List.length_append]; exact hlt
  | watchdogTimeout =>
    unfold State.watchdogTimeout State.compareWatchdog
    (repeat' split) <;> exact hs
  | sealStart p h =>
    obtain h | ⟨-, h⟩ := still_sealStartTaken (s.claimTaken (ofLaneWork p)) p h
    · exact State.QueuesBounded.of_still_eq hs h
    · exact hs.of_still (by rw [h]; rfl) (by rw [h]; rfl)
  | refLoss =>
    obtain ⟨h, -⟩ | ⟨k, h⟩ := still_lossTaken (s.claimTaken isRefLoss)
    · exact State.QueuesBounded.of_still_eq hs h
    · exact hs.of_still (by rw [h]; rfl) (by rw [h]; rfl)
  | timerExpired =>
    obtain h | ⟨k, h⟩ := still_timerExpired s
    · exact hs.of_still_eq h
    · exact hs.of_still (by rw [h]; rfl) (by rw [h]; rfl)
  | finishing p =>
    obtain h | ⟨k, n, -, h⟩ | ⟨k, h⟩ := still_finishingTaken (s.claimTaken (isFinishing p))
    · exact State.QueuesBounded.of_still_eq hs h
    · exact hs.of_still (by rw [h]; rfl) (by rw [h]; rfl)
    · exact hs.of_still (by rw [h]; rfl) (by rw [h]; rfl)
  | _ => exact State.QueuesBounded.of_still_eq hs (by simp)

theorem queuesBounded_tick (hs : s.QueuesBounded) : s.tick.QueuesBounded := by
  unfold State.tick State.compareWatchdog
  dsimp only
  split <;> exact hs

/-- Settles O4, by the cases of a step: what each changes of the still part keeps its sizes and its queues. -/
theorem shapeAndQueuesKeptByEveryStep : Obligations.ShapeAndQueuesKeptByEveryStep := by
  refine ⟨fun s t hs h => ?_, fun s t hs h => ?_⟩
  · obtain ⟨-, rfl⟩ | ⟨i, rest, -, he⟩ := step_cases h
    · exact shaped_tick hs
    · exact shaped_effect he hs
  · obtain ⟨-, rfl⟩ | ⟨i, rest, -, he⟩ := step_cases h
    · exact queuesBounded_tick hs
    · exact queuesBounded_effect he hs

end Sys2Proof.Machine
end

section
/-! Proof of O3: every command of the part completes and leaves the queue of commands; one of no position or lane gives
the fault that says which (log entry 23). -/

namespace Sys2Proof.Machine

/-! ### How commands are addressed -/

/-- A command of a position is run through the check of its position. -/
theorem exec_of_position {i : Instr} {p : Nat} (h : i.position? = some p) :
    ∃ f : State → State → State, ∀ s, exec i s = onPosition p s (f s) := by
  cases i <;> cases h <;> exact ⟨_, fun _ => rfl⟩

/-- A command of a lane is run through the check of its lane. -/
theorem exec_of_lane {i : Instr} {l : Nat} (h : i.lane? = some l) :
    ∃ f : State → State → State, ∀ s, exec i s = onLane l s (f s) := by
  cases i <;> cases h <;> exact ⟨_, fun _ => rfl⟩

/-- A command that names neither completes. -/
theorem exec_unaddressed {i : Instr} (hp : i.position? = none) (hl : i.lane? = none) (s : State) :
    ∃ t, exec i s = .next t := by
  cases i <;> first | (cases hp; done) | (cases hl; done) | exact ⟨_, rfl⟩

theorem onPosition_fault {p : Nat} (s : State) (f : State → State) (h : isPosition p = false) :
    onPosition p s f = .fault .noSuchPosition := by simp [onPosition, h]

theorem onLane_fault {l : Nat} (s : State) (f : State → State) (h : isLane l = false) :
    onLane l s f = .fault .noSuchLane := by simp [onLane, h]

/-- No command names both a position and a lane. -/
theorem lane_of_position {i : Instr} {p : Nat} (h : i.position? = some p) : i.lane? = none := by
  cases i <;> cases h <;> rfl

theorem exec_completes {i : Instr} (hw : i.wellFormed = true) (s : State) : ∃ t, exec i s = .next t := by
  unfold Instr.wellFormed at hw
  cases hp : i.position? with
  | some p =>
    obtain ⟨f, hf⟩ := exec_of_position hp
    rw [hp, lane_of_position hp] at hw
    exact ⟨_, (hf s).trans (onPosition_next _ (by simpa using hw))⟩
  | none =>
    cases hl : i.lane? with
    | some l =>
      obtain ⟨f, hf⟩ := exec_of_lane hl
      rw [hp, hl] at hw
      exact ⟨_, (hf s).trans (onLane_next _ (by simpa using hw))⟩
    | none => exact exec_unaddressed hp hl s

theorem exec_faults {i : Instr} (hw : i.wellFormed = false) (s : State) :
    exec i s = .fault .noSuchPosition ∨ exec i s = .fault .noSuchLane := by
  unfold Instr.wellFormed at hw
  cases hp : i.position? with
  | some p =>
    obtain ⟨f, hf⟩ := exec_of_position hp
    rw [hp, lane_of_position hp] at hw
    exact .inl ((hf s).trans (onPosition_fault _ _ (by simpa using hw)))
  | none =>
    cases hl : i.lane? with
    | some l =>
      obtain ⟨f, hf⟩ := exec_of_lane hl
      rw [hp, hl] at hw
      exact .inr ((hf s).trans (onLane_fault _ _ (by simpa using hw)))
    | none => rw [hp, hl] at hw; cases hw

/-! ### The queue of commands -/

variable {s t u : State}

theorem pending_request (hr : RequestEffect s u) : u.pending = s.pending := by
  cases hr with
  | nothing | port | dropProfile | saveProfiles => rfl
  | setBench as =>
    obtain ⟨lost, h⟩ := still_benchEffects (as.foldl (fun t a => t.assign a) s) s.port.bench
    rw [still_assigns] at h
    exact (pending_of_still h).trans rfl
  | loadProfile code pf => exact (pending_of_still (still_installProfile s code pf)).trans rfl
  | editPlan k pt => exact (pending_of_still (still_editPlan s k pt)).trans rfl
  | startPoint k pt => exact (pending_of_still (still_startPoint s k pt)).trans rfl
  | endPoint k => exact (pending_of_still ((still_settle _).trans (still_endPoint s k _ _))).trans rfl
  | abortPoint k => exact (pending_of_still ((still_settle _).trans (still_abortPoint s k))).trans rfl
  | retire h r => exact (pending_of_still (still_retire s r)).trans rfl
  | setSealRange a b low => exact (pending_of_still (still_raiseIf _ low _)).trans rfl
  | _ => exact (pending_of_still (v := s.still) (by simp)).trans rfl

theorem pending_warmRestart (s : State) (c : WarmCause) : (s.warmRestart c).pending = s.pending :=
  (pending_of_still (still_warmRestart s c)).trans rfl

theorem pending_effect {i : Instr} (he : Effect s i t) : t.pending = s.pending := by
  cases he with
  | nothing | powerOn | pollAttention | malformed | refEdge => rfl
  | warmRestart => exact pending_warmRestart s _
  | loadSlot =>
    have hl : (s.loadStored s.store.slot).pending = s.pending := by unfold State.loadStored; dsimp only; split <;> rfl
    unfold State.loadSlot
    split
    · dsimp only
      split
      · exact hl
      · exact (pending_of_still (still_sampleAll _)).trans hl
    · rfl
    · rfl
  | saveSlot => unfold State.saveSlot; dsimp only; (repeat' split) <;> rfl
  | busReset =>
    unfold State.busReset; dsimp only; split
    · exact pending_warmRestart _ _
    · rfl
  | acceptMessage => unfold State.acceptMessage; split <;> rfl
  | deliverAnswer =>
    unfold State.deliverAnswer
    split
    · rfl
    · dsimp only; split
      · exact pending_warmRestart _ _
      · rfl
  | request k tag args rest u c body ho hu => have h := pending_request hu; exact h
  | watchdogTimeout => unfold State.watchdogTimeout State.compareWatchdog; (repeat' split) <;> rfl
  | sealStart p h =>
    obtain h | ⟨-, h⟩ := still_sealStartTaken (s.claimTaken (ofLaneWork p)) p h
    · exact (pending_of_still h).trans rfl
    · exact (pending_of_still h).trans rfl
  | refLoss =>
    obtain ⟨h, -⟩ | ⟨k, h⟩ := still_lossTaken (s.claimTaken isRefLoss)
    · exact (pending_of_still h).trans rfl
    · exact (pending_of_still h).trans rfl
  | timerExpired =>
    obtain h | ⟨k, h⟩ := still_timerExpired s
    · exact (pending_of_still h).trans rfl
    · exact (pending_of_still h).trans rfl
  | finishing p =>
    obtain h | ⟨k, n, -, h⟩ | ⟨k, h⟩ := still_finishingTaken (s.claimTaken (isFinishing p))
    · exact (pending_of_still h).trans rfl
    · exact (pending_of_still h).trans rfl
    · exact (pending_of_still h).trans rfl
  | _ => exact (pending_of_still (v := s.still) (by simp)).trans rfl

/-- Settles O3: commands are addressed through `onPosition` and `onLane`, and no effect touches the queue. -/
theorem commandsCompleteAndLeaveTheQueue : Obligations.CommandsCompleteAndLeaveTheQueue := by
  refine ⟨fun i s hw => ?_, fun i s hw => exec_faults hw s, fun i p s hi hp => ?_, fun l bytes s hl => ⟨?_, ?_, ?_⟩⟩
  · obtain ⟨t, ht⟩ := exec_completes hw s
    exact ⟨t, ht, pending_effect (exec_effect ht)⟩
  · obtain ⟨f, hf⟩ := exec_of_position hi
    exact (hf s).trans (onPosition_fault _ _ hp)
  · exact onLane_fault _ _ hl
  · exact onLane_fault _ _ hl
  · exact onLane_fault _ _ hl

end Sys2Proof.Machine
end

section
/-! What a step can do to the still part of the state, said once: the cases in which the plan, the sequencer, the
Reference Unit, the bench parameters or the seal numbers change. -/

namespace Sys2Proof.Machine

/-- What a request makes of the still part. -/
inductive RequestStill (s : State) : State → Prop
  | same : RequestStill s s.still
  | bench (as lost) (h : BenchSound s as) : RequestStill s { s.still with
      port := { s.still.port with bench := (as.foldl (fun t a => t.assign a) s).port.bench }
      ref := { s.ref with kref := (as.foldl (fun t a => t.assign a) s).ref.kref, lossReported := lost } }
  | port (q : Port) (hq : q.bench = s.port.bench) : RequestStill s { s.still with port := q }
  | store (p : ProfileStore) : RequestStill s { s.still with store := p }
  | plan (pl : List (Option Point)) (hr : s.seq.running = none) : RequestStill s { s.still with plan := pl }
  | start (q : Sequencer) (lost) (hr : s.seq.running = none) (hq : q.running ≠ none) :
      RequestStill s { s.still with seq := q, ref := { s.ref with lossReported := lost } }
  | close (k cause) : RequestStill s { s.still with seq := s.seq.closed k cause }
  | tags (ts : List Byte) : RequestStill s { s.still with tags := ts }
  | range (a b) (hb : within Config.lastSeal b = true) (h0 : 1 ≤ a) (hab : a ≤ b) (hl : s.seals.lastIssued < a) :
      RequestStill s { s.still with seals := s.seals.withRange a b }

theorem RequestStill.of_eq {s v w : State} (h : RequestStill s v) (e : w = v) : RequestStill s w := e ▸ h

theorem startPoint_ref (s : State) (k : Nat) (pt : Point) :
    ∃ lost, (s.startPoint k pt).ref = { s.ref with lossReported := lost } := by
  unfold State.startPoint
  dsimp only
  rw [compareWatchdog_ref]
  exact ⟨_, rfl⟩

theorem request_still {s u : State} (hr : RequestEffect s u) : RequestStill s u.still := by
  cases hr with
  | nothing | dropProfile => exact RequestStill.same.of_eq (by simp [State.still, List.map_const'])
  | setBench as h =>
    obtain ⟨lost, hb⟩ := still_benchEffects (as.foldl (fun t a => t.assign a) s) s.port.bench
    rw [still_assigns] at hb
    have hr := ref_of_still (still_assigns s as)
    rw [hr] at hb
    exact (RequestStill.bench as lost h).of_eq hb
  | port q hq => exact .port { q with pendingSet := 0#8 } hq.2.2
  | loadProfile code pf => exact RequestStill.same.of_eq (still_installProfile s code pf)
  | saveProfiles => exact .store _
  | editPlan k pt h => exact (RequestStill.plan _ h).of_eq (still_editPlan s k pt)
  | startPoint k pt h =>
    obtain ⟨lost, hl⟩ := startPoint_ref s k pt
    exact (RequestStill.start
      { s.seq with running := some k, timer := some (1000 * pt.timeout), armedRemaining := _, armedAtStart := _ }
      lost h (Option.some_ne_none k)).of_eq ((still_startPoint s k pt).trans (by rw [hl]))
  | endPoint k => exact (RequestStill.close k .ended).of_eq ((still_settle _).trans (still_endPoint s k _ _))
  | abortPoint k => exact (RequestStill.close k .aborted).of_eq ((still_settle _).trans (still_abortPoint s k))
  | retire h r => exact (RequestStill.tags _).of_eq (still_retire s r)
  | setSealRange a b low h1 h2 hab hl =>
    refine (RequestStill.range a b h2 ?_ hab hl).of_eq (still_raiseIf _ low _)
    simp only [within, Bool.and_eq_true, decide_eq_true_eq] at h1
    exact h1.1
  | _ => exact RequestStill.same.of_eq (by simp)

/-- What a command makes of the still part. -/
inductive StillEffect (s : State) : Instr → State → Prop
  | same (i) : StillEffect s i s.still
  | powerOn : StillEffect s .powerOn s.poweredOn.still
  | port (i) (q : Port) (hq : q.bench = s.port.bench) : StillEffect s i { s.still with port := q }
  | restart (i) (q : Port) (p : ProfileStore) (fl : List FlashSlot) (n : Nat) (hq : q.bench = s.port.bench) :
      StillEffect s i { s.still with
        port := q, seq := s.seq.restarted, ref := { s.ref with lossReported := false }, store := p, flash := fl, fresh := n }
  | store (i) (p : ProfileStore) (fl : List FlashSlot) : StillEffect s i { s.still with store := p, flash := fl }
  | ref (i) (u : RefUnit) (hk : u.kref = s.ref.kref) (hw : u.watchdog ≤ max Config.watchdogLimit s.ref.watchdog) :
      StillEffect s i { s.still with ref := u }
  | issue (i) (hn : s.seals.remaining ≠ 0) : StillEffect s i { s.still with seals := s.seals.issued }
  | close (i k cause) : StillEffect s i { s.still with seq := s.seq.closed k cause }
  | count (i k n) (hr : s.seq.running = some k) : StillEffect s i { s.still with seq := { s.seq with armedRemaining := n } }
  | request (i rest) (q : Port) (v : State) (hq : q.bench = v.port.bench) (hv : RequestStill (s.dequeued rest) v) :
      StillEffect s i { v with port := q }

theorem StillEffect.of_eq {s v w : State} {i : Instr} (h : StillEffect s i v) (e : w = v) : StillEffect s i w := e ▸ h

/-- R49: the treatment of a stored slot changes the store alone of the still part. -/
theorem still_loadStored (s : State) (n : Nat) : ∃ p, (s.loadStored n).still = { s.still with store := p } := by
  have hm : ∀ (l : List (Option ProfileSlot)) n x,
      (setPlace l n x).map (fun _ => (none : Option ProfileSlot)) = l.map (fun _ => none) := by
    intro l n x; simp [List.map_const']
  unfold State.loadStored
  dsimp only
  split
  · exact ⟨s.store, by simp only [State.still, hm]⟩
  · exact ⟨s.store, by simp only [State.still, hm]⟩
  · exact ⟨{ s.store with faults := s.store.faults + 1 }, by simp only [State.still, hm]⟩

theorem still_loadSlot (s : State) : ∃ p, s.loadSlot.still = { s.still with store := p } := by
  obtain ⟨p, hl⟩ := still_loadStored s s.store.slot
  have hq : ∀ q : ProfileStore, State.still { s.loadStored s.store.slot with store := q } = { s.still with store := q } :=
    fun q => by
      show ({ (s.loadStored s.store.slot).still with store := q } : State) = _
      rw [hl]
  unfold State.loadSlot
  split
  · dsimp only
    split
    · exact ⟨_, hq _⟩
    · exact ⟨_, (still_sampleAll _).trans (hq _)⟩
  · exact ⟨s.store, rfl⟩
  · exact ⟨s.store, rfl⟩

theorem still_saveSlot (s : State) : ∃ p fl, s.saveSlot.still = { s.still with store := p, flash := fl } := by
  unfold State.saveSlot
  split
  · dsimp only; split <;> exact ⟨_, _, rfl⟩
  · exact ⟨s.store, s.flash, rfl⟩
  · exact ⟨s.store, s.flash, rfl⟩

theorem still_effect {s t : State} {i : Instr} (he : Effect s i t) : StillEffect s i t.still := by
  cases he with
  | nothing => exact .same _
  | powerOn => exact .powerOn
  | warmRestart =>
    exact (StillEffect.restart _ { s.port.restarted .resetLine with pendingSet := 0#8 } _ _ _ rfl).of_eq
      (still_warmRestart s _)
  | loadSlot =>
    obtain ⟨p, h⟩ := still_loadSlot s
    exact (StillEffect.store _ p s.flash).of_eq h
  | saveSlot =>
    obtain ⟨p, fl, h⟩ := still_saveSlot s
    exact (StillEffect.store _ p fl).of_eq h
  | busReset =>
    unfold State.busReset
    dsimp only
    split
    · exact (StillEffect.restart _ { s.port.busReset.restarted .restartRequest with pendingSet := 0#8 } _ _ _ rfl).of_eq
        (still_warmRestart _ _)
    · exact .port _ { s.port.busReset with pendingSet := 0#8 } rfl
  | acceptMessage bs =>
    unfold State.acceptMessage
    split
    · exact .port _ { s.port with pendingSet := 0#8, requests := _, requestWire := _ } rfl
    · exact .port _ { s.port with pendingSet := 0#8, requestWire := _ } rfl
  | deliverAnswer =>
    unfold State.deliverAnswer
    split
    · exact .port _ { s.port with pendingSet := 0#8, answerWire := _ } rfl
    · rename_i a rest _
      dsimp only
      split
      · exact (StillEffect.restart _ { Port.restarted .restartRequest { s.port with answers := rest, answerWire := .data a.wire }
          with pendingSet := 0#8 } _ _ _ rfl).of_eq (still_warmRestart _ _)
      · exact .port _ { s.port with pendingSet := 0#8, answers := _, answerWire := _ } rfl
  | pollAttention => exact .port _ { s.port with pendingSet := 0#8, attentionWire := _ } rfl
  | malformed => exact .port _ { s.port with pendingSet := 0#8, requests := _, answers := _ } rfl
  | request k tag args rest u c body ho hu =>
    exact .request _ rest { u.still.port with answers := _ } u.still rfl (request_still hu)
  | refEdge => exact .ref _ _ rfl (Nat.zero_le _)
  | watchdogTimeout =>
    unfold State.watchdogTimeout
    split
    · refine (StillEffect.ref _ (State.compareWatchdog { s with ref := s.ref.advanced }).ref ?_ ?_).of_eq
        (still_compareWatchdog _)
      · rw [compareWatchdog_ref]; rfl
      · rw [compareWatchdog_ref]; exact (Nat.min_le_left _ _).trans (le_max_left _ _)
    · exact .same _
  | sealStart p h =>
    obtain h | ⟨hn, h⟩ := still_sealStartTaken (s.claimTaken (ofLaneWork p)) p h
    · exact (StillEffect.same _).of_eq h
    · exact (StillEffect.issue (s := s) _ hn).of_eq h
  | refLoss =>
    obtain ⟨h, -⟩ | ⟨k, h⟩ := still_lossTaken (s.claimTaken isRefLoss)
    · exact (StillEffect.same _).of_eq h
    · exact (StillEffect.close _ k _).of_eq h
  | timerExpired =>
    obtain h | ⟨k, h⟩ := still_timerExpired s
    · exact (StillEffect.same _).of_eq h
    · exact (StillEffect.close _ k _).of_eq h
  | finishing p =>
    obtain h | ⟨k, n, hr, h⟩ | ⟨k, h⟩ := still_finishingTaken (s.claimTaken (isFinishing p))
    · exact (StillEffect.same _).of_eq h
    · exact (StillEffect.count (s := s) _ k n hr).of_eq h
    · exact (StillEffect.close _ k _).of_eq h
  | _ => exact (StillEffect.same _).of_eq (by simp)

end Sys2Proof.Machine
end

section
/-! Proofs of O6, O7 and O10: the seal numbers, the plan, Kref and the timers over a step. -/

namespace Sys2Proof.Machine

variable {s t v : State}

/-! ### Seal numbers (R177, R178) -/

/-- R178: a number issued while one remains keeps the allocator sound. -/
theorem SealAllocator.Sound.issued {a : SealAllocator} (h : a.Sound) (hn : a.remaining ≠ 0) : a.issued.Sound := by
  obtain ⟨h0, h1⟩ := h
  unfold SealAllocator.remaining at hn
  have hf : a.first ≠ 0 := fun hf => hn (if_pos hf)
  rw [if_neg hf] at hn
  have := h1 hf
  refine ⟨fun hz => absurd hz hf, fun _ => ?_⟩
  simp only [SealAllocator.issued]
  omega

/-- R180: a range above the last number issued is sound. -/
theorem SealAllocator.sound_withRange {a : SealAllocator} {first last : Nat} (hb : within Config.lastSeal last = true)
    (h0 : 1 ≤ first) (hab : first ≤ last) (hl : a.lastIssued < first) : (a.withRange first last).Sound := by
  simp only [within, Bool.and_eq_true, decide_eq_true_eq] at hb
  refine ⟨fun hz => absurd (show first = 0 from hz) (by omega), fun _ => ?_⟩
  simp only [SealAllocator.withRange]
  omega

/-- R178: the numbers issued so far lie below next, so that an issue does not lower the last one. -/
theorem SealAllocator.Sound.lastIssued_le {a : SealAllocator} (h : a.Sound) (hn : a.remaining ≠ 0) :
    a.lastIssued ≤ a.next := by
  obtain ⟨h0, h1⟩ := h
  unfold SealAllocator.remaining at hn
  have hf : a.first ≠ 0 := fun hf => hn (if_pos hf)
  have := h1 hf
  omega

/-- R177, R180: a request keeps the seal numbers sound and does not lower the last one issued. -/
theorem seals_request (hr : RequestStill s v) (hs : s.seals.Sound) :
    v.seals.Sound ∧ s.seals.lastIssued ≤ v.seals.lastIssued := by
  cases hr with
  | range a b hb h0 hab hl => exact ⟨SealAllocator.sound_withRange hb h0 hab hl, le_refl _⟩
  | _ => exact ⟨hs, le_refl _⟩

theorem seals_effect {i : Instr} (he : StillEffect s i v) (hs : s.seals.Sound) :
    v.seals.Sound ∧ (i ≠ .powerOn → s.seals.lastIssued ≤ v.seals.lastIssued) := by
  cases he with
  | powerOn => exact ⟨⟨fun _ => ⟨rfl, rfl, rfl⟩, fun h => absurd rfl h⟩, fun h => absurd rfl h⟩
  | issue _ hn => exact ⟨hs.issued hn, fun _ => hs.lastIssued_le hn⟩
  | request _ rest q v hq hv =>
    obtain ⟨h1, h2⟩ := seals_request hv hs
    exact ⟨h1, fun _ => h2⟩
  | _ => exact ⟨hs, fun _ => le_refl _⟩

/-- Settles O6: the seal numbers change by an issue, a new range and a power-on alone. -/
theorem sealNumbersStaySoundAndIncrease : Obligations.SealNumbersStaySoundAndIncrease := by
  intro s t hs h
  obtain ⟨-, rfl⟩ | ⟨i, rest, hq, he⟩ := step_cases h
  · have : s.tick.seals = s.seals := by unfold State.tick State.compareWatchdog; dsimp only; split <;> rfl
    rw [this]
    exact ⟨hs, fun _ => le_refl _⟩
  · obtain ⟨h1, h2⟩ := seals_effect (still_effect he) hs
    exact ⟨h1, fun hp => h2 (by rintro rfl; exact hp (by rw [hq]; rfl))⟩

/-! ### The plan and Kref (R83) -/

/-- R79, R81, R207: while a point runs, no request changes the plan or Kref. -/
theorem fixed_request (hr : RequestStill s v) (hs : s.seq.running ≠ none) : v.plan = s.plan ∧ v.ref.kref = s.ref.kref := by
  cases hr with
  | plan pl h => exact absurd h hs
  | start q lost h => exact absurd h hs
  | bench as lost h =>
    refine ⟨rfl, ?_⟩
    obtain h | h := h.kref
    · exact absurd h hs
    · suffices H : ∀ (as : List (Nat × Nat)) (w : State), (∀ a ∈ as, a.1 = 1 → a.2 = w.ref.kref) →
          (as.foldl (fun t a => t.assign a) w).ref.kref = w.ref.kref from H as s h
      intro as
      induction as with
      | nil => intro w _; rfl
      | cons a as ih =>
        intro w h
        have ha : (w.assign a).ref.kref = w.ref.kref := by
          have := h a (List.mem_cons_self ..)
          unfold State.assign
          dsimp only
          split <;> first | rfl | (rename_i h1; exact this h1)
        exact (ih _ (fun b hb h1 => (h b (List.mem_cons_of_mem _ hb) h1).trans ha.symm)).trans ha
  | _ => exact ⟨rfl, rfl⟩

theorem fixed_effect {i : Instr} (he : StillEffect s i v) (hs : s.seq.running ≠ none) (hi : i ≠ .powerOn) :
    v.plan = s.plan ∧ v.ref.kref = s.ref.kref := by
  cases he with
  | powerOn => exact absurd rfl hi
  | ref _ u hk => exact ⟨rfl, hk⟩
  | request _ rest q v hq hv => have h := fixed_request hv hs; exact h
  | _ => exact ⟨rfl, rfl⟩

/-- Settles O7: plan edits and a changed Kref are refused while a point runs. -/
theorem planAndKrefFixedWhileRunning : Obligations.PlanAndKrefFixedWhileRunning := by
  intro s t hs hp h
  have hr : s.seq.running ≠ none := by intro hn; rw [hn] at hs; cases hs
  obtain ⟨-, rfl⟩ | ⟨i, rest, hq, he⟩ := step_cases h
  · unfold State.tick State.compareWatchdog
    dsimp only
    split <;> exact ⟨rfl, rfl⟩
  · have h := fixed_effect (still_effect he) hr (by rintro rfl; exact hp (by rw [hq]; rfl))
    exact h

/-! ### The timers (R83, R97) -/

/-- R83, R97, R206: the sequencer at rest in IDLE, the watchdog time and the reference timeout in their ranges. -/
structure State.TimersBounded (s : State) : Prop where
  rested : s.seq.Rested
  bounded : s.ref.Bounded
  timeout : s.port.bench.refTimeout ≤ 10000

theorem Sequencer.rested_closed (k : Nat) (c : EndCause) (q : Sequencer) : (q.closed k c).Rested := fun _ => ⟨rfl, rfl⟩

theorem Sequencer.rested_of_running {q : Sequencer} (h : q.running ≠ none) : q.Rested := fun hn => absurd hn h

/-- R206: assignments within the ranges keep the reference timeout at most 10,000 ms. -/
theorem refTimeout_assigns (as : List (Nat × Nat)) (h : ∀ a ∈ as, benchInRange a.1 a.2 = true) (w : State)
    (hw : w.port.bench.refTimeout ≤ 10000) : (as.foldl (fun t a => t.assign a) w).port.bench.refTimeout ≤ 10000 := by
  induction as generalizing w with
  | nil => exact hw
  | cons a as ih =>
    refine ih (fun b hb => h b (List.mem_cons_of_mem _ hb)) _ ?_
    have ha := h a (List.mem_cons_self ..)
    unfold State.assign
    dsimp only
    split <;> first | exact hw | (rename_i h1; rw [h1] at ha; exact (of_decide_eq_true ha).2)

theorem timers_request (hr : RequestStill s v) (hs : s.TimersBounded) : v.TimersBounded := by
  obtain ⟨h1, h2, h3⟩ := hs
  cases hr with
  | bench as lost h => exact ⟨h1, h2, refTimeout_assigns as h.inRange s h3⟩
  | port q hq => exact ⟨h1, h2, hq ▸ h3⟩
  | start q lost hr hq => exact ⟨Sequencer.rested_of_running hq, h2, h3⟩
  | close k c => exact ⟨Sequencer.rested_closed _ _ _, h2, h3⟩
  | _ => exact ⟨h1, h2, h3⟩

theorem timers_effect {i : Instr} (he : StillEffect s i v) (hs : s.TimersBounded) : v.TimersBounded := by
  obtain ⟨h1, h2, h3⟩ := id hs
  cases he with
  | powerOn => exact ⟨fun _ => ⟨rfl, rfl⟩, Nat.zero_le _, show 1000 ≤ 10000 by decide⟩
  | port _ q hq => exact ⟨h1, h2, hq ▸ h3⟩
  | restart _ q p fl n hq => exact ⟨fun _ => ⟨rfl, rfl⟩, h2, hq ▸ h3⟩
  | ref _ u hk hw => exact ⟨h1, hw.trans (max_le (le_refl _) h2), h3⟩
  | close _ k c => exact ⟨Sequencer.rested_closed _ _ _, h2, h3⟩
  | count _ k n hr => exact ⟨Sequencer.rested_of_running (by rw [hr]; exact Option.some_ne_none k), h2, h3⟩
  | request _ rest q v hq hv =>
    obtain ⟨h1', h2', h3'⟩ : v.TimersBounded := timers_request hv ⟨h1, h2, h3⟩
    exact ⟨h1', h2', hq ▸ h3'⟩
  | _ => exact ⟨h1, h2, h3⟩

theorem timers_tick (hs : s.TimersBounded) : s.tick.TimersBounded := by
  obtain ⟨h1, h2, h3⟩ := hs
  have hr : Sequencer.Rested { s.seq with timer := tickTimer s.seq.timer } := fun hn => by
    obtain ⟨ht, ha⟩ := h1 hn
    exact ⟨by simp [ht, tickTimer], ha⟩
  unfold State.tick State.compareWatchdog
  dsimp only
  split <;> exact ⟨hr, Nat.min_le_left _ _, h3⟩

/-- Settles O10: the timers' bounds over the cases of a step. -/
theorem timersStayBounded : Obligations.TimersStayBounded := by
  intro s t h1 h2 h3 h
  suffices H : t.TimersBounded from ⟨H.rested, H.bounded, H.timeout⟩
  obtain ⟨-, rfl⟩ | ⟨i, rest, hq, he⟩ := step_cases h
  · exact timers_tick ⟨h1, h2, h3⟩
  · obtain ⟨h1', h2', h3'⟩ := timers_effect (still_effect he) ⟨h1, h2, h3⟩
    exact ⟨h1', h2', h3'⟩

end Sys2Proof.Machine
end

section
/-! Proof of O5: after every step no lane stands IDLE while a position of its lane requests (R152). A step ends in an
arbitration of every lane, or it makes no lane IDLE and no position requesting. -/

namespace Sys2Proof.Machine

/-- t has no lane IDLE and no position requesting that s has not. -/
structure Quieter (s t : State) : Prop where
  lanes : ∀ l, (t.lane l).state = .idle → (s.lane l).state = .idle
  requests : ∀ p, t.requesting p = true → s.requesting p = true

variable {s t u : State}

namespace Quieter

theorem refl (s : State) : Quieter s s := ⟨fun _ h => h, fun _ h => h⟩

theorem trans (h : Quieter s t) (h' : Quieter t u) : Quieter s u :=
  ⟨fun l hl => h.lanes l (h'.lanes l hl), fun p hp => h.requests p (h'.requests p hp)⟩

/-- R152: a quieter state of a served one is served. -/
theorem served (h : Quieter s t) (hs : s.LanesServed) : t.LanesServed := by
  intro l hl hi p hp hpl
  by_contra hr
  have := hs l hl (h.lanes l hi) p hp hpl
  rw [h.requests p (by simpa using hr)] at this
  cases this

/-- A change of neither lanes nor positions. -/
theorem of_same (hl : t.lanes = s.lanes) (hp : t.positions = s.positions) : Quieter s t :=
  ⟨fun l h => by rwa [State.lane_congr hl] at h,
    fun p h => by rwa [State.requesting_congr (State.position_congr hp p)] at h⟩

end Quieter

/-! ### What is quieter -/

/-- A further change of neither lanes nor positions. -/
theorem Quieter.same (h : Quieter s t) (hl : u.lanes = t.lanes) (hp : u.positions = t.positions) : Quieter s u :=
  h.trans (.of_same hl hp)

/-- A change of a position that gives it no requesting item. -/
theorem quieter_updPosition (s : State) (p : Nat) {f : Position → Position}
    (hf : ∀ x i, (f x).item = some i → i.requesting = true → ∃ j, x.item = some j ∧ j.requesting = true) :
    Quieter s (s.updPosition p f) := by
  refine ⟨fun l h => h, fun q h => ?_⟩
  by_cases hq : q = p
  · subst hq
    simp only [State.requesting, State.position, State.updPosition_positions, place_updPlace_same] at h ⊢
    cases hx : place s.positions q with
    | none => rw [hx] at h; exact h
    | some x =>
      rw [hx] at h
      simp only [Option.map_some, Option.getD_some] at h ⊢
      cases hi : (f x).item with
      | none => rw [hi] at h; cases h
      | some i =>
        rw [hi] at h
        obtain ⟨j, hj, hr⟩ := hf x i hi h
        rw [hj]; exact hr
  · rwa [State.requesting_congr (State.position_updPosition_other s f hq)] at h

/-- A change of a position that leaves its item. -/
theorem quieter_keepingItem (s : State) (p : Nat) {f : Position → Position} (hf : ∀ x, (f x).item = x.item) :
    Quieter s (s.updPosition p f) :=
  quieter_updPosition s p fun x i hi hr => ⟨i, (hf x) ▸ hi, hr⟩

/-- R153: a work item withdrawn requests no more. -/
theorem quieter_withdrawUngranted (s : State) (p : Nat) (w : Work → Bool) : Quieter s (s.withdrawUngranted p w) :=
  quieter_updPosition s p fun _ i hi hr => ⟨i, (Option.filter_eq_some_iff.mp hi).1, hr⟩

theorem Quieter.keepingItem (h : Quieter s t) (p : Nat) {f : Position → Position} (hf : ∀ x, (f x).item = x.item) :
    Quieter s (t.updPosition p f) := h.trans (quieter_keepingItem t p hf)

theorem quieter_raiseIf (s : State) (b : Bool) (c : Condition) : Quieter s (s.raiseIf b c) := by
  cases b <;> exact .of_same rfl rfl

theorem quieter_moveTo (s : State) (p : Nat) (st : PositionState) : Quieter s (s.moveTo p st) := by
  refine Quieter.trans ?_ (quieter_raiseIf _ _ _)
  exact quieter_keepingItem s p fun _ => rfl

theorem quieter_markGiven (s : State) (p : Nat) (b : Bool) : Quieter s (s.markGiven p b) :=
  quieter_keepingItem s p fun _ => rfl

theorem quieter_giveGone (s : State) (r : Record) (b : Bool) : Quieter s (s.giveGone r b) := by
  unfold State.giveGone
  split
  · exact quieter_markGiven _ _ _
  · exact .refl s

theorem quieter_withdrawWrite (s : State) (r : Record) : Quieter s (s.withdrawWrite r) := by
  unfold State.withdrawWrite
  split
  · exact quieter_giveGone _ _ _
  · exact quieter_withdrawUngranted _ _ _

theorem quieter_reject (s : State) (n : Nat) (c : RejectCause) : Quieter s (s.reject n c) := by
  have h : Quieter s (match s.recordAt n with
      | none => s
      | some r => s.withdrawWrite r) := by
    split
    · exact .refl s
    · exact quieter_withdrawWrite _ _
  exact h.trans (.of_same rfl rfl)

/-- R22: a record that returns to PASSED is not put to the auto-seal test, so no work is given. -/
theorem quieter_returnToPassed (s : State) (n : Nat) : Quieter s (s.returnToPassed n) := by
  have hm : Quieter s (s.moveRecord n .passed) := .of_same rfl rfl
  unfold State.returnToPassed State.evaluate
  cases hr : s.recordAt n with
  | none =>
    have : (s.moveRecord n .passed).recordAt n = none := by
      show ((s.updRecord n fun r => { r with state := .passed }).recordAt n) = none
      rw [State.recordAt_updRecord s n n (fun r => { r with state := .passed }) (fun _ => rfl), hr]; simp
    rw [this]; exact hm
  | some r =>
    rw [State.recordAt_moved .passed hr]
    dsimp only
    split
    · exact hm
    · exact hm.trans (.of_same rfl rfl)

theorem quieter_spoilAttempt (s : State) (n : Nat) : Quieter s (s.spoilAttempt n) := by
  have h1 : Quieter s (s.updRecord n fun r => { r.spoil with sealAttempts := r.sealAttempts + 1 }) := .of_same rfl rfl
  unfold State.spoilAttempt
  dsimp only
  split
  · exact h1
  · split
    · exact h1.trans (quieter_reject _ _ _)
    · exact h1.trans (quieter_returnToPassed _ _)

theorem quieter_settleRecord (s : State) (n : Nat) (ph : Option AbandonPhase) : Quieter s (s.settleRecord n ph) := by
  unfold State.settleRecord
  split
  · exact .refl s
  · split
    · unfold State.settleWriting
      split
      · exact quieter_reject _ _ _
      · exact .of_same rfl rfl
    · unfold State.settleSealing
      split
      · exact .refl s
      · split
        · exact quieter_spoilAttempt _ _
        · exact quieter_returnToPassed _ _
    all_goals exact .refl s

theorem quieter_takeOrphan (s : State) (p : Nat) (h : Handle) (ph : Option AbandonPhase) :
    Quieter s (s.takeOrphan p h ph) := by
  unfold State.takeOrphan
  split
  · exact .refl s
  · split
    · have h1 : Quieter s (s.withdrawWork p) := (quieter_withdrawUngranted s p _).trans (quieter_markGiven _ _ _)
      have h2 : Quieter (s.withdrawWork p) ((s.withdrawWork p).discardOutcomes p) := .of_same rfl rfl
      refine Quieter.trans ?_ (quieter_settleRecord _ _ _)
      refine Quieter.keepingItem (t := _) ?_ p fun _ => rfl
      exact (h1.trans h2).same rfl rfl
    · exact .refl s

theorem quieter_sample (s : State) (p : Nat) : Quieter s (s.sample p) := by
  unfold State.sample
  dsimp only
  split
  · exact .refl s
  · refine Quieter.trans ?_ (quieter_moveTo _ _ _)
    exact quieter_keepingItem s p fun _ => rfl

theorem quieter_foldl {α : Type} (f : State → α → State) (hf : ∀ v a, Quieter v (f v a)) (l : List α) (s : State) :
    Quieter s (l.foldl f s) := by
  induction l generalizing s with
  | nil => exact .refl s
  | cons a l ih => exact (hf s a).trans (ih _)

theorem quieter_sampleAll (s : State) : Quieter s s.sampleAll := quieter_foldl _ (fun v p => quieter_sample v p) _ s

theorem position_mapCmps (s : State) (f : Nat → Comparator → Comparator) (p : Nat) (hp : 1 ≤ p)
    (hl : p ≤ s.positions.length) : (s.mapCmps f).position p = { s.position p with cmp := f p (s.position p).cmp } := by
  obtain ⟨n, rfl⟩ : ∃ n, p = n + 1 := ⟨p - 1, by omega⟩
  have hn : n < s.positions.length := hl
  simp [State.position, State.mapCmps, place, hn]

theorem quieter_mapCmps (s : State) (f : Nat → Comparator → Comparator) : Quieter s (s.mapCmps f) := by
  refine ⟨fun l h => h, fun p h => ?_⟩
  by_cases hp : 1 ≤ p ∧ p ≤ s.positions.length
  · simpa [State.requesting, position_mapCmps s f p hp.1 hp.2] using h
  · have hn : (s.mapCmps f).position p = s.position p := by
      cases p with
      | zero => rfl
      | succ n =>
        have : s.positions.length ≤ n := by omega
        simp [State.position, State.mapCmps, place, this]
    rwa [State.requesting_congr hn] at h

theorem quieter_count (s : State) (p : Nat) (f : Comparator → Counted) : Quieter s (s.count p f) := by
  have h : Quieter s (s.updCmp p fun _ => (f (s.position p).cmp).cmp) := quieter_keepingItem s p fun _ => rfl
  exact h.same rfl rfl

theorem quieter_compareWatchdog (s : State) : Quieter s s.compareWatchdog := by
  unfold State.compareWatchdog; split <;> exact .of_same rfl rfl

theorem quieter_startPoint (s : State) (k : Nat) (pt : Point) : Quieter s (s.startPoint k pt) := by
  refine Quieter.trans ?_ (quieter_compareWatchdog _)
  exact (quieter_mapCmps s fun p c => (s.armingOf k p).getD c).same rfl rfl

theorem quieter_assigns (s : State) (as : List (Nat × Nat)) : Quieter s (as.foldl (fun t a => t.assign a) s) :=
  quieter_foldl _ (fun v a => by unfold State.assign; dsimp only; split <;> exact .of_same rfl rfl) as s

theorem quieter_benchEffects (s : State) (b : Bench) : Quieter s (s.benchEffects b) := by
  have h1 : Quieter s (if s.port.bench.refTimeout = b.refTimeout then s else s.compareWatchdog) := by
    split
    · exact .refl s
    · exact quieter_compareWatchdog s
  unfold State.benchEffects
  generalize (if s.port.bench.refTimeout = b.refTimeout then s else s.compareWatchdog) = v at h1
  dsimp only
  split
  · exact h1.trans (quieter_sampleAll v)
  · exact h1

theorem quieter_sendTurn (s : State) (l p : Nat) : Quieter s (s.sendTurn l p) :=
  ⟨fun m h => by rwa [laneState_sendTurn] at h, fun q h => by rwa [requesting_sendTurn] at h⟩

theorem quieter_setWork (s : State) (p : Nat) (w : Work) : Quieter s (s.setWork p w) :=
  quieter_updPosition s p fun x i hi hr => by
    obtain ⟨j, hj, rfl⟩ := Option.map_eq_some_iff.mp hi
    exact ⟨j, hj, hr⟩

theorem quieter_issueSeal (s : State) : Quieter s s.issueSeal := by
  refine Quieter.trans ?_ (quieter_raiseIf _ _ _)
  refine Quieter.trans ?_ (quieter_raiseIf _ _ _)
  exact .of_same rfl rfl

/-- R156: a lane whose last frame has been sent is not IDLE. -/
theorem quieter_sendDone (s : State) (l : Nat) : Quieter s (s.sendDone l) := by
  unfold State.sendDone
  split
  · split
    · exact .refl s
    · rename_i p hg _
      refine ⟨fun m h => ?_, fun q h => h⟩
      by_cases hm : m = l
      · subst hm
        simp only [State.lane, State.updLane_lanes, place_updPlace_same] at h hg
        cases hx : place s.lanes m with
        | none => rw [hx] at hg; cases hg
        | some x => rw [hx] at h; cases h
      · rwa [State.lane_updLane_other s _ hm] at h
  · exact .refl s
  · exact .refl s

/-! ### The cases of a step -/

/-- R152: what ends in an arbitration is served. -/
theorem served_settle (h : s.Shaped) : s.settle.LanesServed := settle_served s h.2.1

/-- A step's effect ends in an arbitration, or is quieter. -/
inductive Ends (s : State) : State → Prop
  | settled (v : State) : Ends s v.settle
  | answered (v : State) (a : Answer) (h : Ends s v) : Ends s (v.putAnswer a)
  | quieter (v : State) (h : Quieter s v) : Ends s v

theorem Ends.served (h : Ends s t) (ht : t.Shaped) (hs : s.LanesServed) : t.LanesServed := by
  induction h with
  | settled u => exact served_settle (still_shaped (still_settle u).symm ht)
  | quieter t h => exact h.served hs
  | answered v a h ih => have := ih ht; exact this

theorem request_ends (hr : RequestEffect s u) : Ends s u := by
  cases hr with
  | nothing | port | dropProfile | saveProfiles => exact .quieter _ (.of_same rfl rfl)
  | setBench as => exact .quieter _ ((quieter_assigns s as).trans (quieter_benchEffects _ _))
  | startPoint k pt => exact .quieter _ (quieter_startPoint s k pt)
  | amendTrim h r t v =>
    unfold State.amendTrim
    dsimp only
    split
    · exact .settled _
    · exact .quieter _ (.of_same rfl rfl)
  | reject h r c => exact .quieter _ (quieter_reject s _ _)
  | clearFlags h r =>
    unfold State.clearFlags
    dsimp only
    split
    · exact .settled _
    · exact .quieter _ (.of_same rfl rfl)
  | setSealRange a b low =>
    refine .quieter _ (Quieter.trans ?_ (quieter_raiseIf _ _ _))
    exact .of_same rfl rfl
  | _ => exact .settled _

/-- R65, R172: an outcome that is not discarded ends in an arbitration. -/
theorem onWriting_ends (s : State) (p : Nat) (h : Handle) (f : Record → State → State) : Ends s (s.onWriting p h f) := by
  unfold State.onWriting
  (repeat' split) <;> first | exact .settled _ | exact .quieter _ (.refl s)

theorem onLock_ends (s : State) (p : Nat) (h : Handle) (f : State → State) : Ends s (s.onLock p h f) := by
  unfold State.onLock
  (repeat' split) <;> first | exact .settled _ | exact .quieter _ (.refl s)

theorem writeStartTaken_ends (s : State) (p : Nat) (h : Handle) : Ends s (s.writeStartTaken p h) := by
  unfold State.writeStartTaken
  dsimp only
  split
  · exact .settled _
  split
  · exact .settled _
  split
  · refine .quieter _ (Quieter.trans ?_ (quieter_sendTurn _ _ _))
    refine Quieter.trans ?_ (quieter_setWork _ p _)
    exact .of_same rfl rfl
  · exact .settled _

theorem sealStartTaken_ends (s : State) (p : Nat) (h : Handle) : Ends s (s.sealStartTaken p h) := by
  unfold State.sealStartTaken
  dsimp only
  split
  · exact .settled _
  split
  · exact .settled _
  split
  · split
    · exact .settled _
    split
    · exact .settled _
    refine .quieter _ (Quieter.trans ?_ (quieter_sendTurn _ _ _))
    refine Quieter.trans ?_ (quieter_setWork _ p _)
    exact (quieter_issueSeal s).same rfl rfl
  · exact .settled _

/-- Taking a claim is no lane's work. -/
theorem Ends.of_claimTaken {f : Claim → Bool} (h : Ends (s.claimTaken f) t) : Ends s t := by
  induction h with
  | settled u => exact .settled u
  | quieter t h => exact .quieter t (Quieter.trans (t := s.claimTaken f) (.of_same rfl rfl) h)
  | answered v a h ih => exact .answered v a ih

/-- R197: taking a request's message and placing its answer is no lane's work. -/
theorem Ends.of_dequeued {rest : List Message} (h : Ends (s.dequeued rest) t) : Ends s t := by
  induction h with
  | settled u => exact .settled u
  | quieter t h => exact .quieter t (Quieter.trans (t := s.dequeued rest) (.of_same rfl rfl) h)
  | answered v a h ih => exact .answered v a ih

theorem warmRestart_ends (s u : State) (c : WarmCause) : Ends s (u.warmRestart c) := .settled _

/-- Every step but a power-on ends with the lanes as settled as they were. -/
theorem effect_ends {i : Instr} (he : Effect s i t) : t = s.poweredOn ∨ Ends s t := by
  refine or_iff_not_imp_left.mpr fun hne => ?_
  cases he with
  | powerOn => exact absurd rfl hne
  | nothing | pollAttention | malformed | refEdge => exact (.quieter _ (.of_same rfl rfl))
  | warmRestart => exact (warmRestart_ends s s _)
  | loadSlot =>
    have hl : Quieter s (s.loadStored s.store.slot) := by
      unfold State.loadStored; dsimp only; split <;> exact .of_same rfl rfl
    unfold State.loadSlot
    split
    · dsimp only
      split
      · exact .quieter _ (hl.same rfl rfl)
      · refine .quieter _ (Quieter.trans ?_ (quieter_sampleAll _))
        exact hl.same rfl rfl
    · exact (.quieter _ (.refl s))
    · exact (.quieter _ (.refl s))
  | saveSlot =>
    refine (.quieter _ ?_)
    unfold State.saveSlot; dsimp only; (repeat' split) <;> exact .of_same rfl rfl
  | busReset =>
    unfold State.busReset
    dsimp only
    split
    · exact (warmRestart_ends s _ _)
    · exact (.quieter _ (.of_same rfl rfl))
  | acceptMessage =>
    refine (.quieter _ ?_)
    unfold State.acceptMessage; split <;> exact .of_same rfl rfl
  | deliverAnswer =>
    unfold State.deliverAnswer
    split
    · exact (.quieter _ (.of_same rfl rfl))
    · dsimp only
      split
      · exact (warmRestart_ends s _ _)
      · exact (.quieter _ (.of_same rfl rfl))
  | request k tag args rest u c body ho hu =>
    exact .answered u _ (request_ends hu).of_dequeued
  | presence p high =>
    refine (.quieter _ ?_)
    have h1 : Quieter s (s.updPosition p fun x => { x with pin := high }) := quieter_keepingItem s p fun _ => rfl
    unfold State.presence
    dsimp only
    split
    · exact h1.trans (quieter_sample _ p)
    · exact h1
  | debounced p =>
    have h1 : Quieter s (s.updPosition p fun x => { x with taken := x.raw, debounce := none }) :=
      quieter_keepingItem s p fun _ => rfl
    unfold State.debounced
    dsimp only
    (repeat' split) <;> first | exact (.settled _) | exact (.quieter _ h1) | exact (.quieter _ (.refl s))
  | sendDone l => exact (.quieter _ (quieter_sendDone s l))
  | receive l bs =>
    unfold State.receive
    dsimp only
    (repeat' split) <;> first | exact (.settled _) | exact (.quieter _ (.refl s))
  | replyTimeout l =>
    unfold State.replyTimeout
    (repeat' split) <;> first | exact (.settled _) | exact (.quieter _ (.refl s))
  | creation | rebind | result => exact (.settled _)
  | orphan p h ph => exact (.of_claimTaken (.quieter _ (quieter_takeOrphan _ p h ph)))
  | flag p h f =>
    refine .of_claimTaken (f := ofComparator p) (.quieter _ ?_)
    unfold State.takeFlag; (repeat' split) <;> exact .of_same rfl rfl
  | writeStart p h => exact (.of_claimTaken (writeStartTaken_ends _ p h))
  | sealStart p h => exact (.of_claimTaken (sealStartTaken_ends _ p h))
  | commitMatch | stageFailed | commitFail => exact (.of_claimTaken (onWriting_ends _ _ _ _))
  | locked | refused | noReply => exact (.of_claimTaken (onLock_ends _ _ _ _))
  | watchdogTimeout =>
    refine (.quieter _ ?_)
    unfold State.watchdogTimeout
    split
    · refine Quieter.trans ?_ (quieter_compareWatchdog _)
      exact .of_same rfl rfl
    · exact .refl s
  | refLoss =>
    unfold State.lossTaken
    split
    · exact (.quieter _ (.of_same rfl rfl))
    · exact (.settled _)
  | timerExpired =>
    unfold State.timerExpired
    split
    · exact (.settled _)
    · exact (.quieter _ (.refl s))
  | finishing p =>
    unfold State.finishingTaken
    dsimp only
    (repeat' split) <;> first | exact (.settled _) | exact (.quieter _ (.of_same rfl rfl))
  | meterActive p tr time => exact .quieter _ (quieter_keepingItem s p fun _ => rfl)
  | meterOpposite p tr time => exact .quieter _ (quieter_count s p _)
  | glitchTestEnd p => exact .quieter _ (quieter_count s p _)

/-- R71: after a power-on no position holds an item. -/
theorem served_poweredOn (s : State) : s.poweredOn.LanesServed := by
  intro l hl hi p hp hpl
  obtain ⟨h1, h2⟩ := isPosition_iff.mp hp
  obtain ⟨n, rfl⟩ : ∃ n, p = n + 1 := ⟨p - 1, by omega⟩
  have hn : n < 48 := h2
  simp [State.requesting, State.position, State.poweredOn, place, places, hn, Position.powerOn]

theorem quieter_tick (s : State) : Quieter s s.tick := by
  refine Quieter.trans ?_ (quieter_compareWatchdog _)
  refine ⟨fun l h => ?_, fun p h => ?_⟩
  · cases hx : place s.lanes l <;> simp_all [State.lane, place_map]
  · cases hx : place s.positions p <;> simp_all [State.requesting, State.position, place_map]

/-- Settles O5: a step that does not end in an arbitration is quieter, or powers the part on. -/
theorem lanesStayServed : Obligations.LanesStayServed := by
  intro s t hsh hs h
  obtain ⟨-, rfl⟩ | ⟨i, rest, hq, he⟩ := step_cases h
  · exact (quieter_tick s).served hs
  · have ht : t.Shaped := shaped_effect he hsh
    obtain rfl | hends := effect_ends he
    · exact served_poweredOn _
    · exact hends.served ht hs

end Sys2Proof.Machine
end

section
/-! Proofs of O1, O2, O16, O17, O22, O23 and O57: single steps, the PASSED condition, power-on, the answering of
requests, the reports and the reference watchdog. -/

namespace Sys2Proof.Machine

variable {s : State}

/-! ### Steps -/

theorem step_of_empty (h : s.pending = []) : step s = .next s.tick := by
  simp [step, h]

theorem step_of_front {c : Instr} {rest : List Instr} (h : s.pending = c :: rest) :
    step s = exec c { s with pending := rest } := by
  simp [step, h]

/-- Settles O1. -/
theorem stepRunsFrontCommand : Obligations.StepRunsFrontCommand :=
  fun _ _ _ h => step_of_front h

/-! ### The watchdog's comparison (R97) -/

/-- R97: the comparison reports a loss where a point runs, none is reported yet and the time has reached the timeout. -/
theorem compareWatchdog_late (h : s.seq.running.isSome = true) (hl : s.ref.lossReported = false)
    (ht : s.port.bench.refTimeout ≤ s.ref.watchdog) :
    s.compareWatchdog = { s with ref := { s.ref with lossReported := true }, inFlight := s.inFlight ++ [.refLoss] } :=
  if_pos ⟨h, hl, ht⟩

theorem compareWatchdog_else (h : ¬ (s.seq.running.isSome = true ∧ s.ref.lossReported = false ∧
    s.port.bench.refTimeout ≤ s.ref.watchdog)) : s.compareWatchdog = s := if_neg h

/-- R97: what the comparison leaves, whether it reports or not. -/
theorem compareWatchdog_frame (s : State) : s.compareWatchdog =
    { s with ref := { s.ref with lossReported := s.compareWatchdog.ref.lossReported },
             inFlight := s.compareWatchdog.inFlight } := by
  unfold State.compareWatchdog
  split <;> rfl

/-- The part with every running timer one ms later, before the watchdog's comparison. -/
def State.ticked (s : State) : State :=
  { s with
    ref := s.ref.advanced
    seq := { s.seq with timer := tickTimer s.seq.timer }
    positions := s.positions.map (fun x => { x with debounce := tickTimer x.debounce })
    lanes := s.lanes.map (fun x => { x with timer := tickTimer x.timer }) }

theorem tick_eq (s : State) : s.tick = s.ticked.compareWatchdog := rfl

theorem position_ticked (s : State) (p : Nat) :
    s.ticked.position p = { s.position p with debounce := (s.position p).debounce.map (· - 1) } := by
  cases h : place s.positions p with
  | none => simp [State.position, State.ticked, place_map, h, Position.powerOn]
  | some x => simp [State.position, State.ticked, place_map, h, tickTimer]

theorem lane_ticked (s : State) (l : Nat) :
    s.ticked.lane l = { s.lane l with timer := (s.lane l).timer.map (· - 1) } := by
  cases h : place s.lanes l with
  | none => simp [State.lane, State.ticked, place_map, h, Lane.powerOn]
  | some x => simp [State.lane, State.ticked, place_map, h, tickTimer]

/-- Settles O2: the timers are those of `ticked`, and the comparison changes the mark and the claims alone. -/
theorem emptyQueueIsOneMillisecond : Obligations.EmptyQueueIsOneMillisecond := by
  intro s h
  refine ⟨s.tick, step_of_empty h, ?_⟩
  rw [tick_eq]
  by_cases hl : s.ticked.seq.running.isSome = true ∧ s.ticked.ref.lossReported = false ∧
      s.ticked.port.bench.refTimeout ≤ s.ticked.ref.watchdog
  · rw [compareWatchdog_late hl.1 hl.2.1 hl.2.2]
    refine ⟨rfl, rfl, rfl, fun p _ => position_ticked s p, fun l _ => lane_ticked s l, ?_, rfl, rfl, rfl, rfl, rfl⟩
    exact (if_pos hl).symm ▸ ⟨rfl, rfl⟩
  · rw [compareWatchdog_else hl]
    refine ⟨rfl, rfl, rfl, fun p _ => position_ticked s p, fun l _ => lane_ticked s l, ?_, rfl, rfl, rfl, rfl, rfl⟩
    exact (if_neg hl).symm ▸ ⟨rfl, rfl⟩

/-! ### The PASSED condition (R21) -/

theorem mem_places {k n : Nat} : n ∈ places k ↔ within k n = true := by
  simp only [places, List.mem_map, List.mem_range, within, Bool.and_eq_true, decide_eq_true_eq]
  constructor
  · rintro ⟨m, hm, rfl⟩; omega
  · rintro ⟨h1, h2⟩; exact ⟨n - 1, by omega, by omega⟩

theorem Elements.suits_iff (e : Elements) (n : Nat) : e.suits n = true ↔ e = .a ∨ e = .abc ∨ n = 3 := by
  cases e <;> simp [Elements.suits]

theorem Point.names_iff (pt : Point) (c : Nat) :
    pt.names c = true ↔ within 16 c = true ∧ pt.mask.getLsbD (c - 1) = true := by
  simp [Point.names]

/-- R77: when the point at an index applies to a record whose profile is loaded. -/
theorem State.applies_iff {k : Nat} {r : Record} {pf : Profile} (hpf : s.profileAt r.profile = some pf) :
    s.applies k r = true ↔ ∃ pt, s.pointAt k = some pt ∧ within 16 r.profile = true ∧
      pt.mask.getLsbD (r.profile - 1) = true ∧ (pt.elements = .a ∨ pt.elements = .abc ∨ pf.elementCount = 3) := by
  cases hpt : s.pointAt k with
  | none => simp [State.applies, hpt]
  | some pt => simp [State.applies, hpt, hpf, Elements.suits_iff, Point.names_iff, and_assoc]

theorem State.passedCondition_iff (s : State) (r : Record) :
    s.passedCondition r = true ↔ (∃ k, within 24 k = true ∧ s.applies k r = true) ∧
      ∀ k, within 24 k = true → s.applies k r = true → (r.entry k).status = .pass := by
  simp [State.passedCondition, mem_places, or_iff_not_imp_left]

/-- Settles O16. -/
theorem passedConditionIsAllPass : Obligations.PassedConditionIsAllPass := by
  intro s r pf hpf applies
  simp only [State.passedCondition_iff, State.applies_iff hpf]
  exact Iff.rfl

/-! ### Power-on (R210) -/

theorem place_places {n k : Nat} (h : within k n = true) : place (places k) n = some n := by
  simp only [within, Bool.and_eq_true, decide_eq_true_eq] at h
  obtain ⟨m, rfl⟩ : ∃ m, n = m + 1 := ⟨n - 1, by omega⟩
  simp [place, places, show m < k by omega]

theorem within_of_isPosition {p : Nat} (h : isPosition p = true) : within 48 p = true := h

theorem within_of_isLane {l : Nat} (h : isLane l = true) : within 6 l = true := h

theorem position_poweredOn {p : Nat} (hp : isPosition p = true) :
    s.poweredOn.position p = Position.powerOn (s.position p).pin := by
  simp [State.position, State.poweredOn, place_map, place_places (within_of_isPosition hp)]

theorem lane_reset {l : Nat} (hl : isLane l = true) : State.reset.lane l = Lane.powerOn l := by
  show (place ((places 6).map Lane.powerOn) l).getD (Lane.powerOn l) = _
  rw [place_map, place_places (within_of_isLane hl)]
  rfl

/-- R51: the flash after a cut differs at the slot in hand alone, and there only while a save was in progress. -/
theorem cutFlash_of_not_saving (h : s.store.activity ≠ .saving) : s.cutFlash = s.flash := by
  simp [State.cutFlash, h]

theorem place_cutFlash_other {n : Nat} (h : n ≠ s.store.slot) : place s.cutFlash n = place s.flash n := by
  unfold State.cutFlash
  split
  · exact place_setPlace_other _ _ h
  · rfl

/-- Settles O17. -/
theorem powerOnRebuildsTheBlocks : Obligations.PowerOnRebuildsTheBlocks := by
  intro s
  exact ⟨s.poweredOn, rfl, rfl, rfl, rfl, rfl, rfl, rfl, rfl, rfl, rfl, rfl, fun _ hp => position_poweredOn hp,
    fun _ hl => lane_reset hl, rfl, cutFlash_of_not_saving, fun _ hn => place_cutFlash_other hn⟩

/-! ### The reference (R95, R97, R98) -/

theorem exec_refWatchdogTimeout (s : State) : exec .refWatchdogTimeout s = .next s.watchdogTimeout := rfl

/-- R97, R98: where the next ms does not bring the time to the timeout, no arrival is due. -/
theorem watchdogTimeout_early (h : ¬ (s.seq.running.isSome = true ∧ s.ref.lossReported = false ∧
    s.port.bench.refTimeout ≤ s.ref.advanced.watchdog)) : s.watchdogTimeout = s := if_neg h

/-- R97, R98: where it does, the loss is reported. -/
theorem watchdogTimeout_due (h : s.seq.running.isSome = true) (hl : s.ref.lossReported = false)
    (ht : s.port.bench.refTimeout ≤ s.ref.advanced.watchdog) : s.watchdogTimeout =
      { s with ref := { s.ref.advanced with lossReported := true }, inFlight := s.inFlight ++ [.refLoss] } := by
  unfold State.watchdogTimeout
  rw [if_pos ⟨h, hl, ht⟩]
  exact compareWatchdog_late (s := { s with ref := s.ref.advanced }) h hl ht

/-- Settles O57. -/
theorem referenceEdgesAndWatchdog : Obligations.ReferenceEdgesAndWatchdog := by
  refine fun s => ⟨rfl, ⟨fun h => ?early, fun hr hl ht => ?due⟩, fun t u h1 ht hu => ?afterEdge⟩
  case early =>
    rw [exec_refWatchdogTimeout, watchdogTimeout_early]
    rintro ⟨hr, hl, ht⟩
    rcases h with hn | hm | hlt
    · rw [hn] at hr; cases hr
    · rw [hm] at hl; cases hl
    · exact absurd ht (Nat.not_le.mpr hlt)
  case due =>
    rw [exec_refWatchdogTimeout, watchdogTimeout_due (Option.isSome_iff_ne_none.mpr hr) hl ht]
    rfl
  case afterEdge =>
    cases ht
    rw [exec_refWatchdogTimeout, watchdogTimeout_early] at hu
    · cases hu; rfl
    · rintro ⟨-, -, h⟩
      have : s.port.bench.refTimeout ≤ min 10000 (0 + 1) := h
      omega

end Sys2Proof.Machine
end

section
/-! Proofs of O20, O22, O28, O31, O32, O42 and O43: the pipes, and requests whose effect is one change. -/

namespace Sys2Proof.Machine

variable {s : State}

/-! ### The pipes (R196, R199, R200) -/

theorem State.accepting_iff : s.accepting = true ↔
    s.port.requests.length < 4 ∧ s.store.activity ≠ .loading ∧ s.port.restartPending = false := by
  simp only [State.accepting, State.sampling, Bool.and_eq_true, decide_eq_true_eq, Bool.not_eq_true', and_assoc]
  exact Iff.rfl

theorem exec_accepted {bytes : List Byte} (h : s.accepting = true) :
    exec (.requestMessageAccepted bytes) s = .next { s with port := { s.port with
      requests := s.port.requests ++ [messageOf bytes], requestWire := .accepted } } :=
  congrArg Host.Outcome.next (if_pos h)

theorem exec_not_accepted {bytes : List Byte} (h : ¬ s.accepting = true) :
    exec (.requestMessageAccepted bytes) s = .next { s with port := { s.port with requestWire := .nak } } :=
  congrArg Host.Outcome.next (if_neg h)

theorem exec_answerDelivered (s : State) : exec .answerDelivered s = .next s.deliverAnswer := rfl

theorem Answer.isRestartOk_iff {a : Answer} : a.isRestartOk = true ↔ a.kind = 0x04#8 ∧ a.code = .ok := by
  simp only [Answer.isRestartOk, Bool.and_eq_true, decide_eq_true_eq]
  exact Iff.rfl

/-- R199: the oldest answer is delivered, and is not one that makes a restart. -/
theorem deliverAnswer_plain {a : Answer} {rest : List Answer} (ha : s.port.answers = a :: rest)
    (h : ¬ (s.port.restartPending = true ∧ a.isRestartOk = true)) :
    s.deliverAnswer = { s with port := { s.port with answers := rest, answerWire := .data a.wire } } := by
  simp only [State.deliverAnswer, ha, if_neg h]

/-- R211: the delivery of a pending RESTART's OK answer makes the restart. -/
theorem deliverAnswer_restart {a : Answer} {rest : List Answer} (ha : s.port.answers = a :: rest)
    (hp : s.port.restartPending = true) (hk : a.isRestartOk = true) :
    s.deliverAnswer =
      ({ s with port := { s.port with answers := rest, answerWire := .data a.wire } } : State).warmRestart
        .restartRequest := by
  simp only [State.deliverAnswer, ha, if_pos (And.intro hp hk)]

theorem deliverAnswer_empty (ha : s.port.answers = []) :
    s.deliverAnswer = { s with port := { s.port with answerWire := .nak } } := by
  simp only [State.deliverAnswer, ha]

/-- Settles O20. -/
theorem pipesAcceptAndDeliver : Obligations.PipesAcceptAndDeliver := by
  refine ⟨fun s bytes => ⟨fun hq hl hp => ?accepted, fun h => ?refused⟩,
    fun s => ⟨fun a rest ha h => ?delivered, fun ha => ?empty, fun hp => ?reset⟩⟩
  case accepted => exact exec_accepted (State.accepting_iff.mpr ⟨hq, hl, hp⟩)
  case refused =>
    refine exec_not_accepted fun hacc => ?_
    obtain ⟨hq, hl, hp⟩ := State.accepting_iff.mp hacc
    rcases h with h | h | h
    · omega
    · exact hl h
    · rw [hp] at h; cases h
  case delivered =>
    rw [exec_answerDelivered, deliverAnswer_plain ha]
    rw [Answer.isRestartOk_iff]
    rintro ⟨hp, hk, hc⟩
    rcases h with h | h | h
    · rw [hp] at h; cases h
    · exact h hk
    · exact h hc
  case empty => rw [exec_answerDelivered, deliverAnswer_empty ha]
  case reset =>
    show Host.Outcome.next s.busReset = _
    rw [State.busReset, if_neg (by rw [hp]; exact Bool.false_ne_true)]
    rfl

/-! ### Requests are answered once (R197, R201) -/

/-- R201: what a block may make of a request: an answer of OK or ACCEPTED, or no change of state, with an empty body
unless the answer is BAD_PROFILE. -/
def Served.Proper (s : State) (u : Served) : Prop :=
  u.code = .ok ∨ u.code = .accepted ∨ u.state = s ∧ (u.code ≠ .badProfile → u.body = [])

theorem proper_refuse (s : State) (c : AnswerCode) : (refuse s c).Proper s := .inr (.inr ⟨rfl, fun _ => rfl⟩)

theorem proper_taken (s t : State) (body : List Byte) : (taken t body).Proper s := .inl rfl

theorem proper_withRecord {h : Handle} {f : Record → Served} (hf : ∀ r, (f r).Proper s) :
    (withRecord h s f).Proper s := by
  unfold withRecord
  split
  · exact proper_refuse s _
  · exact hf _

theorem proper_doAmendTrim (args : List Byte) (s : State) : (doAmendTrim args s).Proper s := by
  unfold doAmendTrim
  refine proper_withRecord fun r => ?_
  (repeat' split) <;> first | exact proper_refuse s _ | exact proper_taken s _ _

theorem proper_doReject (args : List Byte) (s : State) : (doReject args s).Proper s := by
  unfold doReject
  refine proper_withRecord fun r => ?_
  split <;> first | exact proper_refuse s _ | exact proper_taken s _ _

theorem proper_doSeal (args : List Byte) (s : State) : (doSeal args s).Proper s := by
  unfold doSeal
  refine proper_withRecord fun r => ?_
  (repeat' split) <;> first | exact proper_refuse s _ | exact proper_taken s _ _

theorem proper_ite {p : Prop} [Decidable p] {u v : Served} (hu : u.Proper s) (hv : v.Proper s) :
    (if p then u else v).Proper s := by
  split
  · exact hu
  · exact hv

theorem proper_doLoadProfile (args : List Byte) (s : State) : (doLoadProfile args s).Proper s := by
  refine proper_ite (proper_refuse s _) (proper_ite (proper_refuse s _) ?_)
  split
  · exact .inr (.inr ⟨rfl, fun h => absurd rfl h⟩)
  · exact proper_ite (proper_refuse s _) (proper_ite (proper_refuse s _) (proper_taken s _ _))

theorem proper_block (k : RequestKind) (args : List Byte) (s : State) : (k.block args s).Proper s := by
  cases k with
  | getStatus | getBench | getPlan | getPositions | getSealRange | restart | ackAttention => exact proper_taken s _ _
  | setBench =>
    exact proper_ite (proper_refuse s _) (proper_ite (proper_refuse s _) (proper_ite (proper_refuse s _)
      (proper_ite (proper_refuse s _) (proper_ite (proper_refuse s _) (proper_taken s _ _)))))
  | setAttention => exact proper_ite (proper_refuse s _) (proper_taken s _ _)
  | loadProfile => exact proper_doLoadProfile args s
  | dropProfile =>
    refine proper_ite (proper_refuse s _) (proper_ite (proper_refuse s _) ?_)
    split
    · exact proper_refuse s _
    · exact proper_ite (proper_refuse s _) (proper_taken s _ _)
  | getProfile =>
    refine proper_ite (proper_refuse s _) ?_
    split
    · exact proper_refuse s _
    · exact proper_taken s _ _
  | saveProfiles => exact proper_ite (proper_refuse s _) (.inr (.inl rfl))
  | setPoint =>
    refine proper_ite (proper_refuse s _) ?_
    split
    · exact proper_refuse s _
    · exact proper_ite (proper_refuse s _) (proper_taken s _ _)
  | clearPoint =>
    exact proper_ite (proper_refuse s _) (proper_ite (proper_refuse s _) (proper_ite (proper_refuse s _)
      (proper_taken s _ _)))
  | startPoint =>
    refine proper_ite (proper_refuse s _) (proper_ite (proper_refuse s _) (proper_ite (proper_refuse s _) ?_))
    split
    · exact proper_refuse s _
    · exact proper_taken s _ _
  | endPoint =>
    show (doEndPoint args s).Proper s
    unfold doEndPoint
    split
    · exact proper_refuse s _
    · exact proper_taken s _ _
  | abortPoint =>
    show (doAbortPoint args s).Proper s
    unfold doAbortPoint
    split
    · exact proper_refuse s _
    · exact proper_taken s _ _
  | find =>
    show (doFind args s).Proper s
    unfold doFind
    (repeat' split) <;> first | exact proper_refuse s _ | exact proper_taken s _ _
  | list =>
    show (doList args s).Proper s
    unfold doList
    dsimp only
    split
    · exact proper_refuse s _
    · exact proper_ite (proper_refuse s _) (proper_taken s _ _)
  | readRecord => exact proper_withRecord fun r => proper_taken s _ _
  | amendTrim => exact proper_doAmendTrim args s
  | reject => exact proper_doReject args s
  | retire => exact proper_withRecord fun r => proper_ite (proper_refuse s _) (proper_taken s _ _)
  | clearFlags => exact proper_withRecord fun r => proper_ite (proper_refuse s _) (proper_taken s _ _)
  | sealAll => exact proper_ite (proper_refuse s _) (proper_taken s _ _)
  | retryPosition =>
    refine proper_ite (proper_refuse s _) ?_
    split <;> first | exact proper_refuse s _ | exact proper_taken s _ _
  | setSealRange =>
    exact proper_ite (proper_refuse s _) (proper_ite (proper_refuse s _) (proper_ite (proper_refuse s _)
      (proper_taken s _ _)))
  -- SEAL: the name of its case is a word of Lean's own.
  | _ => exact proper_doSeal args s

/-- Settles O22: the port places the block's answer, and a block either takes the request or changes nothing. -/
theorem requestsAreAnsweredOnce : Obligations.RequestsAreAnsweredOnce := by
  refine fun k s => ⟨fun tag args rest ho => ?answered, fun hno => ?nothing⟩
  case answered =>
    obtain ⟨hreq, hans⟩ := queues_request (block_effect (s := s.dequeued rest) (args := args) k)
    refine ⟨(k.block args (s.dequeued rest)).state, (k.block args (s.dequeued rest)).code,
      (k.block args (s.dequeued rest)).body, ?_, hans, hreq, fun hok hacc => ?_⟩
    · rw [exec_command, serve_offers k.block ho]
    · rcases proper_block k args (s.dequeued rest) with h | h | h
      · exact absurd h hok
      · exact absurd h hacc
      · exact h
  case nothing => rw [exec_command, serve_not_offered k.block hno]

end Sys2Proof.Machine
end

section
/-! SUPPORT. What a request answers once its block is known, and the fields of its arguments. -/

namespace Sys2Proof.Machine

variable {s : State}

/-! ### The answer of a request -/

/-- R197: an offered request is answered with what its block makes of it. -/
theorem exec_request {k : RequestKind} {tag : BitVec 16} {args : List Byte} {rest : List Message} {t : State}
    {c : AnswerCode} {body : List Byte} (ho : s.Offers k tag args rest)
    (hb : k.block args (s.dequeued rest) = ⟨t, c, body⟩) : exec k.command s = .next (t.answered tag k c body) := by
  rw [exec_command, serve_offers k.block ho, hb]

/-! ### The fields of arguments (R214) -/

/-- A field at the front, of the bytes of a number that fits them. -/
theorem uField_leBytes {k n : Nat} (h : n < 256 ^ k) (bs : List Byte) : uField (leBytes k n ++ bs) 0 k = n := by
  have : (leBytes k n ++ bs).take k = leBytes k n := List.take_left' (leBytes_length k n)
  rw [uField, List.drop_zero, this, leNat_leBytes h]

/-- A field of the bytes behind some others. -/
theorem uField_append {as bs : List Byte} {k : Nat} (n size : Nat) (h : as.length = k) :
    uField (as ++ bs) (k + n) size = uField bs n size := by
  rw [uField, uField, ← List.drop_drop, List.drop_left' h]

theorem uField_cons (b : Byte) (bs : List Byte) (n size : Nat) : uField (b :: bs) (n + 1) size = uField bs n size := rfl

theorem ofNat_toNat_byte (b : Byte) : BitVec.ofNat 8 b.toNat = b := by simp

/-- R214: the two bytes of a handle spell the handle. -/
theorem handleArg_handleBytes {h : Handle} (hs : h.slot < 256) (bs : List Byte) :
    handleArg (handleBytes h ++ bs) 0 = h := by
  have h1 : uField (handleBytes h ++ bs) 0 1 = h.slot := by
    show uField (BitVec.ofNat 8 h.slot :: _) 0 1 = _
    rw [uField_zero_cons, BitVec.toNat_ofNat]; omega
  have h2 : uField (handleBytes h ++ bs) 1 1 = h.tag.toNat := by
    show uField (BitVec.ofNat 8 h.slot :: h.tag :: _) 1 1 = _
    rw [uField_one_cons_cons]
  simp only [handleArg, h1, h2, Nat.zero_add, ofNat_toNat_byte]

end Sys2Proof.Machine
end

section
/-! Proofs of O28, O31, O32 and O42: the restart and attention requests, the Profile Table's requests to drop and to
save, the edits of the plan and the seal range. -/

namespace Sys2Proof.Machine

variable {s : State}

/-! ### RESTART and ACK_ATTENTION (R204, R211) -/

theorem doAckAttention_eq (s : State) (named : Byte) :
    doAckAttention [named] s =
      ⟨{ s with port := { s.port with pendingSet := s.port.pendingSet &&& ~~~named } }, .ok,
        [s.port.pendingSet &&& ~~~named]⟩ := by
  simp [doAckAttention, acknowledged, taken]

/-- Settles O28. -/
theorem acknowledgeAndRestartRequests : Obligations.AcknowledgeAndRestartRequests :=
  fun _ _ _ _ => ⟨fun ho => exec_request (k := .ackAttention) ho (doAckAttention_eq _ _),
    fun ho => exec_request (k := .restart) ho rfl⟩

/-! ### DROP_PROFILE and SAVE_PROFILES (R46, R50) -/

section
variable {args : List Byte}

theorem doDropProfile_busy (h : s.store.activity = .saving) : doDropProfile args s = refuse s .busy := if_pos h

theorem doDropProfile_badArgument (h : s.store.activity ≠ .saving) (hc : within 16 (uField args 0 1) = false) :
    doDropProfile args s = refuse s .badArgument := by
  simp [doDropProfile, h, hc]

theorem doDropProfile_noSuch (h : s.store.activity ≠ .saving) (hc : within 16 (uField args 0 1) = true)
    (hp : s.profileSlot (uField args 0 1) = none) : doDropProfile args s = refuse s .noSuch := by
  simp [doDropProfile, h, hc, hp]

theorem doDropProfile_found {ps : ProfileSlot} (h : s.store.activity ≠ .saving)
    (hc : within 16 (uField args 0 1) = true) (hp : s.profileSlot (uField args 0 1) = some ps) :
    doDropProfile args s = if 0 < ps.pins then refuse s .pinned
      else taken { s with profiles := setPlace s.profiles (uField args 0 1) none } [] := by
  simp [doDropProfile, h, hc, hp]

end

/-- Settles O31. -/
theorem dropAndSaveProfiles : Obligations.DropAndSaveProfiles := by
  intro s tag code rest dropped
  refine ⟨fun ho => ?drop, fun ho => ?save⟩
  case drop =>
    have hcode : uField [code] 0 1 = code.toNat := uField_zero_cons code []
    have answer {t : State} {c : AnswerCode} (hb : doDropProfile [code] (s.dequeued rest) = ⟨t, c, []⟩) : dropped t c :=
      exec_request (k := .dropProfile) ho hb
    refine ⟨fun h => answer (doDropProfile_busy h), fun h hc => answer (doDropProfile_badArgument h (by rwa [hcode])),
      fun h hc hp => answer (doDropProfile_noSuch h (by rwa [hcode]) (by rwa [hcode])), fun ps h hc hp => ?_⟩
    have hb : doDropProfile [code] (s.dequeued rest) = _ :=
      doDropProfile_found (ps := ps) h (by rwa [hcode]) (by rw [hcode]; exact hp)
    rw [hcode] at hb
    exact ⟨fun hpins => answer (hb.trans (if_pos hpins)), fun hpins => answer (hb.trans (if_neg (by omega)))⟩
  case save =>
    exact ⟨fun h => exec_request (k := .saveProfiles) ho (if_pos h),
      fun h => exec_request (k := .saveProfiles) ho (if_neg h)⟩

/-! ### SET_POINT and CLEAR_POINT (R75, R79, R81) -/

theorem elementsOfCode_eq {n : Nat} (h : n ≤ 3) :
    elementsOfCode n = some (if n = 0 then .a else if n = 1 then .b else if n = 2 then .c else .abc) := by
  interval_cases n <;> rfl

theorem elementsOfCode_none {n : Nat} (h : 3 < n) : elementsOfCode n = none := by
  obtain ⟨k, rfl⟩ := Nat.exists_eq_add_of_le' h
  rfl

theorem roleOfCode_eq {n : Nat} (h : n ≤ 1) : roleOfCode n = some (if n = 0 then .adjust else .check) := by
  interval_cases n <;> rfl

theorem roleOfCode_none {n : Nat} (h : 1 < n) : roleOfCode n = none := by
  obtain ⟨k, rfl⟩ := Nat.exists_eq_add_of_le' h
  rfl

theorem within_iff {k n : Nat} : within k n = true ↔ 1 ≤ n ∧ n ≤ k := by simp [within]

/-- R75, R79: the point block with codes that name elements and a role is read where its other fields are in range. -/
theorem pointArg_of_codes {args : List Byte} {e : Elements} {r : Role} (he : elementsOfCode (uField args 1 1) = some e)
    (hr : roleOfCode (uField args 6 1) = some r) : pointArg args =
      if within 200000 (uField args 2 4) = true ∧ within 1000 (uField args 7 2) = true ∧
          within 8 (uField args 9 1) = true ∧
          (∀ x ∈ [uField args 10 4, uField args 14 4, uField args 18 4, uField args 22 4], within 100000 x = true) ∧
          within 3600 (uField args 26 2) = true then
        some ⟨e, uField args 2 4, r, uField args 7 2, uField args 9 1,
          [uField args 10 4, uField args 14 4, uField args 18 4, uField args 22 4], uField args 26 2,
          BitVec.ofNat 16 (uField args 28 2)⟩
      else none := by
  simp only [pointArg, he, hr, Bool.and_eq_true, List.all_eq_true, and_assoc]

theorem pointArg_of_no_elements {args : List Byte} (h : elementsOfCode (uField args 1 1) = none) :
    pointArg args = none := by
  simp only [pointArg, h]

theorem pointArg_of_no_role {args : List Byte} (h : roleOfCode (uField args 6 1) = none) : pointArg args = none := by
  cases he : elementsOfCode (uField args 1 1) <;> simp only [pointArg, h, he]

section
variable {args : List Byte}

theorem doSetPoint_badArgument (h : within 24 (uField args 0 1) = false ∨ pointArg args = none) :
    doSetPoint args s = refuse s .badArgument := by
  rcases h with h | h <;> simp [doSetPoint, h]

theorem doSetPoint_found {pt : Point} (hk : within 24 (uField args 0 1) = true) (hp : pointArg args = some pt) :
    doSetPoint args s = if s.seq.running.isSome then refuse s .busy
      else taken (s.editPlan (uField args 0 1) (some pt)) [] := by
  simp [doSetPoint, hk, hp]

theorem doClearPoint_badArgument (hk : within 24 (uField args 0 1) = false) :
    doClearPoint args s = refuse s .badArgument := by
  simp [doClearPoint, hk]

theorem doClearPoint_busy (hk : within 24 (uField args 0 1) = true) (hr : s.seq.running ≠ none) :
    doClearPoint args s = refuse s .busy := by
  simp [doClearPoint, hk, Option.isSome_iff_ne_none.mpr hr]

theorem doClearPoint_idle (hk : within 24 (uField args 0 1) = true) (hr : s.seq.running = none) :
    doClearPoint args s = if (s.pointAt (uField args 0 1)).isNone then refuse s .noSuch
      else taken (s.editPlan (uField args 0 1) none) [] := by
  simp [doClearPoint, hk, hr]

end

/-- Settles O32: the point block is read in range or not at all, and the two requests edit the plan after their
checks. -/
theorem planEditsSetAndReset : Obligations.PlanEditsSetAndReset := by
  refine ⟨?block, ?requests⟩
  case block =>
    intro args field tolerances sound
    refine ⟨fun h => ?_, fun h => ?_⟩
    · by_cases he : field 1 1 ≤ 3
      · by_cases hr : field 6 1 ≤ 1
        · rw [pointArg_of_codes (elementsOfCode_eq he) (roleOfCode_eq hr)]
          refine if_neg fun hin => h ?_
          simp only [within_iff] at hin
          obtain ⟨⟨c1, c2⟩, ⟨p1, p2⟩, ⟨w1, w2⟩, htol, t1, t2⟩ := hin
          exact ⟨he, c1, c2, hr, p1, p2, w1, w2, htol, t1, t2⟩
        · exact pointArg_of_no_role (roleOfCode_none (Nat.lt_of_not_le hr))
      · exact pointArg_of_no_elements (elementsOfCode_none (Nat.lt_of_not_le he))
    · obtain ⟨he, c1, c2, hr, p1, p2, w1, w2, htol, t1, t2⟩ := h
      rw [pointArg_of_codes (elementsOfCode_eq he) (roleOfCode_eq hr)]
      refine if_pos ?_
      simp only [within_iff]
      exact ⟨⟨c1, c2⟩, ⟨p1, p2⟩, ⟨w1, w2⟩, htol, t1, t2⟩
  case requests =>
    intro s tag args rest k edited set clear
    refine ⟨fun ho => ?_, fun ho => ?_⟩
    · refine ⟨fun h => exec_request (k := .setPoint) ho (doSetPoint_badArgument h), fun pt hk hp => ⟨fun hr => ?_, fun hr => ?_⟩⟩
      · exact exec_request (k := .setPoint) ho
          ((doSetPoint_found (s := s.dequeued rest) hk hp).trans (if_pos (Option.isSome_iff_ne_none.mpr hr)))
      · exact exec_request (k := .setPoint) ho ((doSetPoint_found (s := s.dequeued rest) hk hp).trans (if_neg (by
          show ¬ s.seq.running.isSome = true
          simp [hr])))
    · refine ⟨fun hk => exec_request (k := .clearPoint) ho (doClearPoint_badArgument hk),
        fun hk hr => exec_request (k := .clearPoint) ho (doClearPoint_busy hk hr), fun hk hr hp => ?_, fun hk hr hp => ?_⟩
      · exact exec_request (k := .clearPoint) ho ((doClearPoint_idle (s := s.dequeued rest) hk hr).trans (if_pos (Option.isNone_iff_eq_none.mpr hp)))
      · exact exec_request (k := .clearPoint) ho ((doClearPoint_idle (s := s.dequeued rest) hk hr).trans
          (if_neg (by rwa [Option.isNone_iff_eq_none])))

/-! ### SET_SEAL_RANGE and GET_SEAL_RANGE (R180, R182) -/

theorem uField_sealRange {first last : Nat} (hf : first < 4294967296) (hl : last < 4294967296) :
    uField (leBytes 4 first ++ leBytes 4 last) 0 4 = first ∧ uField (leBytes 4 first ++ leBytes 4 last) 4 4 = last := by
  refine ⟨uField_leBytes hf _, ?_⟩
  have := uField_append (bs := leBytes 4 last) 0 4 (leBytes_length 4 first)
  have h0 := uField_leBytes (k := 4) hl []
  rw [List.append_nil] at h0
  exact this.trans h0

section
variable {args : List Byte} {first last : Nat}

theorem doSetSealRange_badArgument (hf : uField args 0 4 = first) (hl : uField args 4 4 = last)
    (h : ¬ (within Config.lastSeal first = true ∧ within Config.lastSeal last = true) ∨ last < first ∨
      first ≤ s.seals.lastIssued) : doSetSealRange args s = refuse s .badArgument := by
  unfold doSetSealRange
  rw [hf, hl]
  dsimp only
  split
  · rfl
  · split
    · rfl
    · rw [if_pos]
      rcases h with h | h | h
      · contradiction
      · contradiction
      · exact h

theorem doSetSealRange_loaded (hf : uField args 0 4 = first) (hl : uField args 4 4 = last)
    (h1 : within Config.lastSeal first = true) (h2 : within Config.lastSeal last = true) (h3 : first ≤ last)
    (h4 : s.seals.lastIssued < first) : doSetSealRange args s =
      taken ({ s with seals := s.seals.withRange first last }.raiseIf
          (decide ((s.seals.withRange first last).remaining < s.port.bench.sealLow)) .sealLow)
        (u32 s.seals.remainder.1 ++ u32 s.seals.remainder.2 ++ u32 (s.seals.withRange first last).remaining) := by
  unfold doSetSealRange
  rw [hf, hl]
  dsimp only
  rw [if_neg (by simp [h1, h2]), if_neg (by omega), if_neg (by omega)]

end

theorem SealAllocator.remaining_withRange {first last : Nat} (h : 1 ≤ first) (hl : first ≤ last) (a : SealAllocator) :
    (a.withRange first last).remaining = last - first + 1 := by
  show (if first = 0 then 0 else last + 1 - first) = _
  rw [if_neg (by omega)]
  omega

theorem SealAllocator.remainder_eq (a : SealAllocator) :
    a.remainder = (if a.remaining = 0 then 0 else a.next, if a.remaining = 0 then 0 else a.last) := by
  unfold SealAllocator.remainder
  split <;> rfl

theorem State.raiseIf_decide (s : State) (p : Prop) [Decidable p] (c : Condition) :
    s.raiseIf (decide p) c = if p then s.raise c else s := by
  simp [State.raiseIf]

/-- Settles O42. -/
theorem sealRangeIsSetAndReported : Obligations.SealRangeIsSetAndReported := by
  intro s tag first last rest hf hl refused
  obtain ⟨hu1, hu2⟩ := uField_sealRange hf hl
  refine ⟨fun ho => ?set, fun ho => exec_request (k := .getSealRange) ho rfl⟩
  case set =>
    have refuse_of (h : ¬ (within Config.lastSeal first = true ∧ within Config.lastSeal last = true) ∨ last < first ∨
        first ≤ s.seals.lastIssued) : refused :=
      exec_request (k := .setSealRange) ho (doSetSealRange_badArgument hu1 hu2 h)
    refine ⟨fun h => refuse_of (.inl fun hin => h ?_), fun h => refuse_of (.inr (.inl h)),
      fun h => refuse_of (.inr (.inr h)), fun h1 h2 h3 h4 => ?_⟩
    · simp only [within_iff] at hin
      obtain ⟨⟨a1, a2⟩, b1, b2⟩ := hin
      exact ⟨a1, a2, b1, b2⟩
    · have w1 : within Config.lastSeal first = true := within_iff.mpr ⟨h1, h2.trans h3⟩
      have w2 : within Config.lastSeal last = true := within_iff.mpr ⟨h1.trans h2, h3⟩
      have hb := doSetSealRange_loaded (s := s.dequeued rest) hu1 hu2 w1 w2 h2 h4
      rw [State.raiseIf_decide, SealAllocator.remainder_eq, SealAllocator.remaining_withRange h1 h2] at hb
      exact exec_request (k := .setSealRange) ho hb

end Sys2Proof.Machine
end

section
/-! SUPPORT. What each named operation over a position makes of that position and of the others (R53, R58, R59, R61,
R66), and what an arbitration leaves of them (R152). -/

namespace Sys2Proof.Machine

variable {s : State} {p : Nat}

/-! ### Changes of one position -/

theorem State.updPosition_updPosition (s : State) (p : Nat) (f g : Position → Position) :
    (s.updPosition p f).updPosition p g = s.updPosition p (fun x => g (f x)) := by
  simp [State.updPosition, updPlace_updPlace]

theorem State.raise_updPosition (s : State) (p : Nat) (c : Condition) (f : Position → Position) :
    (s.raise c).updPosition p f = (s.updPosition p f).raise c := rfl

theorem State.raiseIf_updPosition (s : State) (p : Nat) (b : Bool) (c : Condition) (f : Position → Position) :
    (s.raiseIf b c).updPosition p f = (s.updPosition p f).raiseIf b c := by
  cases b <;> rfl

/-- R53: `positionBecomes` changes the one position, and may raise POSITIONS_CHANGED. -/
theorem State.positionBecomes_eq (s : State) (p : Nat) (f : Position → Position) : s.positionBecomes p f =
    (s.updPosition p f).raiseIf (decide ((f (s.position p)).state ≠ (s.position p).state)) .positionsChanged := by
  unfold State.positionBecomes
  split
  · simp [State.raiseIf, *]
  · simp only [State.raiseIf, ne_eq, *, not_false_eq_true, decide_true, if_true]
    rfl

/-- R53: what `positionBecomes` leaves. -/
theorem State.positionBecomes_frame (s : State) (p : Nat) (f : Position → Position) : s.positionBecomes p f =
    { s with positions := (s.positionBecomes p f).positions, port := (s.positionBecomes p f).port } := by
  rw [State.positionBecomes_eq, State.raiseIf]
  split <;> rfl

/-- R53: a move to a state that follows or precedes other changes of the position is one change of it. -/
theorem State.moveTo_updPosition (s : State) (p : Nat) (st : PositionState) (f : Position → Position)
    (hf : ∀ x : Position, (f { x with state := st }).state = st) :
    (s.moveTo p st).updPosition p f = s.positionBecomes p (fun x => f { x with state := st }) := by
  rw [State.moveTo, State.raiseIf_updPosition, State.updPosition_updPosition, State.positionBecomes_eq, hf]
  simp only [ne_comm]

theorem State.moveTo_eq (s : State) (p : Nat) (st : PositionState) :
    s.moveTo p st = s.positionBecomes p (fun x => { x with state := st }) := by
  have := s.moveTo_updPosition p st id fun _ => rfl
  rwa [State.updPosition_same rfl] at this

theorem State.queueItem_eq (s : State) (p : Nat) (w : Work) :
    s.queueItem p w = s.updPosition p (fun x => { x with item := some (newItem w) }) := rfl

theorem State.enterIdentifying_eq (s : State) (p : Nat) : s.enterIdentifying p = s.positionBecomes p (fun x =>
    { x with state := .identifying, phase := some .ident, identity := none, item := some (newItem .ident) }) := by
  rw [State.enterIdentifying, State.queueItem_eq, State.updPosition_updPosition,
    State.moveTo_updPosition s p .identifying _ fun _ => rfl]

theorem State.enterImage_eq (s : State) (p : Nat) : s.enterImage p = s.updPosition p (fun x =>
    { x with phase := some .image, item := some (newItem (.readImage 0 [])) }) := by
  rw [State.enterImage, State.queueItem_eq, State.updPosition_updPosition]

theorem State.toConflict_eq (s : State) (p : Nat) : s.toConflict p = s.positionBecomes p (fun x =>
    { x with state := .conflict, phase := none, identity := x.identity.map (fun d => { d with image := none }) }) :=
  State.moveTo_updPosition s p .conflict _ fun _ => rfl

theorem State.toWaiting_eq (s : State) (p : Nat) : s.toWaiting p = s.positionBecomes p (fun x =>
    { x with state := .waitingSlot, phase := none }) :=
  State.moveTo_updPosition s p .waitingSlot _ fun _ => rfl

theorem State.toBound_eq (s : State) (p : Nat) : s.toBound p = s.positionBecomes p (fun x =>
    { x with state := .bound, phase := none, identity := none, held := false }) :=
  State.moveTo_updPosition s p .bound _ fun _ => rfl

/-! ### A position after a change -/

theorem State.position_raiseIf (s : State) (b : Bool) (c : Condition) (q : Nat) :
    (s.raiseIf b c).position q = s.position q := by
  cases b <;> rfl

theorem State.position_positionBecomes_same (f : Position → Position) (hs : s.Shaped) (hp : isPosition p = true) :
    (s.positionBecomes p f).position p = f (s.position p) := by
  obtain ⟨h1, h48⟩ := isPosition_iff.mp hp
  rw [State.positionBecomes_eq, State.position_raiseIf]
  exact State.position_updPosition_same s f h1 (hs.1.symm ▸ h48)

theorem State.position_positionBecomes_other {q : Nat} (f : Position → Position) (hq : q ≠ p) :
    (s.positionBecomes p f).position q = s.position q := by
  rw [State.positionBecomes_eq, State.position_raiseIf]
  exact State.position_updPosition_other s f hq

theorem State.position_updPosition_eq (f : Position → Position) (hs : s.Shaped) (hp : isPosition p = true) :
    (s.updPosition p f).position p = f (s.position p) := by
  obtain ⟨h1, h48⟩ := isPosition_iff.mp hp
  exact State.position_updPosition_same s f h1 (hs.1.symm ▸ h48)

/-! ### What an arbitration leaves of the positions -/

/-- What a view of the positions does not see to differ, it does not see to differ at one position. -/
theorem position_of_map {β : Type} {t : State} {g : Position → β} (h : t.positions.map g = s.positions.map g)
    (q : Nat) : g (t.position q) = g (s.position q) := by
  have hplace : (place t.positions q).map g = (place s.positions q).map g := by rw [← place_map, h, place_map]
  cases ht : place t.positions q with
  | none =>
    cases hx : place s.positions q with
    | none => simp only [State.position, ht, hx]
    | some x => simp [ht, hx] at hplace
  | some y =>
    cases hx : place s.positions q with
    | none => simp [ht, hx] at hplace
    | some x =>
      rw [ht, hx] at hplace
      simpa only [State.position, ht, hx, Option.getD_some] using Option.some.inj hplace

/-- R152, R154: an arbitration changes of a position its work item alone. -/
theorem position_of_withoutLaneWork {t : State} (h : t.withoutLaneWork = s.withoutLaneWork) (q : Nat) :
    { t.position q with item := none } = { s.position q with item := none } := by
  have hpos : t.positions.map (fun x => { x with item := none }) = s.positions.map (fun x => { x with item := none }) :=
    congrArg State.positions h
  exact position_of_map hpos q

theorem position_settle (s : State) (q : Nat) :
    { s.settle.position q with item := none } = { s.position q with item := none } :=
  position_of_withoutLaneWork (withoutLaneWork_settle s) q

/-- R152: two states that agree without their lane work differ in lanes, positions and claims. -/
theorem frame_of_withoutLaneWork {t : State} (h : t.withoutLaneWork = s.withoutLaneWork) :
    t = { s with lanes := t.lanes, positions := t.positions, inFlight := t.inFlight } :=
  calc t = { t.withoutLaneWork with lanes := t.lanes, positions := t.positions, inFlight := t.inFlight } := rfl
    _ = { s.withoutLaneWork with lanes := t.lanes, positions := t.positions, inFlight := t.inFlight } := by rw [h]
    _ = { s with lanes := t.lanes, positions := t.positions, inFlight := t.inFlight } := rfl

/-- R152: what an arbitration leaves. -/
theorem settle_frame (s : State) : s.settle =
    { s with lanes := s.settle.lanes, positions := s.settle.positions, inFlight := s.settle.inFlight } :=
  frame_of_withoutLaneWork (withoutLaneWork_settle s)

@[simp] theorem settle_records (s : State) : s.settle.records = s.records := by rw [settle_frame]

@[simp] theorem settle_seals (s : State) : s.settle.seals = s.seals := by rw [settle_frame]

@[simp] theorem settle_plan (s : State) : s.settle.plan = s.plan := by rw [settle_frame]

@[simp] theorem settle_seq (s : State) : s.settle.seq = s.seq := by rw [settle_frame]

@[simp] theorem settle_ref (s : State) : s.settle.ref = s.ref := by rw [settle_frame]

@[simp] theorem settle_port (s : State) : s.settle.port = s.port := by rw [settle_frame]

@[simp] theorem settle_profiles (s : State) : s.settle.profiles = s.profiles := by rw [settle_frame]

@[simp] theorem settle_tags (s : State) : s.settle.tags = s.tags := by rw [settle_frame]

@[simp] theorem settle_admissions (s : State) : s.settle.admissions = s.admissions := by rw [settle_frame]

@[simp] theorem settle_store (s : State) : s.settle.store = s.store := by rw [settle_frame]

@[simp] theorem settle_flash (s : State) : s.settle.flash = s.flash := by rw [settle_frame]

section
variable (s : State) (p : Nat) (f : Position → Position)

@[simp] theorem positionBecomes_records : (s.positionBecomes p f).records = s.records := by
  rw [State.positionBecomes_frame]

@[simp] theorem positionBecomes_seals : (s.positionBecomes p f).seals = s.seals := by
  rw [State.positionBecomes_frame]

@[simp] theorem positionBecomes_plan : (s.positionBecomes p f).plan = s.plan := by
  rw [State.positionBecomes_frame]

@[simp] theorem positionBecomes_seq : (s.positionBecomes p f).seq = s.seq := by
  rw [State.positionBecomes_frame]

@[simp] theorem positionBecomes_ref : (s.positionBecomes p f).ref = s.ref := by
  rw [State.positionBecomes_frame]

@[simp] theorem positionBecomes_profiles : (s.positionBecomes p f).profiles = s.profiles := by
  rw [State.positionBecomes_frame]

@[simp] theorem positionBecomes_tags : (s.positionBecomes p f).tags = s.tags := by
  rw [State.positionBecomes_frame]

@[simp] theorem positionBecomes_admissions : (s.positionBecomes p f).admissions = s.admissions := by
  rw [State.positionBecomes_frame]

@[simp] theorem positionBecomes_lanes : (s.positionBecomes p f).lanes = s.lanes := by
  rw [State.positionBecomes_frame]

@[simp] theorem positionBecomes_inFlight : (s.positionBecomes p f).inFlight = s.inFlight := by
  rw [State.positionBecomes_frame]

@[simp] theorem positionBecomes_store : (s.positionBecomes p f).store = s.store := by
  rw [State.positionBecomes_frame]

@[simp] theorem positionBecomes_flash : (s.positionBecomes p f).flash = s.flash := by
  rw [State.positionBecomes_frame]

end

/-- R160: an IDENT item stays one through an arbitration. -/
theorem item_ident_iff {i : Option Item} : i.map (·.work) = some .ident ↔ exchangeOf i = some .ident := by
  cases i with
  | none => simp [exchangeOf]
  | some i => cases h : i.work <;> simp [exchangeOf, Work.exchange, h]

theorem key_settle (s : State) (q : Nat) : (s.settle.position q).key = (s.position q).key :=
  position_of_book (book_settle s) q

theorem item_settle_ident {q : Nat} (h : (s.position q).item.map (·.work) = some .ident) :
    (s.settle.position q).item.map (·.work) = some .ident := by
  rw [item_ident_iff] at h ⊢
  rw [← h]
  exact congrArg PositionKey.exchange (key_settle s q)

end Sys2Proof.Machine
end

section
/-! Proof of O43: RETRY_POSITION (R69). -/

namespace Sys2Proof.Machine

variable {s : State} {args : List Byte}

theorem doRetryPosition_badArgument (h : isPosition (uField args 0 1) = false) :
    doRetryPosition args s = refuse s .badArgument := by
  simp [doRetryPosition, h]

theorem doRetryPosition_badState (h : isPosition (uField args 0 1) = true)
    (h1 : (s.position (uField args 0 1)).state ≠ .fault) (h2 : (s.position (uField args 0 1)).state ≠ .conflict)
    (h3 : (s.position (uField args 0 1)).state ≠ .unknownType) : doRetryPosition args s = refuse s .badState := by
  simp only [doRetryPosition, h, not_true_eq_false, if_false]
  cases hst : (s.position (uField args 0 1)).state <;> first | rfl | contradiction

theorem doRetryPosition_taken (h : isPosition (uField args 0 1) = true)
    (hst : (s.position (uField args 0 1)).state = .fault ∨ (s.position (uField args 0 1)).state = .conflict ∨
      (s.position (uField args 0 1)).state = .unknownType) :
    doRetryPosition args s = taken (s.enterIdentifying (uField args 0 1)).settle [] := by
  simp only [doRetryPosition, h, not_true_eq_false, if_false]
  rcases hst with hst | hst | hst <;> simp only [hst]

/-- Settles O43. -/
theorem retryPositionIdentifiesAgain : Obligations.RetryPositionIdentifiesAgain := by
  intro s tag p rest hs ho refused st
  have harg : uField [p] 0 1 = p.toNat := uField_zero_cons p []
  refine ⟨fun hp => exec_request (k := .retryPosition) ho (doRetryPosition_badArgument (by rwa [harg])),
    fun hp h1 h2 h3 => exec_request (k := .retryPosition) ho (doRetryPosition_badState (by rwa [harg]) (by rwa [harg])
      (by rwa [harg]) (by rwa [harg])), fun hp hst => ?_⟩
  have hb : doRetryPosition [p] (s.dequeued rest) = taken ((s.dequeued rest).enterIdentifying p.toNat).settle [] := by
    have := doRetryPosition_taken (s := s.dequeued rest) (args := [p]) (by rwa [harg]) (by rw [harg]; exact hst)
    rwa [harg] at this
  have hsd : (s.dequeued rest).Shaped := hs
  have hsame := State.position_positionBecomes_same (s := s.dequeued rest) (p := p.toNat) (fun x =>
    { x with state := .identifying, phase := some .ident, identity := none, item := some (newItem .ident) }) hsd hp
  rw [← State.enterIdentifying_eq] at hsame
  have hset := position_settle ((s.dequeued rest).enterIdentifying p.toNat) p.toNat
  rw [hsame] at hset
  have hdebounce := congrArg Position.debounce hset
  refine ⟨_, exec_request (k := .retryPosition) ho hb, rfl, congrArg Position.state hset,
    congrArg Position.phase hset, congrArg Position.identity hset, item_settle_ident (by rw [hsame]; rfl),
    hdebounce, fun q _ hq => ?_, ?_⟩
  · rw [position_settle, State.enterIdentifying_eq, State.position_positionBecomes_other _ hq]
    rfl
  · simp only [settle_records, settle_seals, settle_plan, settle_seq, State.enterIdentifying_eq,
      positionBecomes_records, positionBecomes_seals, positionBecomes_plan, positionBecomes_seq]
    exact ⟨rfl, rfl, rfl, rfl⟩

end Sys2Proof.Machine
end

section
/-! Proofs of O14 and O53: rounding to the nearest integer, and the correction of an ADJUSTED verdict. -/

namespace Sys2Proof.Machine

/-! ### Rounding ([INTRO:CONV]) -/

/-- The rounded magnitude: the natural number nearest to m / d, halves up. -/
theorem roundNat_spec (m d : Nat) (hd : 0 < d) :
    2 * (d * ((2 * m + d) / (2 * d))) ≤ 2 * m + d ∧ 2 * m < 2 * (d * ((2 * m + d) / (2 * d))) + d := by
  have h1 := Nat.div_mul_le_self (2 * m + d) (2 * d)
  have h2 := Nat.lt_div_mul_add (a := 2 * m + d) (show 0 < 2 * d by omega)
  have h3 : (2 * m + d) / (2 * d) * (2 * d) = 2 * (d * ((2 * m + d) / (2 * d))) := by ring
  omega

/-- `roundDiv` is the integer nearest to the quotient, exact halves away from zero. -/
theorem roundDiv_spec (n : Int) {d : Nat} (hd : 0 < d) :
    2 * (n - roundDiv n d * d).natAbs ≤ d ∧
      (2 * (n - roundDiv n d * d).natAbs = d → n.natAbs < (roundDiv n d * d).natAbs) := by
  obtain ⟨h1, h2⟩ := roundNat_spec n.natAbs d hd
  unfold roundDiv
  generalize (2 * n.natAbs + d) / (2 * d) = q at h1 h2
  have hc : ((d * q : Nat) : Int) = (q : Int) * d := by push_cast; ring
  have hn : (-(q : Int)) * d = -((d * q : Nat) : Int) := by push_cast; ring
  generalize d * q = z at h1 h2 hc hn
  split
  · rw [← hc]; omega
  · rw [hn]; omega

/-- `clamp` to a range that is not empty. -/
theorem clamp_eq {lo hi : Int} (h : lo ≤ hi) (v : Int) : clamp lo hi v = max lo (min hi v) := by
  unfold clamp
  split
  · omega
  · split <;> omega

/-- Settles O14. -/
theorem windowErrorIsNearestInteger : Obligations.WindowErrorIsNearestInteger := by
  intro n kref kmeter c hc hk num den e
  obtain ⟨h1, h2⟩ := roundDiv_spec num (Nat.mul_pos hc hk)
  refine ⟨h1, h2, ?_⟩
  show clamp (-9999999) 9999999 e = _
  rw [clamp_eq (by decide)]
  split
  · omega
  · split <;> omega

/-! ### The correction (R124, R125, R126) -/

theorem Elements.loads_iff (e : Elements) (ph : Phase) :
    e.loads ph = true ↔ e = .abc ∨ (e = .a ∧ ph = .a) ∨ (e = .b ∧ ph = .b) ∨ (e = .c ∧ ph = .c) := by
  cases e <;> cases ph <;> simp [Elements.loads]

theorem Trim.under_iff (t : Trim) (pt : Point) (pf : Profile) : t.under pt pf = true ↔
    t.band = pf.bandOf pt.current ∧ (pt.elements = .abc ∨ (pt.elements = .a ∧ t.phase = .a) ∨
      (pt.elements = .b ∧ t.phase = .b) ∨ (pt.elements = .c ∧ t.phase = .c)) := by
  simp [Trim.under, Elements.loads_iff]

theorem trimMin_le_trimMax (w : Nat) : trimMin w ≤ trimMax w := by
  have : 0 < 2 ^ (w - 1) := Nat.two_pow_pos _
  unfold trimMin trimMax
  omega

theorem clampTrim_of_width {pf : Profile} {b : Band} {ph : Phase} {w : Nat} (h : trimWidth b ph pf.layout = some w)
    (v : Int) : clampTrim pf b ph v = max (trimMin w) (min (trimMax w) v) := by
  simp only [clampTrim, h]
  exact clamp_eq (trimMin_le_trimMax w) v

/-- R126: a clamp changes a target exactly where the trim's field does not hold it. -/
theorem Trim.clamps_iff (t : Trim) (pt : Point) (pf : Profile) (c : Int) : t.clamps pt pf c = true ↔
    t.under pt pf = true ∧ ∃ w, trimWidth t.band t.phase pf.layout = some w ∧
      (t.target + c < trimMin w ∨ trimMax w < t.target + c) := by
  simp only [Trim.clamps, Bool.and_eq_true, decide_eq_true_eq]
  refine and_congr_right fun _ => ?_
  cases hw : trimWidth t.band t.phase pf.layout with
  | none => simp [clampTrim, hw]
  | some w =>
    have := trimMin_le_trimMax w
    rw [clampTrim_of_width hw]
    simp only [Option.some.injEq, exists_eq_left']
    omega

theorem Trim.corrected_of_under {t : Trim} {pt : Point} {pf : Profile} (c : Int) (h : t.under pt pf = true) :
    t.corrected pt pf c = { t with target := clampTrim pf t.band t.phase (t.target + c) } := if_pos h

theorem Trim.corrected_of_not_under {t : Trim} {pt : Point} {pf : Profile} (c : Int) (h : ¬ t.under pt pf = true) :
    t.corrected pt pf c = t := if_neg h

/-- R35: the band of a current, by the number of bands. -/
theorem Profile.bandOf_cases (pf : Profile) (current : Nat) :
    (pf.bandCount = 1 → pf.bandOf current = .nominal) ∧
    (pf.bandCount = 2 → pf.bandOf current = if current < pf.t1 then .low else .nominal) ∧
    (pf.bandCount = 3 →
      (current < pf.t1 → pf.bandOf current = .low) ∧
      (pf.t1 ≤ current → current < pf.t2 → pf.bandOf current = .nominal) ∧
      (pf.t1 ≤ current → pf.t2 ≤ current → pf.bandOf current = .high)) := by
  unfold Profile.bandOf
  refine ⟨fun h => by simp [h], fun h => by simp [h], fun h => ⟨fun h1 => by simp [h, h1], fun h1 h2 => ?_, fun h1 h2 => ?_⟩⟩
  · simp [h, Nat.not_lt.mpr h1, h2]
  · simp [h, Nat.not_lt.mpr h1, Nat.not_lt.mpr h2]

/-- Settles O53. -/
theorem correctionIsNearestAndClamped : Obligations.CorrectionIsNearestAndClamped := by
  intro pt pf e r hu c u under
  obtain ⟨hnear, hhalf⟩ := roundDiv_spec (-e) hu
  rw [Int.natAbs_neg] at hhalf
  refine ⟨hnear, hhalf, rfl, rfl, List.length_map _, fun n t ht => ⟨fun hno => ?_, fun w hw htw => ?_⟩,
    ⟨rfl, rfl, rfl, ?_⟩, pf.bandOf_cases⟩
  · show (r.trims.map (Trim.corrected pt pf c))[n]? = some t
    rw [List.getElem?_map, ht, Option.map_some, Trim.corrected_of_not_under c (by rwa [Trim.under_iff])]
  · show (r.trims.map (Trim.corrected pt pf c))[n]? = _
    rw [List.getElem?_map, ht, Option.map_some, Trim.corrected_of_under c (by rwa [Trim.under_iff]),
      clampTrim_of_width htw]
    rfl
  · show (r.flags.trimLimit || r.trims.any (Trim.clamps pt pf c)) = true ↔ _
    simp only [Bool.or_eq_true, List.any_eq_true, Trim.clamps_iff, Trim.under_iff]
    refine or_congr_right ⟨?_, ?_⟩
    · rintro ⟨t, ht, hun, w, hw, hout⟩
      exact ⟨t, w, ht, hun, hw, hout⟩
    · rintro ⟨t, w, ht, hun, hw, hout⟩
      exact ⟨t, ht, hun, w, hw, hout⟩

end Sys2Proof.Machine
end

section
/-! Proofs of O15, O38, O39 and O41: evaluation and work items, and the requests on records. -/

namespace Sys2Proof.Machine

variable {s : State} {n : Nat} {r : Record}

/-! ### Evaluation and the auto-seal test (R21, R185) -/

theorem evaluate_measuring (h : s.recordAt n = some r) (hm : r.state = .measuring) : s.evaluate n =
    if s.passedCondition r then (s.moveRecord n .passed).autoSealTest n else s := by
  simp only [State.evaluate, h, hm]

theorem evaluate_passed (h : s.recordAt n = some r) (hm : r.state = .passed) : s.evaluate n =
    if s.passedCondition r then s else s.moveRecord n .measuring := by
  simp only [State.evaluate, h, hm]

theorem autoSealTest_eq (h : s.recordAt n = some r) : s.autoSealTest n =
    if s.port.bench.autoSeal = true ∧ r.flags.any = false ∧ r.sealAttempts = 0 ∧ s.reachable r = true then
      if 1 ≤ s.seals.remaining then s.enterSealing n else s.raise .sealsExhausted
    else s := by
  simp only [State.autoSealTest, h]

/-! ### Work given to a position (R64, R129, R186) -/

theorem enterSealing_eq (h : s.recordAt n = some r) :
    s.enterSealing n = (s.moveRecord n .sealing).giveItem r (.sealLock none) := by
  simp only [State.enterSealing, h]

theorem enterWritePending_eq (h : s.recordAt n = some r) :
    s.enterWritePending n = (s.moveRecord n .writePending).giveItem r (.write none) := by
  simp only [State.enterWritePending, h]

/-- R64, R186: a position that is not BOUND, or holds an item, is given none. -/
theorem giveItem_refused (w : Work)
    (hp : ∀ p, r.position = some p → (s.position p).item ≠ none ∨ (s.position p).state ≠ .bound) :
    s.giveItem r w = s := by
  cases hr : r.position with
  | none => exact State.giveItem_unbound w hr
  | some p =>
    simp only [State.giveItem, hr]
    refine if_neg ?_
    rintro ⟨hst, hit⟩
    rcases hp p hr with h | h
    · exact h hit
    · exact h hst

/-- Settles O15. -/
theorem evaluationAutoSealAndWork : Obligations.EvaluationAutoSealAndWork := by
  refine ⟨fun s n r h => ?_, fun s n r h => ⟨fun p hp hb hi => ?_, fun hno => ?_⟩⟩
  · intro eligible
    refine ⟨fun hm hc => (evaluate_measuring h hm).trans (if_pos hc),
      fun hm hc => (evaluate_measuring h hm).trans (if_neg (by simp [hc])),
      fun hm hc => (evaluate_passed h hm).trans (if_pos hc),
      fun hm hc => (evaluate_passed h hm).trans (if_neg (by simp [hc])), State.evaluate_other h,
      fun he => (autoSealTest_eq h).trans (if_neg he), fun he hz => ?_, fun he h1 => ?_⟩
    · rw [autoSealTest_eq h, if_pos he, if_neg (by omega)]
    · rw [autoSealTest_eq h, if_pos he, if_pos h1]
  · rw [enterWritePending_eq h, enterSealing_eq h]
    exact ⟨State.giveItem_bound (s := s.moveRecord n .writePending) _ hp hb hi,
      State.giveItem_bound (s := s.moveRecord n .sealing) _ hp hb hi⟩
  · rw [enterWritePending_eq h, enterSealing_eq h]
    exact ⟨giveItem_refused (s := s.moveRecord n .writePending) _ hno,
      giveItem_refused (s := s.moveRecord n .sealing) _ hno⟩

/-! ### Requests that name a record (R3) -/

theorem handleArg_exact {h : Handle} (hs : h.slot < 256) : handleArg (handleBytes h) 0 = h := by
  have := handleArg_handleBytes hs []
  rwa [List.append_nil] at this

/-- R3: a request that names a record by handle, read off its block. -/
theorem withRecord_handle {h : Handle} {bs : List Byte} {f : Record → Served} {u : Served} (hr : s.resolve h = .ok r)
    (hs : handleArg bs 0 = h) (hu : f r = u) : withRecord (handleArg bs 0) s f = u := by
  rw [hs, withRecord_ok f hr, hu]

theorem withRecord_handle_error {h : Handle} {bs : List Byte} (f : Record → Served) {c : AnswerCode}
    (hr : s.resolve h = .error c) (hs : handleArg bs 0 = h) : withRecord (handleArg bs 0) s f = refuse s c := by
  rw [hs, withRecord_error f hr]

/-! ### SEAL and SEAL ALL (R183, R184) -/

theorem sealRefusal_badState (h : r.state ≠ .passed) : s.sealRefusal r = some .badState := if_pos h

theorem sealRefusal_notReady (h : r.state = .passed) (hr : s.reachable r = false) :
    s.sealRefusal r = some .notReady := by
  simp [State.sealRefusal, h, hr]

theorem sealRefusal_imageOdd (h : r.state = .passed) (hr : s.reachable r = true) (ho : r.flags.imageOdd = true) :
    s.sealRefusal r = some .imageOdd := by
  simp [State.sealRefusal, h, hr, ho]

theorem sealRefusal_flags (h : r.state = .passed) (hr : s.reachable r = true) (ho : r.flags.imageOdd = false) :
    s.sealRefusal r = if r.flags.otherThanImageOdd then some .flagsSet else none := by
  simp [State.sealRefusal, h, hr, ho]

theorem Flags.otherThanImageOdd_iff (f : Flags) :
    f.otherThanImageOdd = true ↔ f.saturated = true ∨ f.glitch = true ∨ f.trimLimit = true := by
  simp [Flags.otherThanImageOdd, or_assoc]

theorem Flags.any_eq (f : Flags) : f.any = (f.imageOdd || f.otherThanImageOdd) := by
  simp [Flags.any, Flags.otherThanImageOdd, Bool.or_comm]

/-- R184: the records that SEAL ALL takes, as the statement of R184 spells them. -/
theorem sealRefusal_isNone (s : State) (r : Record) :
    (s.sealRefusal r).isNone = (decide (r.state = .passed) && s.reachable r && !r.flags.any) := by
  by_cases h : r.state = .passed
  · cases hr : s.reachable r with
    | false => simp [sealRefusal_notReady h hr, h]
    | true =>
      cases ho : r.flags.imageOdd with
      | true => simp [sealRefusal_imageOdd h hr ho, Flags.any_eq, ho]
      | false =>
        rw [sealRefusal_flags h hr ho, Flags.any_eq, ho, h]
        cases r.flags.otherThanImageOdd <;> rfl
  · simp [sealRefusal_badState h, h]

theorem sealable_eq (s : State) :
    s.sealable = s.records.filter (fun r => decide (r.state = .passed) && s.reachable r && !r.flags.any) := by
  simp only [State.sealable, sealRefusal_isNone]

section
variable {args : List Byte} {h : Handle}

theorem doSeal_error {c : AnswerCode} (ha : handleArg args 0 = h) (hr : s.resolve h = .error c) :
    doSeal args s = refuse s c := withRecord_handle_error _ hr ha

theorem doSeal_busy (ha : handleArg args 0 = h) (hr : s.resolve h = .ok r) (hst : r.state = .sealing) :
    doSeal args s = refuse s .busy := withRecord_handle hr ha (if_pos hst)

theorem doSeal_refused {c : AnswerCode} (ha : handleArg args 0 = h) (hr : s.resolve h = .ok r)
    (hst : r.state ≠ .sealing) (hc : s.sealRefusal r = some c) : doSeal args s = refuse s c :=
  withRecord_handle hr ha (by simp only [if_neg hst, hc])

theorem doSeal_open (ha : handleArg args 0 = h) (hr : s.resolve h = .ok r) (hn : s.sealRefusal r = none) :
    doSeal args s = if s.seals.remaining = 0 then refuse s .sealsExhausted
      else taken (s.enterSealing h.slot).settle (u32 s.seals.remaining) :=
  withRecord_handle hr ha (by
    have hst : r.state ≠ .sealing := by rw [passed_of_sealRefusal hn]; decide
    simp only [if_neg hst, hn, ha])

end

theorem doSealAll_eq (args : List Byte) (s : State) : doSealAll args s =
    if s.seals.remaining = 0 then refuse s .sealsExhausted
    else taken ((s.sealable.map (·.slot)).foldl (fun t n => t.enterSealing n) s).settle
      (u8 s.sealable.length ++ u32 s.seals.remaining) := by
  rw [doSealAll, List.foldl_map]

/-- Settles O41. -/
theorem sealRequestsEnterSealing : Obligations.SealRequestsEnterSealing := by
  intro s tag h rest hs refused dirty
  refine ⟨fun ho => ⟨fun c hr => ?_, fun r hr => ?_⟩, fun ho => ?_⟩
  · exact exec_request (k := .seal) ho (doSeal_error (s := s.dequeued rest) (handleArg_exact hs) hr)
  · have refused_of {c : AnswerCode} (hst : r.state ≠ .sealing) (hc : s.sealRefusal r = some c) : refused c :=
      exec_request (k := .seal) ho (doSeal_refused (s := s.dequeued rest) (handleArg_exact hs) hr hst hc)
    have passed (h : r.state = .passed) : r.state ≠ .sealing := by rw [h]; decide
    have opened (h1 : r.state = .passed) (h2 : s.reachable r = true) (h3 : r.flags.imageOdd = false) (h4 : ¬ dirty r) :
        doSeal (handleBytes h) (s.dequeued rest) = _ :=
      doSeal_open (s := s.dequeued rest) (handleArg_exact hs) hr
        ((sealRefusal_flags h1 h2 h3).trans (if_neg (mt (Flags.otherThanImageOdd_iff _).mp h4)))
    refine ⟨fun hst => ?_, fun hst hp => refused_of hst (sealRefusal_badState hp),
      fun h1 h2 => refused_of (passed h1) (sealRefusal_notReady h1 h2),
      fun h1 h2 h3 => refused_of (passed h1) (sealRefusal_imageOdd h1 h2 h3),
      fun h1 h2 h3 h4 => refused_of (passed h1)
        ((sealRefusal_flags h1 h2 h3).trans (if_pos ((Flags.otherThanImageOdd_iff _).mpr h4))),
      fun h1 h2 h3 h4 h0 => exec_request (k := .seal) ho ((opened h1 h2 h3 h4).trans (if_pos h0)),
      fun h1 h2 h3 h4 h0 => exec_request (k := .seal) ho ((opened h1 h2 h3 h4).trans (if_neg h0))⟩
    exact exec_request (k := .seal) ho (doSeal_busy (s := s.dequeued rest) (handleArg_exact hs) hr hst)
  · intro queued
    have hb := doSealAll_eq [] (s.dequeued rest)
    rw [sealable_eq] at hb
    exact ⟨fun h0 => exec_request (k := .sealAll) ho (hb.trans (if_pos h0)),
      fun h0 => exec_request (k := .sealAll) ho (hb.trans (if_neg h0))⟩

end Sys2Proof.Machine
end

section
/-! Proof of O38: AMEND_TRIM (R131, R132, R133). -/

namespace Sys2Proof.Machine

variable {s : State} {r : Record}

/-! ### The arguments -/

theorem bandOfCode_eq_some {n : Nat} {b : Band} : bandOfCode n = some b ↔ b.code = n := by
  match n with
  | 0 | 1 | 2 => cases b <;> simp [bandOfCode, Band.code]
  | n + 3 => cases b <;> simp [bandOfCode, Band.code]

theorem phaseOfCode_eq_some {n : Nat} {p : Phase} : phaseOfCode n = some p ↔ p.code = n := by
  match n with
  | 0 | 1 | 2 => cases p <;> simp [phaseOfCode, Phase.code]
  | n + 3 => cases p <;> simp [phaseOfCode, Phase.code]

theorem Band.code_inj {x y : Band} : x.code = y.code ↔ x = y := by cases x <;> cases y <;> decide

theorem Phase.code_inj {x y : Phase} : x.code = y.code ↔ x = y := by cases x <;> cases y <;> decide

theorem Trim.named_eq (u : Trim) (x : Band) (y : Phase) :
    (u.band == x && u.phase == y) = decide (u.band.code = x.code ∧ u.phase.code = y.code) := by
  simp [Band.code_inj, Phase.code_inj, beq_eq_decide]

/-- R131: the trim that band and phase bytes name, as the statement of R131 spells the test. -/
theorem amendTarget_eq_some {band phase : Nat} {v : Int} {t : Trim} : s.amendTarget r band phase v = some t ↔
    r.trims.find? (fun u => decide (u.band.code = band ∧ u.phase.code = phase)) = some t ∧
      ∃ pf w, s.profileAt r.profile = some pf ∧ trimWidth t.band t.phase pf.layout = some w ∧
        trimMin w ≤ v ∧ v ≤ trimMax w := by
  constructor
  · intro h
    unfold State.amendTarget at h
    split at h
    next b ph pf hb hph hpf =>
      split at h
      next t' w ht hw =>
        split at h
        next hin =>
          cases h
          have hcode : (fun u : Trim => u.band == b && u.phase == ph) =
              fun u => decide (u.band.code = band ∧ u.phase.code = phase) := by
            rw [← bandOfCode_eq_some.mp hb, ← phaseOfCode_eq_some.mp hph]
            exact funext fun u => u.named_eq b ph
          rw [hcode] at ht
          have hsel := List.find?_some ht
          simp only [decide_eq_true_eq] at hsel
          obtain ⟨h1, h2⟩ := hsel
          rw [← bandOfCode_eq_some, hb, Option.some.injEq] at h1
          rw [← phaseOfCode_eq_some, hph, Option.some.injEq] at h2
          exact ⟨ht, pf, w, hpf, by rwa [← h1, ← h2], hin⟩
        next => cases h
      next => cases h
    next => cases h
  · rintro ⟨ht, pf, w, hpf, hw, hin⟩
    have hsel := List.find?_some ht
    simp only [decide_eq_true_eq] at hsel
    obtain ⟨h1, h2⟩ := hsel
    have hcode : (fun u : Trim => u.band == t.band && u.phase == t.phase) =
        fun u => decide (u.band.code = band ∧ u.phase.code = phase) := by
      rw [← h1, ← h2]
      exact funext fun u => u.named_eq t.band t.phase
    simp only [State.amendTarget, bandOfCode_eq_some.mpr h1, phaseOfCode_eq_some.mpr h2, hpf, hcode, ht, hw,
      if_pos hin]

theorem signed32_s32 {v : Int} (h1 : -2147483648 ≤ v) (h2 : v < 2147483648) : signed32 (v % 2 ^ 32).toNat = v := by
  unfold signed32
  split <;> omega

/-- R214: the fields of AMEND_TRIM's arguments. -/
theorem amendArgs {h : Handle} {band phase : Byte} {v : Int} (hs : h.slot < 256) (h1 : -2147483648 ≤ v)
    (h2 : v < 2147483648) :
    let args := handleBytes h ++ [band, phase] ++ s32Bytes v
    handleArg args 0 = h ∧ uField args 2 1 = band.toNat ∧ uField args 3 1 = phase.toNat ∧
      signed32 (uField args 4 4) = v := by
  intro args
  have hv : uField args 4 4 = (v % 2 ^ 32).toNat := by
    have := uField_leBytes (k := 4) (n := (v % 2 ^ 32).toNat) (by omega) []
    rwa [List.append_nil] at this
  refine ⟨?_, uField_zero_cons _ _, uField_zero_cons _ _, by rw [hv, signed32_s32 h1 h2]⟩
  show handleArg (handleBytes h ++ ([band, phase] ++ s32Bytes v)) 0 = h
  exact handleArg_handleBytes hs _

/-! ### The block -/

theorem ComparatorState.tests_iff (c : ComparatorState) : c.tests = true ↔ c = .armed ∨ c = .counting := by
  cases c <;> simp [ComparatorState.tests]

theorem measuringNow_iff (s : State) (r : Record) : s.measuringNow r = true ↔ ∃ p, r.position = some p ∧
    ((s.position p).cmp.state = .armed ∨ (s.position p).cmp.state = .counting) := by
  cases h : r.position <;> simp [State.measuringNow, h, ComparatorState.tests_iff]

theorem Record.differs_eq (r : Record) : r.differs = !r.trims.all (fun u => u.target == u.meter) := by
  simp [Record.differs, List.all_eq_not_any_not, beq_eq_decide]

theorem State.amendTrim_eq (n : Nat) (t : Trim) (v : Int) (r : Record) (s : State) : s.amendTrim n t v r =
    if (r.amend t.band t.phase v).trims.all (fun u => u.target == u.meter) then
      s.updRecord n (Record.amend t.band t.phase v)
    else ((s.updRecord n (Record.amend t.band t.phase v)).enterWritePending n).settle := by
  rw [State.amendTrim, Record.differs_eq]
  cases (r.amend t.band t.phase v).trims.all _ <;> rfl

section
variable {args : List Byte} {h : Handle} {band phase : Nat} {v : Int} {t : Trim}

theorem doAmendTrim_badArgument (ha : handleArg args 0 = h ∧ uField args 2 1 = band ∧ uField args 3 1 = phase ∧
      signed32 (uField args 4 4) = v) (hr : s.resolve h = .ok r) (ht : s.amendTarget r band phase v = none) :
    doAmendTrim args s = refuse s .badArgument := by
  obtain ⟨h1, h2, h3, h4⟩ := ha
  exact withRecord_handle hr h1 (by simp only [h2, h3, h4, ht])

variable (ha : handleArg args 0 = h ∧ uField args 2 1 = band ∧ uField args 3 1 = phase ∧
  signed32 (uField args 4 4) = v) (hr : s.resolve h = .ok r) (ht : s.amendTarget r band phase v = some t)

include ha hr ht

theorem doAmendTrim_busy (hst : r.state = .writePending ∨ r.state = .writing ∨ r.state = .sealing) :
    doAmendTrim args s = refuse s .busy := by
  obtain ⟨h1, h2, h3, h4⟩ := ha
  refine withRecord_handle hr h1 ?_
  rcases hst with hst | hst | hst <;> simp only [h2, h3, h4, ht, hst]

theorem doAmendTrim_badState (hst : r.state = .sealed ∨ r.state = .rejected) :
    doAmendTrim args s = refuse s .badState := by
  obtain ⟨h1, h2, h3, h4⟩ := ha
  refine withRecord_handle hr h1 ?_
  rcases hst with hst | hst <;> simp only [h2, h3, h4, ht, hst]

theorem doAmendTrim_measured (hst : r.state = .measuring ∨ r.state = .passed) :
    doAmendTrim args s = if s.measuringNow r then refuse s .busy
      else taken (s.amendTrim h.slot t v r) (u8 t.band.code ++ u8 t.phase.code ++ s32Bytes t.meter ++ s32Bytes v) := by
  obtain ⟨h1, h2, h3, h4⟩ := ha
  refine withRecord_handle hr h1 ?_
  rcases hst with hst | hst <;> simp only [h1, h2, h3, h4, ht, hst]

end

/-- Settles O38. -/
theorem amendTrimSetsTarget : Obligations.AmendTrimSetsTarget := by
  intro s tag h band phase v rest hslot hv1 hv2 ho refused measured
  have hargs := amendArgs (h := h) (band := band) (phase := phase) hslot hv1 hv2
  refine ⟨fun c hr => ?_, fun r hr => ⟨fun t pf w ht hpf hw hlo hhi => ?_, fun hn => ?_, fun t ht => ⟨?_, ?_, ?_, ?_, ?_⟩⟩⟩
  · exact exec_request (k := .amendTrim) ho (withRecord_handle_error (s := s.dequeued rest) _ hr hargs.1)
  · exact amendTarget_eq_some.mpr ⟨ht, pf, w, hpf, hw, hlo, hhi⟩
  · exact exec_request (k := .amendTrim) ho (doAmendTrim_badArgument (s := s.dequeued rest) hargs hr hn)
  · obtain ⟨hfind, pf, w, hpf, hw, hlo, hhi⟩ := amendTarget_eq_some.mp ht
    have hsel := List.find?_some hfind
    simp only [decide_eq_true_eq] at hsel
    exact ⟨List.mem_of_find?_eq_some hfind, hsel.1, hsel.2, pf, w, hpf, hw, hlo, hhi⟩
  · exact fun hst => exec_request (k := .amendTrim) ho (doAmendTrim_busy (s := s.dequeued rest) hargs hr ht hst)
  · exact fun hst => exec_request (k := .amendTrim) ho (doAmendTrim_badState (s := s.dequeued rest) hargs hr ht hst)
  · exact fun hst hm => exec_request (k := .amendTrim) ho
      ((doAmendTrim_measured (s := s.dequeued rest) hargs hr ht hst).trans (if_pos ((measuringNow_iff s r).mpr hm)))
  · intro hst hm amended set
    have hb := (doAmendTrim_measured (s := s.dequeued rest) hargs hr ht hst).trans
      (if_neg (mt (measuringNow_iff s r).mp hm))
    obtain ⟨hfind, -⟩ := amendTarget_eq_some.mp ht
    have hsel := List.find?_some hfind
    simp only [decide_eq_true_eq] at hsel
    have hbody : u8 t.band.code ++ u8 t.phase.code = [band, phase] := by
      show [BitVec.ofNat 8 t.band.code, BitVec.ofNat 8 t.phase.code] = _
      rw [hsel.1, hsel.2, ofNat_toNat_byte, ofNat_toNat_byte]
    rw [State.amendTrim_eq, List.append_assoc, hbody] at hb
    rw [← List.append_assoc] at hb
    exact exec_request (k := .amendTrim) ho hb

end Sys2Proof.Machine
end

section
/-! Proof of O39: REJECT and CLEAR_FLAGS (R18, R26, R28). -/

namespace Sys2Proof.Machine

variable {s : State} {r : Record}

/-! ### The withdrawal of a WRITE item (R18, R26, R64) -/

theorem reachable_iff (s : State) (r : Record) :
    s.reachable r = true ↔ ∃ p, r.position = some p ∧ (s.position p).state = .bound := by
  cases h : r.position <;> simp [State.reachable, h]

/-- R64: of an orphaned record the item given to the position whose orphan claim is on its way is withdrawn. -/
theorem withdrawWrite_gone {p : Nat} {ph : Option AbandonPhase} (hr : r.position = none)
    (hc : s.Claims (isOrphanFor ⟨r.slot, s.tag r.slot⟩) (.orphan p ⟨r.slot, s.tag r.slot⟩ ph)) :
    s.withdrawWrite r = s.updPosition p (fun x => { x with given := false }) := by
  have ho : s.orphanOnWay (s.handleOf r) = some (p, ph) := State.orphanOnWay_eq hc
  simp only [State.withdrawWrite, hr, State.giveGone, ho]
  rfl

theorem withdrawWrite_none (hr : r.position = none)
    (hc : ∀ p ph, Claim.orphan p ⟨r.slot, s.tag r.slot⟩ ph ∉ s.inFlight) : s.withdrawWrite r = s := by
  have ho : s.orphanOnWay (s.handleOf r) = none := State.orphanOnWay_none hc
  simp only [State.withdrawWrite, hr, State.giveGone, ho]

theorem withdrawWrite_at {p : Nat} (hr : r.position = some p) :
    s.withdrawWrite r = s.withdrawUngranted p Work.isWrite := by
  simp only [State.withdrawWrite, hr]

theorem withdrawUngranted_no_item {p : Nat} (w : Work → Bool) (hi : (s.position p).item = none) :
    s.withdrawUngranted p w = s := by
  refine State.updPosition_same ?_
  simp only [hi, Option.filter_none]
  rw [← hi]

/-- R153: an item that is not of the kind, or has had its first grant, stays. -/
theorem withdrawUngranted_kept {p : Nat} {w : Work → Bool} {i : Item} (hi : (s.position p).item = some i)
    (h : (i.granted || !w i.work) = true) : s.withdrawUngranted p w = s := by
  refine State.updPosition_same ?_
  simp only [hi, Option.filter_some, h, if_true]
  rw [← hi]

theorem withdrawUngranted_withdrawn {p : Nat} {w : Work → Bool} {i : Item} (hi : (s.position p).item = some i)
    (h : (i.granted || !w i.work) = false) :
    s.withdrawUngranted p w = s.updPosition p (fun x => { x with item := none }) := by
  refine State.updPosition_congr ?_
  simp [hi, Option.filter_some, h]

theorem Work.isWrite_iff (w : Work) : w.isWrite = true ↔ ∃ t, w = .write t := by
  cases w <;> simp [Work.isWrite]

theorem reject_eq {n : Nat} (cause : RejectCause) (h : s.recordAt n = some r) : s.reject n cause =
    ((s.withdrawWrite r).updRecord n (fun x => { x with state := .rejected, cause := some cause })).raise
      .recordsChanged := by
  simp only [State.reject, h]

/-! ### The blocks -/

section
variable {args : List Byte} {h : Handle}

theorem doReject_busy (ha : handleArg args 0 = h) (hr : s.resolve h = .ok r)
    (hst : r.state = .writing ∨ r.state = .sealing) : doReject args s = refuse s .busy := by
  refine withRecord_handle hr ha ?_
  rcases hst with hst | hst <;> simp only [hst]

theorem doReject_badState (ha : handleArg args 0 = h) (hr : s.resolve h = .ok r) (hst : r.state = .sealed) :
    doReject args s = refuse s .badState :=
  withRecord_handle hr ha (by simp only [hst])

theorem doReject_taken {cause : Byte} (ha : handleArg args 0 = h) (hc : uField args 2 1 = cause.toNat)
    (hr : s.resolve h = .ok r)
    (hst : r.state = .measuring ∨ r.state = .passed ∨ r.state = .writePending ∨ r.state = .rejected) :
    doReject args s = taken (s.reject h.slot (.byRequest cause)) [] := by
  refine withRecord_handle hr ha ?_
  have hb : BitVec.ofNat 8 (uField args 2 1) = cause := by rw [hc, ofNat_toNat_byte]
  rcases hst with hst | hst | hst | hst <;> simp only [hst, hb, ha]

theorem doClearFlags_eq (ha : handleArg args 0 = h) (hr : s.resolve h = .ok r) :
    doClearFlags args s = if r.state = .sealed then refuse s .badState
      else taken (s.clearFlags h.slot r) (u8 r.flags.cleared.set) :=
  withRecord_handle hr ha (by rw [ha])

end

theorem Flags.cleared_any (f : Flags) : f.cleared.any = f.imageOdd := by
  simp [Flags.cleared, Flags.any]

theorem Flags.cleared_set (f : Flags) : u8 f.cleared.set = [if f.imageOdd = true then 8#8 else 0#8] := by
  cases h : f.imageOdd <;> simp [Flags.cleared, Flags.set, h, u8, leBytes]

/-- Settles O39. -/
theorem rejectAndClearFlags : Obligations.RejectAndClearFlags := by
  refine ⟨fun u n cause r => ⟨fun f => rfl, reachable_iff u r, reject_eq cause⟩,
    fun u r => ⟨fun hr => ⟨fun p ph hc => withdrawWrite_gone hr hc, withdrawWrite_none hr⟩, fun p hr => ?_⟩, ?_⟩
  · rw [withdrawWrite_at hr]
    refine ⟨withdrawUngranted_no_item _, fun i hi => ⟨fun w hw hg => withdrawUngranted_withdrawn hi ?_,
      fun hkept => withdrawUngranted_kept hi ?_⟩⟩
    · rw [hg, Work.isWrite_iff i.work |>.mpr ⟨w, hw⟩]; rfl
    · rcases hkept with hno | hg
      · have : i.work.isWrite = false := by
          rw [Bool.eq_false_iff, Ne, Work.isWrite_iff]
          rintro ⟨t, ht⟩
          exact hno t ht
        rw [this, Bool.not_false, Bool.or_true]
      · rw [hg, Bool.true_or]
  · intro s tag h cause rest hslot rejectRefused
    refine ⟨fun ho => ?_, fun ho => ?_⟩
    · have ha : handleArg (handleBytes h ++ [cause]) 0 = h := handleArg_handleBytes hslot _
      have hc : uField (handleBytes h ++ [cause]) 2 1 = cause.toNat := uField_zero_cons _ _
      refine ⟨fun c hr => exec_request (k := .reject) ho (withRecord_handle_error (s := s.dequeued rest) _ hr ha),
        fun r hr => ⟨fun hst => exec_request (k := .reject) ho (doReject_busy (s := s.dequeued rest) ha hr hst),
          fun hst => exec_request (k := .reject) ho (doReject_badState (s := s.dequeued rest) ha hr hst), fun hst => ?_⟩⟩
      have hb := doReject_taken (s := s.dequeued rest) ha hc hr hst
      have hat : (s.dequeued rest).recordAt h.slot = some r := (State.resolve_ok hr).2.1
      rw [reject_eq _ hat] at hb
      exact exec_request (k := .reject) ho hb
    · have ha := handleArg_exact hslot
      refine ⟨fun c hr => exec_request (k := .clearFlags) ho (withRecord_handle_error (s := s.dequeued rest) _ hr ha),
        fun r hr => ?_⟩
      have hb := doClearFlags_eq (s := s.dequeued rest) ha hr
      refine ⟨fun hst => exec_request (k := .clearFlags) ho (hb.trans (if_pos hst)), fun hst => ?_⟩
      rw [if_neg hst, Flags.cleared_set, State.clearFlags, Flags.cleared_any] at hb
      exact exec_request (k := .clearFlags) ho hb

end Sys2Proof.Machine
end

section
/-! Proofs of O58 and O59: the meter edges and the windows (R102..R113). -/

namespace Sys2Proof.Machine

variable {s : State} {p : Nat} {x : Comparator}

/-- The part with position p's comparator as given, and claims sent. -/
def State.counted (s : State) (p : Nat) (c : Comparator) (sent : List Claim) : State :=
  { s.updPosition p (fun y => { y with cmp := c }) with inFlight := s.inFlight ++ sent }

theorem count_eq (s : State) (p : Nat) (f : Comparator → Counted) :
    s.count p f = s.counted p (f (s.position p).cmp).cmp (f (s.position p).cmp).claims := rfl

theorem counted_unchanged (s : State) (p : Nat) : s.counted p (s.position p).cmp [] = s := by
  have h : s.updPosition p (fun y => { y with cmp := (s.position p).cmp }) = s := State.updPosition_same rfl
  rw [State.counted, h, List.append_nil]

theorem exec_meterActiveEdge (s : State) (tr : PulseEdge) (time : Nat) (hp : isPosition p = true) :
    exec (.meterActiveEdge p tr time) s = .next (s.meterActive p tr time) := onPosition_next _ hp

theorem exec_meterOppositeEdge (s : State) (tr : PulseEdge) (time : Nat) (hp : isPosition p = true) :
    exec (.meterOppositeEdge p tr time) s = .next (s.count p (oppositeEdge p tr time)) := onPosition_next _ hp

theorem exec_glitchTestEnd (s : State) (hp : isPosition p = true) :
    exec (.glitchTestEnd p) s = .next (s.count p (testEnd p)) := onPosition_next _ hp

theorem meterActive_eq (s : State) (p : Nat) (tr : PulseEdge) (time : Nat) : s.meterActive p tr time =
    s.updPosition p (fun y => { y with cmp := activeEdge s.ref.counter tr time (s.position p).cmp }) :=
  State.updPosition_congr rfl

/-! ### Edges under test (R102..R105) -/

theorem activeEdge_taken {pr : PointParams} (counter : Word) (tr : PulseEdge) (time : Nat) (hx : x.params = some pr)
    (ht : x.state.tests = true) (he : tr = pr.edge) :
    activeEdge counter tr time x = { x with edge := some ⟨counter, time⟩ } := by
  simp only [activeEdge, hx, if_pos (And.intro ht he)]

theorem activeEdge_other (counter : Word) (tr : PulseEdge) (time : Nat)
    (h : ¬ x.state.tests = true ∨ ∀ pr, x.params = some pr → tr ≠ pr.edge) : activeEdge counter tr time x = x := by
  unfold activeEdge
  split
  next pr hpr =>
    refine if_neg ?_
    rintro ⟨ht, he⟩
    rcases h with h | h
    · exact h ht
    · exact h pr hpr he
  next => rfl

theorem oppositeEdge_other (p : Nat) (tr : PulseEdge) (time : Nat)
    (h : ¬ x.state.tests = true ∨ x.edge = none ∨ ∀ pr, x.params = some pr → tr = pr.edge) :
    oppositeEdge p tr time x = ⟨x, []⟩ := by
  unfold oppositeEdge
  split
  next pr e hpr he =>
    refine if_neg ?_
    rintro ⟨ht, hne⟩
    rcases h with h | h | h
    · exact h ht
    · rw [he] at h; cases h
    · exact hne (h pr hpr)
  next => rfl

section
variable {pr : PointParams} {e : EdgeUnderTest} {tr : PulseEdge} {time : Nat} (hpr : x.params = some pr)
  (he : x.edge = some e) (ht : x.state.tests = true) (hne : tr ≠ pr.edge)

include hpr he ht hne

/-- R104, R105: an opposite edge before the minimum width makes the edge under test a glitch. -/
theorem oppositeEdge_early (p : Nat) (h : time - e.arrival < pr.minWidth) : oppositeEdge p tr time x = glitchEdge p x := by
  simp only [oppositeEdge, hpr, he, if_pos (And.intro ht hne), if_pos h]

/-- R102: a later one accepts it, as the end of the glitch test does. -/
theorem oppositeEdge_late (p : Nat) (h : pr.minWidth ≤ time - e.arrival) : oppositeEdge p tr time x = testEnd p x := by
  simp only [oppositeEdge, hpr, he, if_neg (Nat.not_lt.mpr h), testEnd, ht, true_and, if_pos hne, if_true]

end

section
variable {pr : PointParams} {h : Handle} {k : Nat} (hpr : x.params = some pr) (hh : x.handle = some h)
  (hk : x.index = some k)

include hpr hh hk

theorem glitchEdge_stall (p : Nat) (hpol : pr.policy = .stall) : glitchEdge p x =
    ⟨{ x with state := .stalled, edge := none },
      [.flag p h .glitch, .result p h k (bareResult .glitch x.windows), .finishing p]⟩ := by
  simp only [glitchEdge, hpr, hh, hk, hpol]

theorem glitchEdge_ignore (p : Nat) (hpol : pr.policy = .ignore) :
    glitchEdge p x = ⟨{ x with edge := none }, [.flag p h .glitch]⟩ := by
  simp only [glitchEdge, hpr, hh, hk, hpol]

end

/-- Settles O58. -/
theorem meterEdgesAreTested : Obligations.MeterEdgesAreTested := by
  intro s p tr time hp _ x testing becomes
  have htests : x.state.tests = true ↔ testing := ComparatorState.tests_iff x.state
  refine ⟨fun pr hpr ht he => ?_, fun h => ?_, fun pr e h k hpr he hh hk ht hne =>
    ⟨fun hw hpol => ?_, fun hw hpol => ?_, fun hw => ?_⟩, fun h => ?_⟩
  · rw [exec_meterActiveEdge s tr time hp, meterActive_eq, activeEdge_taken _ tr time hpr (htests.mpr ht) he]
    exact congrArg Host.Outcome.next (by simp only [becomes, List.append_nil]; rfl)
  · rw [exec_meterActiveEdge s tr time hp, meterActive_eq,
      activeEdge_other _ tr time (h.imp_left fun hn => mt htests.mp hn), State.updPosition_same rfl]
  · rw [exec_meterOppositeEdge s tr time hp, count_eq, oppositeEdge_early hpr he (htests.mpr ht) hne p hw,
      glitchEdge_stall hpr hh hk p hpol]
    rfl
  · rw [exec_meterOppositeEdge s tr time hp, count_eq, oppositeEdge_early hpr he (htests.mpr ht) hne p hw,
      glitchEdge_ignore hpr hh hk p hpol]
    rfl
  · rw [exec_meterOppositeEdge s tr time hp, exec_glitchTestEnd s hp, count_eq,
      oppositeEdge_late hpr he (htests.mpr ht) hne p hw, count_eq]
  · rw [exec_meterOppositeEdge s tr time hp, count_eq,
      oppositeEdge_other p tr time (h.imp_left fun hn => mt htests.mp hn), counted_unchanged]

/-! ### Windows (R107..R113) -/

theorem testEnd_other (p : Nat) (h : x.edge = none ∨ ¬ x.state.tests = true) : testEnd p x = ⟨x, []⟩ := by
  unfold testEnd
  split
  next ht =>
    rcases h with h | h
    · cases hst : x.state <;> simp [acceptEdge, hst, h]
    · exact absurd ht h
  next => rfl

section
variable {pr : PointParams} {e : EdgeUnderTest} {h : Handle} {k : Nat} (hpr : x.params = some pr)
  (he : x.edge = some e) (hh : x.handle = some h) (hk : x.index = some k)

include hpr he hh hk

/-- R107: the first accepted edge starts the first window. -/
theorem testEnd_armed (p : Nat) (hst : x.state = .armed) : testEnd p x =
    ⟨{ x with state := .counting, start := some e.capture, edge := none, count := 0, windows := 0, acc := 0 }, []⟩ := by
  simp only [testEnd, acceptEdge, hst, ComparatorState.tests, if_true, hpr, he, hh, hk]

/-- R108: a further one counts, or ends the window. -/
theorem testEnd_counting (p : Nat) {start : Word} (hst : x.state = .counting) (hs : x.start = some start) :
    testEnd p x = if x.count + 1 = pr.pulses then endWindow p h k pr x start e.capture
      else ⟨{ x with edge := none, count := x.count + 1 }, []⟩ := by
  simp only [testEnd, acceptEdge, hst, ComparatorState.tests, if_true, hpr, he, hh, hk, hs]

end

section
variable {h : Handle} {k : Nat} {pr : PointParams} {start capture : Word}

/-- R109: a window without a reference pulse. -/
theorem endWindow_empty (p : Nat) (hc : (capture - start).toNat = 0) : endWindow p h k pr x start capture =
    ⟨{ x with edge := none, count := pr.pulses, state := .done },
      [.result p h k (bareResult .refLost 0), .finishing p]⟩ := if_pos hc

/-- R110, R111: a window that is not the last adds its error. -/
theorem endWindow_more (p : Nat) (hc : (capture - start).toNat ≠ 0) (hw : x.windows + 1 ≠ pr.windows) :
    endWindow p h k pr x start capture =
      ⟨{ x with
          edge := none, count := 0, windows := x.windows + 1, start := some capture,
          acc := x.acc + guardClamp (windowError pr.pulses pr.kref pr.kmeter (capture - start).toNat) }, []⟩ :=
  (if_neg hc).trans (if_neg hw)

/-- R113: the last window gives the mean. -/
theorem endWindow_last (p : Nat) (hc : (capture - start).toNat ≠ 0) (hw : x.windows + 1 = pr.windows) :
    endWindow p h k pr x start capture =
      let acc := x.acc + guardClamp (windowError pr.pulses pr.kref pr.kmeter (capture - start).toNat)
      ⟨{ x with edge := none, count := pr.pulses, windows := x.windows + 1, acc := acc, state := .done },
        resultClaims p h k (meanResult .done acc pr.windows) ++ [.finishing p]⟩ :=
  (if_neg hc).trans (if_pos hw)

end

theorem resultClaims_eq (p : Nat) (h : Handle) (k : Nat) (res : Result) : resultClaims p h k res =
    if res.saturated = true then [.flag p h .saturated, .result p h k res] else [.result p h k res] := by
  unfold resultClaims
  split <;> rfl

/-- Settles O59. -/
theorem acceptedEdgesMakeWindows : Obligations.AcceptedEdgesMakeWindows := by
  intro s p pr e h k hp _ x becomes done
  have done_of {c : Comparator} {sent : List Claim} (ht : testEnd p x = ⟨c, sent⟩) : done (becomes c sent) := by
    show exec (.glitchTestEnd p) s = _
    rw [exec_glitchTestEnd s hp, count_eq, ht]
    rfl
  refine ⟨fun hno => ?_, fun hpr he hh hk =>
    ⟨fun hst => done_of (testEnd_armed hpr he hh hk p hst), fun start hst hs => ?_⟩⟩
  · have hot := testEnd_other p (hno.imp_right fun hn => mt (ComparatorState.tests_iff x.state).mp (not_or.mpr hn))
    have := done_of hot
    have hsame : becomes x [] = s := counted_unchanged s p
    rwa [hsame] at this
  · intro c error mean stored
    have ht := testEnd_counting hpr he hh hk p hst hs
    refine ⟨fun hn => done_of (ht.trans (if_neg hn)),
      fun hn hc => done_of (ht.trans ((if_pos hn).trans (endWindow_empty p hc))),
      fun hn hc hw => done_of (ht.trans ((if_pos hn).trans (endWindow_more p hc hw))), fun hn hc hw => ?_⟩
    have hlast := done_of (ht.trans ((if_pos hn).trans (endWindow_last p hc hw)))
    have hclaims : resultClaims p h k (meanResult .done (x.acc + error) pr.windows) ++ [.finishing p] =
        (if stored ≠ mean then [.flag p h .saturated] else []) ++
          [.result p h k ⟨.done, some stored, pr.windows, decide (stored ≠ mean)⟩, .finishing p] := by
      simp only [resultClaims, meanResult, decide_eq_true_eq, List.append_assoc]
      rfl
    rw [hw] at hlast
    rw [← hclaims]
    exact hlast

end Sys2Proof.Machine
end

section
/-! Proofs of O34, O35 and O37: the start of a point, what it arms, and the reports that do not end it. -/

namespace Sys2Proof.Machine

variable {s : State}

/-! ### Arming (R85, R101) -/

theorem RecordState.takesPart_iff (st : RecordState) (role : Role) :
    st.takesPart role = true ↔ st = .measuring ∨ (st = .passed ∧ role = .check) := by
  cases st <;> simp [RecordState.takesPart]

/-- R85: the four conditions, in the model's own terms. -/
theorem armingOf_eq_some {k p : Nat} {c : Comparator} : s.armingOf k p = some c ↔ ∃ h r pt pf,
    (s.position p).bound = some h ∧ s.named h = some r ∧ s.pointAt k = some pt ∧ s.profileAt r.profile = some pf ∧
      ((s.position p).state = .bound ∧ r.state.takesPart pt.role = true ∧ s.applies k r = true ∧
        (s.position p).cmp.state = .idle) ∧ c = armedComparator h k pt pf s.ref.kref := by
  constructor
  · intro h
    unfold State.armingOf at h
    dsimp only at h
    split at h
    · cases h
    next hd hb =>
      split at h
      · cases h
      next r hr =>
        split at h
        next pt pf hpt hpf =>
          split at h
          next hc =>
            cases h
            exact ⟨hd, r, pt, pf, hb, hr, hpt, hpf, hc, rfl⟩
          · cases h
        · cases h
  · rintro ⟨h, r, pt, pf, hb, hr, hpt, hpf, hc, rfl⟩
    simp only [State.armingOf, hb, hr, hpt, hpf]
    exact if_pos hc

theorem applies_iff_of_point {k : Nat} {r : Record} {pt : Point} {pf : Profile} (hpt : s.pointAt k = some pt)
    (hpf : s.profileAt r.profile = some pf) : s.applies k r = true ↔ within 16 r.profile = true ∧
      pt.mask.getLsbD (r.profile - 1) = true ∧ (pt.elements = .a ∨ pt.elements = .abc ∨ pf.elementCount = 3) := by
  rw [State.applies_iff hpf, hpt]
  constructor
  · rintro ⟨_, hpt', h⟩
    cases hpt'
    exact h
  · exact fun h => ⟨pt, rfl, h⟩

/-- Settles O35. -/
theorem armingFollowsItsConditions : Obligations.ArmingFollowsItsConditions := by
  intro s k p c
  rw [armingOf_eq_some]
  constructor
  · rintro ⟨h, r, pt, pf, hb, hr, hpt, hpf, ⟨hst, htp, happ, hidle⟩, hc⟩
    obtain ⟨hw, hm, he⟩ := (applies_iff_of_point hpt hpf).mp happ
    exact ⟨h, r, pt, pf, hb, hr, hpt, hpf, hst, (RecordState.takesPart_iff _ _).mp htp, hw, hm, he, hidle, hc⟩
  · rintro ⟨h, r, pt, pf, hb, hr, hpt, hpf, hst, htp, hw, hm, he, hidle, hc⟩
    exact ⟨h, r, pt, pf, hb, hr, hpt, hpf, ⟨hst, (RecordState.takesPart_iff _ _).mpr htp,
      (applies_iff_of_point hpt hpf).mpr ⟨hw, hm, he⟩, hidle⟩, hc⟩

/-! ### START_POINT (R84, R85, R97) -/

/-- R84, R85: the part as START_POINT leaves it, before the watchdog's comparison. -/
def State.started (k : Nat) (pt : Point) (s : State) : State :=
  { s.arm k with
    seq := { s.seq with running := some k, timer := some (1000 * pt.timeout), armedRemaining := (s.armable k).length,
                        armedAtStart := (s.armable k).length }
    ref := { s.ref with lossReported := false }
    inFlight := s.inFlight.filter (fun c => !isRefLoss c) }

theorem startPoint_eq (s : State) (k : Nat) (pt : Point) : s.startPoint k pt = (s.started k pt).compareWatchdog := rfl

theorem position_arm {k p : Nat} (hs : s.Shaped) (hp : isPosition p = true) : (s.arm k).position p =
    { s.position p with cmp := (s.armingOf k p).getD (s.position p).cmp } := by
  obtain ⟨h1, h48⟩ := isPosition_iff.mp hp
  exact position_mapCmps s (fun p c => (s.armingOf k p).getD c) p h1 (hs.1.symm ▸ h48)

theorem not_isRefLoss_eq : (fun c => !isRefLoss c) = fun c => decide (c ≠ .refLoss) := by
  funext c
  cases c <;> simp [isRefLoss]

section
variable {args : List Byte}

theorem doStartPoint_badArgument (hk : within 24 (uField args 0 1) = false) :
    doStartPoint args s = refuse s .badArgument := by
  simp [doStartPoint, hk]

theorem doStartPoint_busy (hk : within 24 (uField args 0 1) = true) (hr : s.seq.running ≠ none) :
    doStartPoint args s = refuse s .busy := by
  simp [doStartPoint, hk, Option.isSome_iff_ne_none.mpr hr]

theorem doStartPoint_notReady (hk : within 24 (uField args 0 1) = true) (hr : s.seq.running = none)
    (h0 : s.ref.kref = 0) : doStartPoint args s = refuse s .notReady := by
  simp [doStartPoint, hk, hr, h0]

theorem doStartPoint_noSuch (hk : within 24 (uField args 0 1) = true) (hr : s.seq.running = none)
    (h0 : s.ref.kref ≠ 0) (hp : s.pointAt (uField args 0 1) = none) : doStartPoint args s = refuse s .noSuch := by
  simp [doStartPoint, hk, hr, h0, hp]

theorem doStartPoint_taken {pt : Point} (hk : within 24 (uField args 0 1) = true) (hr : s.seq.running = none)
    (h0 : s.ref.kref ≠ 0) (hp : s.pointAt (uField args 0 1) = some pt) : doStartPoint args s =
      taken (s.startPoint (uField args 0 1) pt) (u8 (uField args 0 1) ++ u8 (s.armable (uField args 0 1)).length) := by
  simp [doStartPoint, hk, hr, h0, hp]

end

/-- Settles O34. -/
theorem startPointArmsComparators : Obligations.StartPointArmsComparators := by
  intro s tag k rest hs ho refused
  have harg : uField [k] 0 1 = k.toNat := uField_zero_cons k []
  rw [← harg]
  refine ⟨fun hk => exec_request (k := .startPoint) ho (doStartPoint_badArgument (s := s.dequeued rest) hk),
    fun hk hr => exec_request (k := .startPoint) ho (doStartPoint_busy (s := s.dequeued rest) hk hr),
    fun hk hr h0 => exec_request (k := .startPoint) ho (doStartPoint_notReady (s := s.dequeued rest) hk hr h0),
    fun hk hr h0 hp => exec_request (k := .startPoint) ho (doStartPoint_noSuch (s := s.dequeued rest) hk hr h0 hp),
    fun pt hk hr h0 hp => ?_⟩
  have hb := doStartPoint_taken (s := s.dequeued rest) hk hr h0 hp
  rw [harg] at hb ⊢
  have hk8 : u8 k.toNat = [k] := congrArg (· :: []) (ofNat_toNat_byte k)
  rw [hk8] at hb
  have hframe := compareWatchdog_frame ((s.dequeued rest).started k.toNat pt)
  rw [← startPoint_eq] at hframe
  have hpos (p : Nat) (hp : isPosition p = true) : ((s.dequeued rest).startPoint k.toNat pt).position p =
      { s.position p with cmp := (s.armingOf k.toNat p).getD (s.position p).cmp } := by
    rw [hframe]
    exact position_arm (s := s.dequeued rest) hs hp
  refine ⟨(s.dequeued rest).startPoint k.toNat pt, _, exec_request (k := .startPoint) ho hb, rfl, ?_, hpos, ?_, ?_, ?_,
    ?_, ?_, ?_, ?_, ?_, ?_, fun hlate => ?_, fun hearly => ?_⟩
  iterate 10 rw [hframe]; rfl
  · rw [startPoint_eq, compareWatchdog_late (s := (s.dequeued rest).started k.toNat pt) rfl rfl hlate]
    exact ⟨rfl, congrArg (fun f => s.inFlight.filter f ++ [Claim.refLoss]) not_isRefLoss_eq⟩
  · rw [startPoint_eq, compareWatchdog_else]
    · exact ⟨rfl, congrArg (fun f => s.inFlight.filter f) not_isRefLoss_eq⟩
    · exact fun h => absurd h.2.2 (Nat.not_le.mpr hearly)

/-! ### Reports that do not end a point, and requests and expiries in IDLE (R87..R93) -/

/-- A claim that stands first in its stream is taken. -/
theorem claim_taken {α : Type} {p : Nat} {stream : Claim → Bool} {want : Claim → Option α} {f : α → State → State}
    {c : Claim} {a : α} (hp : isPosition p = true) (hc : s.Claims stream c) (hw : want c = some a) :
    onPosition p s (State.takeClaim stream want f) = .next (f a (s.claimTaken stream)) := by
  rw [onPosition_next _ hp, takeClaim_claims f hc hw]

theorem exec_finishingReport {p : Nat} (hp : isPosition p = true) (hc : s.Claims (isFinishing p) (.finishing p)) :
    exec (.finishingReport p) s = .next ((s.claimTaken (isFinishing p)).finishingTaken ()) :=
  claim_taken hp hc rfl

theorem exec_refLossReport (hc : s.Claims isRefLoss .refLoss) :
    exec .refLossReport s = .next ((s.claimTaken isRefLoss).lossTaken ()) :=
  congrArg Host.Outcome.next (takeClaim_claims _ hc rfl)

theorem finishingTaken_idle (h : s.seq.running = none) : s.finishingTaken () = s := by
  simp only [State.finishingTaken, h]

theorem finishingTaken_zero {k : Nat} (h : s.seq.running = some k) (h0 : s.seq.armedRemaining = 0) :
    s.finishingTaken () = s := by
  simp only [State.finishingTaken, h, h0]

theorem finishingTaken_succ {k n : Nat} (h : s.seq.running = some k) (hn : s.seq.armedRemaining = n + 1) :
    s.finishingTaken () =
      if n = 0 then
        (({ s with seq := { s.seq with armedRemaining := n } } : State).endPoint k .complete closingResult).settle
      else { s with seq := { s.seq with armedRemaining := n } } := by
  simp only [State.finishingTaken, h, hn]

theorem lossTaken_idle (h : s.seq.running = none) : s.lossTaken () = s := by
  simp only [State.lossTaken, h]

theorem lossTaken_running {k : Nat} (h : s.seq.running = some k) : s.lossTaken () = (s.losePoint k).settle := by
  simp only [State.lossTaken, h]

theorem timerExpired_idle (h : s.seq.running = none) : s.timerExpired = s := by
  simp only [State.timerExpired, h]

theorem timerExpired_running {k : Nat} (h : s.seq.running = some k) (ht : s.seq.timer.isSome = true) :
    s.timerExpired = (s.endPoint k .timedOut closingResult).settle := by
  obtain ⟨n, hn⟩ := Option.isSome_iff_exists.mp ht
  simp only [State.timerExpired, h, hn]

theorem doEndPoint_idle (args : List Byte) (h : s.seq.running = none) : doEndPoint args s = refuse s .badState := by
  simp only [doEndPoint, h]

theorem doEndPoint_running {k : Nat} (args : List Byte) (h : s.seq.running = some k) : doEndPoint args s =
    taken (s.endPoint k .ended closingResult).settle
      (u8 k ++ u8 s.seq.armedAtStart ++ u8 (s.takeSentClaims.closingCount closingResult)) := by
  simp only [doEndPoint, h]

theorem doAbortPoint_idle (args : List Byte) (h : s.seq.running = none) :
    doAbortPoint args s = refuse s .badState := by
  simp only [doAbortPoint, h]

theorem doAbortPoint_running {k : Nat} (args : List Byte) (h : s.seq.running = some k) :
    doAbortPoint args s = taken (s.abortPoint k).settle (u8 k ++ u8 s.seq.armedAtStart) := by
  simp only [doAbortPoint, h]

/-- R113: the stored clamp, as the statement of R115 spells it. -/
theorem meanResult_eq (kind : ResultKind) {acc m : Int} {windows : Nat} (hm : Int.tdiv acc windows = m) :
    meanResult kind acc windows = ⟨kind, some (if m < -500000 then -500000 else if 500000 < m then 500000 else m), windows,
      decide (m < -500000 ∨ 500000 < m)⟩ := by
  have hsat : (storedClamp m ≠ m) = (m < -500000 ∨ 500000 < m) := by
    show ((if m < -500000 then -500000 else if 500000 < m then 500000 else m) ≠ m) = _
    refine propext ⟨fun h => ?_, fun h => ?_⟩
    · split at h
      · omega
      · split at h <;> omega
    · split
      · omega
      · split <;> omega
  rw [meanResult, truncDiv, hm]
  simp only [hsat]
  rfl

/-- Settles O37. -/
theorem reportsAndClosingResults : Obligations.ReportsAndClosingResults := by
  refine ⟨fun s => ⟨fun k p n hp hr hc hn => ?_, fun k p hp hr hc h0 => ?_, fun hr => ⟨fun tag rest ho => ?_,
    fun tag rest ho => ?_, ?_, fun hc => ?_, fun p hp hc => ?_⟩⟩,
    fun x => ⟨fun hst => ?_, fun hst hw => ?_, fun hst hw => ?_, fun hst => ?_, fun hst => ?_, resultClaims_eq⟩⟩
  · rw [exec_finishingReport hp hc, finishingTaken_succ (s := s.claimTaken (isFinishing p)) hr hn, if_neg (by omega)]
    rfl
  · rw [exec_finishingReport hp hc, finishingTaken_zero (s := s.claimTaken (isFinishing p)) hr h0]
  · exact exec_request (k := .endPoint) ho (doEndPoint_idle (s := s.dequeued rest) [] hr)
  · exact exec_request (k := .abortPoint) ho (doAbortPoint_idle (s := s.dequeued rest) [] hr)
  · exact congrArg Host.Outcome.next (timerExpired_idle hr)
  · rw [exec_refLossReport hc, lossTaken_idle (s := s.claimTaken isRefLoss) hr]
  · rw [exec_finishingReport hp hc, finishingTaken_idle (s := s.claimTaken (isFinishing p)) hr]
  · simp only [closingResult, hst]
    rfl
  · simp only [closingResult, hst, hw, if_true]
    rfl
  · simp only [closingResult, hst, if_neg (Nat.pos_iff_ne_zero.mp hw)]
    exact congrArg some (meanResult_eq .incomplete rfl)
  · simp only [lossResult, (ComparatorState.tests_iff _).mpr hst, if_true]
    rfl
  · rcases hst with hst | hst | hst <;> simp [closingResult, lossResult, hst, ComparatorState.tests]

end Sys2Proof.Machine
end

section
/-! SUPPORT. What recording and verdicts leave: all but the records, the work items and gifts of positions, and the
pending set. -/

namespace Sys2Proof.Machine

/-- A position without its work item and its mark of a gift. -/
def Position.standing (x : Position) : Position := { x with item := none, given := false }

/-- The part without its records, its positions' work and its pending set. -/
def State.aside (s : State) : State :=
  { s with
    records := []
    positions := s.positions.map Position.standing
    port := { s.port with pendingSet := 0#8 } }

variable (s : State)

@[simp] theorem aside_raise (c : Condition) : (s.raise c).aside = s.aside := rfl

@[simp] theorem aside_updRecord (n : Nat) (f : Record → Record) : (s.updRecord n f).aside = s.aside := rfl

@[simp] theorem aside_moveRecord (n : Nat) (st : RecordState) : (s.moveRecord n st).aside = s.aside := rfl

theorem aside_updPosition (p : Nat) (f : Position → Position) (hf : ∀ x, (f x).standing = x.standing) :
    (s.updPosition p f).aside = s.aside := by
  simp only [State.aside, State.updPosition_positions, map_updPlace Position.standing s.positions p f hf]
  rfl

@[simp] theorem aside_withdrawUngranted (p : Nat) (w : Work → Bool) : (s.withdrawUngranted p w).aside = s.aside :=
  aside_updPosition s p _ fun _ => rfl

@[simp] theorem aside_markGiven (p : Nat) (b : Bool) : (s.markGiven p b).aside = s.aside :=
  aside_updPosition s p _ fun _ => rfl

@[simp] theorem aside_queueItem (p : Nat) (w : Work) : (s.queueItem p w).aside = s.aside :=
  aside_updPosition s p _ fun _ => rfl

@[simp] theorem aside_giveItem (r : Record) (w : Work) : (s.giveItem r w).aside = s.aside := by
  unfold State.giveItem
  split
  · rfl
  · split
    · exact aside_queueItem s _ _
    · rfl

@[simp] theorem aside_giveGone (r : Record) (b : Bool) : (s.giveGone r b).aside = s.aside := by
  unfold State.giveGone
  split
  · exact aside_markGiven s _ _
  · rfl

@[simp] theorem aside_withdrawWrite (r : Record) : (s.withdrawWrite r).aside = s.aside := by
  unfold State.withdrawWrite
  split
  · exact aside_giveGone s _ _
  · exact aside_withdrawUngranted s _ _

@[simp] theorem aside_reject (n : Nat) (c : RejectCause) : (s.reject n c).aside = s.aside := by
  cases h : s.recordAt n with
  | none => simp only [State.reject, h, aside_raise, aside_updRecord]
  | some r => rw [reject_eq c h, aside_raise, aside_updRecord, aside_withdrawWrite]

@[simp] theorem aside_enterSealing (n : Nat) : (s.enterSealing n).aside = s.aside := by
  cases h : s.recordAt n with
  | none => simp only [State.enterSealing, h, aside_moveRecord]
  | some r => rw [enterSealing_eq h, aside_giveItem, aside_moveRecord]

@[simp] theorem aside_enterWritePending (n : Nat) : (s.enterWritePending n).aside = s.aside := by
  cases h : s.recordAt n with
  | none => simp only [State.enterWritePending, h, aside_moveRecord]
  | some r => rw [enterWritePending_eq h, aside_giveItem, aside_moveRecord]

@[simp] theorem aside_autoSealTest (n : Nat) : (s.autoSealTest n).aside = s.aside := by
  unfold State.autoSealTest
  (repeat' split) <;> simp

@[simp] theorem aside_evaluate (n : Nat) : (s.evaluate n).aside = s.aside := by
  unfold State.evaluate
  (repeat' split) <;> simp

@[simp] theorem aside_resetEntry (k n : Nat) : (s.resetEntry k n).aside = s.aside := rfl

@[simp] theorem aside_verdictEffect (n : Nat) (pt : Point) (pf : Profile) (e : Int) (v : Verdict) :
    (s.verdictEffect n pt pf e v).aside = s.aside := by
  cases v with
  | pass | fail => rfl
  | outOfRange | adjustLimit => exact aside_reject s _ _
  | adjusted =>
    unfold State.verdictEffect
    dsimp only
    (repeat' split) <;> simp

@[simp] theorem aside_writeResult (n k : Nat) (r : Record) (res : Result) :
    (s.writeResult n k r res).aside = s.aside := by
  unfold State.writeResult
  (repeat' split) <;> simp

@[simp] theorem aside_takeResult (h : Handle) (k : Nat) (res : Result) : (s.takeResult h k res).aside = s.aside := by
  unfold State.takeResult
  (repeat' split) <;> simp

@[simp] theorem aside_takeFlag (h : Handle) (f : ClaimFlag) : (s.takeFlag h f).aside = s.aside := by
  unfold State.takeFlag
  (repeat' split) <;> rfl

@[simp] theorem aside_takeComparatorClaim (c : Claim) : (s.takeComparatorClaim c).aside = s.aside := by
  cases c <;> simp [State.takeComparatorClaim]

/-- A fold of changes that leave the rest aside leaves it. -/
theorem aside_foldl {α : Type} (f : State → α → State) (hf : ∀ v a, (f v a).aside = v.aside) (l : List α) (s : State) :
    (l.foldl f s).aside = s.aside := by
  induction l generalizing s with
  | nil => rfl
  | cons a l ih => exact (ih _).trans (hf s a)

@[simp] theorem aside_takeAll (cs : List Claim) : (takeAll cs s).aside = s.aside :=
  aside_foldl _ (fun v c => aside_takeComparatorClaim v c) cs s

@[simp] theorem aside_resetClaim (k : Nat) : (s.resetClaim k).aside = s.aside :=
  (aside_foldl _ (fun v n => aside_evaluate v n) _ _).trans (aside_foldl _ (fun v n => aside_resetEntry v k n) _ s)

/-! ### What agreement gives -/

variable {s} {t : State}

theorem seq_of_aside (h : t.aside = s.aside) : t.seq = s.seq := by have := congrArg State.seq h; exact this

theorem ref_of_aside (h : t.aside = s.aside) : t.ref = s.ref := by have := congrArg State.ref h; exact this

theorem plan_of_aside (h : t.aside = s.aside) : t.plan = s.plan := by have := congrArg State.plan h; exact this

theorem seals_of_aside (h : t.aside = s.aside) : t.seals = s.seals := by have := congrArg State.seals h; exact this

theorem profiles_of_aside (h : t.aside = s.aside) : t.profiles = s.profiles := by
  have := congrArg State.profiles h; exact this

theorem inFlight_of_aside (h : t.aside = s.aside) : t.inFlight = s.inFlight := by
  have := congrArg State.inFlight h; exact this

theorem lanes_of_aside (h : t.aside = s.aside) : t.lanes = s.lanes := by have := congrArg State.lanes h; exact this

theorem tags_of_aside (h : t.aside = s.aside) : t.tags = s.tags := by have := congrArg State.tags h; exact this

theorem admissions_of_aside (h : t.aside = s.aside) : t.admissions = s.admissions := by
  have := congrArg State.admissions h; exact this

theorem flash_of_aside (h : t.aside = s.aside) : t.flash = s.flash := by have := congrArg State.flash h; exact this

theorem store_of_aside (h : t.aside = s.aside) : t.store = s.store := by have := congrArg State.store h; exact this

theorem port_of_aside (h : t.aside = s.aside) : t.port = { s.port with pendingSet := t.port.pendingSet } := by
  have hp : { t.port with pendingSet := 0#8 } = { s.port with pendingSet := 0#8 } := congrArg State.port h
  calc t.port = { ({ t.port with pendingSet := 0#8 } : Port) with pendingSet := t.port.pendingSet } := rfl
    _ = _ := by rw [hp]

theorem position_of_aside (h : t.aside = s.aside) (p : Nat) : (t.position p).standing = (s.position p).standing := by
  have hpos : t.positions.map Position.standing = s.positions.map Position.standing := congrArg State.positions h
  exact position_of_map hpos p

/-- A state that agrees aside, spelled by what may differ. -/
theorem frame_of_aside (h : t.aside = s.aside) : t =
    { s with records := t.records, positions := t.positions, port := { s.port with pendingSet := t.port.pendingSet } } :=
  calc t = { t.aside with records := t.records, positions := t.positions, port := t.port } := rfl
    _ = { s.aside with
          records := t.records, positions := t.positions, port := { s.port with pendingSet := t.port.pendingSet } } := by
      rw [h, ← port_of_aside h]
    _ = _ := rfl

end Sys2Proof.Machine
end

section
/-! Proof of O36: each end of a point makes the end whole (R87..R93). -/

namespace Sys2Proof.Machine

variable {s t w : State} {k : Nat} {cause : EndCause} {taken : State}

/-! ### What an arbitration sends (R155) -/

/-- R155: a start claim, of a WRITE or a SEAL item. -/
def Claim.Starts (c : Claim) : Prop := ∃ p h, c = .writeStart p h ∨ c = .sealStart p h

theorem starts_startClaim {p : Nat} {x : Position} {c : Claim} (h : startClaim p x = some c) : c.Starts := by
  unfold startClaim at h
  repeat' split at h
  all_goals cases h
  · exact ⟨_, _, .inl rfl⟩
  · exact ⟨_, _, .inr rfl⟩

theorem inFlight_sendTurn (s : State) (l p : Nat) : (s.sendTurn l p).inFlight = s.inFlight := by
  unfold State.sendTurn
  split <;> rfl

theorem mem_inFlight_grant {l p : Nat} {c : Claim} (h : c ∈ (s.grant l p).inFlight) : c ∈ s.inFlight ∨ c.Starts := by
  unfold State.grant at h
  dsimp only at h
  split at h
  next d hd =>
    rcases List.mem_append.mp h with h | h
    · exact .inl h
    · rw [List.mem_singleton.mp h]
      exact .inr (starts_startClaim hd)
  next => rw [inFlight_sendTurn] at h; exact .inl h

theorem mem_inFlight_arbitrate {l : Nat} {c : Claim} (h : c ∈ (s.arbitrate l).inFlight) :
    c ∈ s.inFlight ∨ c.Starts := by
  unfold State.arbitrate at h
  split at h
  · split at h
    · exact .inl h
    · exact mem_inFlight_grant h
  · exact .inl h
  · exact .inl h

/-- R152, R155: an arbitration sends start claims alone. -/
theorem mem_inFlight_settle {c : Claim} (h : c ∈ s.settle.inFlight) : c ∈ s.inFlight ∨ c.Starts := by
  unfold State.settle at h
  iterate 6
    rcases mem_inFlight_arbitrate h with h | hc
    on_goal 2 => exact .inr hc
  exact .inl h

/-! ### The ends of a point -/

theorem or_and_byte (x y z : Byte) : (x ||| y) &&& z = (x &&& z) ||| (y &&& z) := by
  ext i
  simp [Bool.and_or_distrib_right]

/-- R202: a condition raised is pending. -/
theorem or_and_self_byte (x y : Byte) : (x ||| y) &&& y = y := by
  ext i
  cases hx : x[i] <;> cases hy : y[i] <;> simp [hx, hy]

/-- R202: a pending condition stays pending as others are raised. -/
theorem pending_or {x y : Byte} (z : Byte) (h : x &&& y = y) : (x ||| z) &&& y = y := by
  rw [or_and_byte, h]
  ext i
  cases hz : z[i] <;> cases hy : y[i] <;> simp [hz, hy]

theorem isComparatorClaim_of_starts {c : Claim} (h : c.Starts) : isComparatorClaim c = false ∧ isAnyFinishing c = false := by
  obtain ⟨p, h, rfl | rfl⟩ := h <;> exact ⟨rfl, rfl⟩

/-- R152: an arbitration after the end leaves it whole. -/
theorem PointEnded.settle (h : PointEnded k cause taken s t) : PointEnded k cause taken s t.settle where
  sequencer := by rw [settle_seq, h.sequencer]
  comparators p hp := by
    have := congrArg Position.cmp (position_settle t p)
    exact this.trans (h.comparators p hp)
  raised := by rw [settle_port, h.raised]
  claims c hc := (mem_inFlight_settle hc).elim (h.claims c) isComparatorClaim_of_starts
  positions p hp := by
    have hset := position_settle t p
    obtain ⟨h1, h2, h3⟩ := h.positions p hp
    exact ⟨(congrArg Position.state hset).trans h1, (congrArg Position.bound hset).trans h2,
      (congrArg Position.taken hset).trans h3⟩
  records := by rw [settle_records]; exact h.records
  tables := by
    rw [settle_plan, settle_ref, settle_seals, settle_profiles, settle_tags, settle_admissions, settle_flash,
      settle_store]
    exact h.tables
  port := by rw [settle_port]; exact h.port

/-- R92: a further condition raised leaves it whole. -/
theorem PointEnded.raise (h : PointEnded k cause taken s t) (c : Condition) : PointEnded k cause taken s (t.raise c) where
  sequencer := h.sequencer
  comparators := h.comparators
  raised := pending_or c.bit h.raised
  claims := h.claims
  positions := h.positions
  records := h.records
  tables := h.tables
  port := h.port

/-- R89 step 1: the part with the claims of comparators off their way. -/
def State.withoutSent (s : State) : State := { s with inFlight := s.inFlight.filter (fun c => !isComparatorClaim c) }

theorem takeSentClaims_eq (s : State) :
    s.takeSentClaims = takeAll (s.inFlight.filter isComparatorClaim) s.withoutSent := rfl

theorem aside_takeSentClaims (s : State) : s.takeSentClaims.aside = s.withoutSent.aside := by
  rw [takeSentClaims_eq, aside_takeAll]

/-- R89, steps 3 and 4: with the claims taken, the comparators go to IDLE and the sequencer closes the point. -/
theorem pointEnded_close (k : Nat) (cause : EndCause) (hs : s.Shaped) (ha : w.aside = s.withoutSent.aside)
    (hb : w.book = s.book) : PointEnded k cause w s (w.idleComparators.closeSequencer k cause) where
  sequencer := by
    have hseq := seq_of_aside ha
    exact congrArg (Sequencer.closed k cause) hseq
  comparators p hp := by
    have hlen : w.positions.length = 48 := by
      have := congrArg (fun v => v.positions.length) ha
      simp only [State.aside, List.length_map] at this
      exact this.trans hs.1
    obtain ⟨h1, h48⟩ := isPosition_iff.mp hp
    exact congrArg Position.cmp (position_mapCmps w (fun _ _ => Comparator.idle) p h1 (hlen.symm ▸ h48))
  raised := or_and_self_byte w.port.pendingSet 0x01#8
  claims c hc := by
    obtain ⟨hc, hfin⟩ := List.mem_filter.mp (show c ∈ w.inFlight.filter (fun c => !isAnyFinishing c) from hc)
    rw [inFlight_of_aside ha] at hc
    obtain ⟨-, hcmp⟩ := List.mem_filter.mp hc
    exact ⟨by simpa using hcmp, by simpa using hfin⟩
  positions p hp := by
    have hlen : w.positions.length = 48 := by
      have := congrArg (fun v => v.positions.length) ha
      simp only [State.aside, List.length_map] at this
      exact this.trans hs.1
    obtain ⟨h1, h48⟩ := isPosition_iff.mp hp
    have hidle := position_mapCmps w (fun _ _ => Comparator.idle) p h1 (hlen.symm ▸ h48)
    have hpos := position_of_aside ha p
    have hstate := congrArg Position.state hpos
    have hbound := congrArg Position.bound hpos
    have htaken := congrArg Position.taken hpos
    exact ⟨(congrArg Position.state hidle).trans hstate, (congrArg Position.bound hidle).trans hbound,
      (congrArg Position.taken hidle).trans htaken⟩
  records := by
    have hrec := records_of_book hb
    have hslots := congrArg (List.map RecordKey.slot) hrec
    have hserials := congrArg (List.map RecordKey.serial) hrec
    rw [List.map_map, List.map_map] at hslots hserials
    exact ⟨rfl, hslots, hserials⟩
  tables := by
    have hplan := plan_of_aside ha
    have href := ref_of_aside ha
    have hseals := seals_of_aside ha
    have hprofiles := profiles_of_aside ha
    have htags := tags_of_aside ha
    have hadmissions := admissions_of_aside ha
    have hflash := flash_of_aside ha
    have hstore := store_of_aside ha
    exact ⟨hplan, href, hseals, hprofiles, htags, hadmissions, hflash, hstore⟩
  port := by
    have hport := port_of_aside ha
    have hrequests := congrArg Port.requests hport
    have hanswers := congrArg Port.answers hport
    have hbench := congrArg Port.bench hport
    exact ⟨hrequests, hanswers, hbench⟩

/-- R89: the part with the comparators' claims taken, and their closing results after them. -/
def State.closedBy (result : Comparator → Option Result) (s : State) : State :=
  takeAll (s.takeSentClaims.closingOf result) s.takeSentClaims

theorem endPoint_eq (s : State) (k : Nat) (cause : EndCause) (result : Comparator → Option Result) :
    s.endPoint k cause result = (s.closedBy result).idleComparators.closeSequencer k cause := rfl

theorem pointEnded_endPoint (k : Nat) (cause : EndCause) (result : Comparator → Option Result) (hs : s.Shaped) :
    PointEnded k cause (s.closedBy result) s (s.endPoint k cause result) :=
  pointEnded_close k cause hs ((aside_takeAll _ _).trans (aside_takeSentClaims s))
    ((book_takeAll _ _).trans (book_takeSentClaims s))

theorem pointEnded_losePoint (k : Nat) (hs : s.Shaped) :
    PointEnded k .refLost (s.closedBy lossResult) s (s.losePoint k) :=
  (pointEnded_endPoint k .refLost lossResult hs).raise .refLost

/-- R87, R92: the claim that ends a point is of neither the point's claims nor what the end leaves. -/
theorem PointEnded.of_claimTaken {f : Claim → Bool} (h : PointEnded k cause taken (s.claimTaken f) t) :
    PointEnded k cause taken s t :=
  ⟨h.sequencer, h.comparators, h.raised, h.claims, h.positions, h.records, h.tables, h.port⟩

/-- R87: nor is the count of armed comparators. -/
theorem PointEnded.of_armedRemaining {n : Nat}
    (h : PointEnded k cause taken { s with seq := { s.seq with armedRemaining := n } } t) :
    PointEnded k cause taken s t :=
  ⟨h.sequencer, h.comparators, h.raised, h.claims, h.positions, h.records, h.tables, h.port⟩

theorem pointEnded_abortPoint (k : Nat) (hs : s.Shaped) :
    PointEnded k .aborted s.takeSentClaims s (s.abortPoint k) :=
  pointEnded_close k .aborted hs (aside_takeSentClaims s) (book_takeSentClaims s)

/-- R115: the comparators that give a closing result. -/
theorem closingResult_isSome (x : Comparator) :
    (closingResult x).isSome = decide (x.state = .armed ∨ x.state = .counting) := by
  cases h : x.state <;> simp [closingResult, h]

theorem closingCount_takeSentClaims (s : State) : s.takeSentClaims.closingCount closingResult =
    ((places 48).filter (fun p =>
      decide ((s.position p).cmp.state = .armed ∨ (s.position p).cmp.state = .counting))).length := by
  have hcmp (p : Nat) : (s.takeSentClaims.position p).cmp = (s.position p).cmp := by
    have hpos := position_of_aside (aside_takeSentClaims s) p
    have := congrArg Position.cmp hpos
    exact this
  simp only [State.closingCount, closingResult_isSome, hcmp]

/-! ### Claims of comparators, taken one by one (R16, R118) -/

theorem claims_cons {stream : Claim → Bool} {c : Claim} (u : State) (h : stream c = true) :
    State.Claims { u with inFlight := c :: u.inFlight } stream c := List.find?_cons_of_pos h

theorem claimTaken_cons {stream : Claim → Bool} {c : Claim} (u : State) (h : stream c = true) :
    State.claimTaken { u with inFlight := c :: u.inFlight } stream = u := by
  simp only [State.claimTaken, List.eraseP_cons_of_pos h]

theorem exec_flagClaim {p : Nat} {h : Handle} {f : ClaimFlag} (hp : isPosition p = true)
    (hc : s.Claims (ofComparator p) (.flag p h f)) :
    exec (.flagClaim p) s = .next ((s.claimTaken (ofComparator p)).takeFlag h f) :=
  claim_taken (want := Claim.asFlag) (f := State.flagTaken) (a := (h, f)) hp hc rfl

theorem exec_resultClaim {p : Nat} {h : Handle} {j : Nat} {res : Result} (hp : isPosition p = true)
    (hc : s.Claims (ofComparator p) (.result p h j res)) :
    exec (.resultClaim p) s = .next ((s.claimTaken (ofComparator p)).takeResult h j res).settle :=
  claim_taken (want := Claim.asResult) (f := State.resultTaken) (a := (h, j, res)) hp hc rfl

/-- Settles O36. -/
theorem pointEndsAreWhole : Obligations.PointEndsAreWhole := by
  refine ⟨fun u p h hp => ⟨fun f => ?_, fun k res => ?_⟩, ?_⟩
  · have hmine : ofComparator p (.flag p h f) = true := beq_self_eq_true p
    rw [exec_flagClaim hp (claims_cons u hmine), claimTaken_cons u hmine]
    rfl
  · have hmine : ofComparator p (.result p h k res) = true := beq_self_eq_true p
    rw [exec_resultClaim hp (claims_cons u hmine), claimTaken_cons u hmine]
    rfl
  · intro s k hs hr sent closing closed
    refine ⟨fun tag rest ho => ?_, fun tag rest ho => ?_, fun ht => ?_, fun hc => ?_, fun p hp hc h1 => ?_⟩
    · have hb := doEndPoint_running (s := s.dequeued rest) [] hr
      rw [closingCount_takeSentClaims] at hb
      exact ⟨_, exec_request (k := .endPoint) ho hb,
        (pointEnded_endPoint (s := s.dequeued rest) k .ended closingResult hs).settle⟩
    · exact ⟨_, exec_request (k := .abortPoint) ho (doAbortPoint_running (s := s.dequeued rest) [] hr),
        (pointEnded_abortPoint (s := s.dequeued rest) k hs).settle⟩
    · exact ⟨_, congrArg Host.Outcome.next (timerExpired_running hr ht),
        (pointEnded_endPoint k .timedOut closingResult hs).settle⟩
    · have hend := (pointEnded_losePoint (s := s.claimTaken isRefLoss) k hs).settle.of_claimTaken
      refine ⟨((s.claimTaken isRefLoss).losePoint k).settle,
        (exec_refLossReport hc).trans (congrArg Host.Outcome.next (lossTaken_running (s := s.claimTaken isRefLoss) hr)),
        hend, ?_⟩
      rw [settle_port]
      exact or_and_self_byte _ 0x08#8
    · have htaken := finishingTaken_succ (s := s.claimTaken (isFinishing p)) hr h1
      rw [if_pos rfl] at htaken
      have hend := (pointEnded_endPoint
        (s := { s.claimTaken (isFinishing p) with seq := { s.seq with armedRemaining := 0 } }) k .complete closingResult
        hs).settle
      exact ⟨_, (exec_finishingReport hp hc).trans (congrArg Host.Outcome.next htaken),
        (PointEnded.of_armedRemaining (s := s.claimTaken (isFinishing p)) (n := 0) hend).of_claimTaken⟩

end Sys2Proof.Machine
end

section
/-! Proof of O33: the reset claim (R80, R81). -/

namespace Sys2Proof.Machine

variable {s t : State} {n m : Nat} {r : Record}

/-! ### What an evaluation makes of the record of a slot, and of the others -/

theorem recordAt_updRecord_other (f : Record → Record) (hf : ∀ x, (f x).slot = x.slot) (h : n ≠ m) :
    (s.updRecord m f).recordAt n = s.recordAt n := by
  rw [State.recordAt_updRecord s m n f hf, if_neg h]

theorem recordAt_moveRecord_other (st : RecordState) (h : n ≠ m) : (s.moveRecord m st).recordAt n = s.recordAt n :=
  recordAt_updRecord_other (fun r => { r with state := st }) (fun _ => rfl) h

theorem recordAt_giveItem (r : Record) (w : Work) (n : Nat) : (s.giveItem r w).recordAt n = s.recordAt n :=
  State.recordAt_congr (State.giveItem_records r w) n

theorem recordAt_enterSealing_other (h : n ≠ m) : (s.enterSealing m).recordAt n = s.recordAt n := by
  cases hm : s.recordAt m with
  | none => simp only [State.enterSealing, hm, recordAt_moveRecord_other _ h]
  | some r => rw [enterSealing_eq hm, recordAt_giveItem, recordAt_moveRecord_other _ h]

theorem recordAt_autoSealTest_other (h : n ≠ m) : (s.autoSealTest m).recordAt n = s.recordAt n := by
  unfold State.autoSealTest
  split
  · rfl
  · split
    · split
      · exact recordAt_enterSealing_other h
      · rfl
    · rfl

theorem recordAt_evaluate_other (h : n ≠ m) : (s.evaluate m).recordAt n = s.recordAt n := by
  unfold State.evaluate
  split
  · rfl
  · split
    · split
      · rw [recordAt_autoSealTest_other h, recordAt_moveRecord_other _ h]
      · rfl
    · split
      · rfl
      · exact recordAt_moveRecord_other _ h
    all_goals rfl

theorem recordAt_enterSealing (h : s.recordAt n = some r) :
    (s.enterSealing n).recordAt n = some { r with state := .sealing } := by
  rw [enterSealing_eq h, recordAt_giveItem, State.recordAt_moved _ h]

theorem recordAt_resetEntry_other (k : Nat) (h : n ≠ m) : (s.resetEntry k m).recordAt n = s.recordAt n :=
  recordAt_updRecord_other _ (fun x => by split <;> rfl) h

theorem recordAt_resetEntry (k : Nat) (h : s.recordAt n = some r) :
    (s.resetEntry k n).recordAt n = some (if r.state = .sealed then r else r.withEntry k Entry.empty) :=
  State.recordAt_updated _ (fun x => by split <;> rfl) h

/-! ### What is read aside from the records -/

theorem passedCondition_congr (hplan : t.plan = s.plan) (hprofiles : t.profiles = s.profiles) (r : Record) :
    t.passedCondition r = s.passedCondition r := by
  have happ (k : Nat) : t.applies k r = s.applies k r := by
    simp only [State.applies, State.pointAt, State.profileAt, State.profileSlot, hplan, hprofiles]
  simp only [State.passedCondition, happ]

theorem reachable_of_aside (h : t.aside = s.aside) (r : Record) : t.reachable r = s.reachable r := by
  have hstate (p : Nat) : (t.position p).state = (s.position p).state := by
    have hpos := position_of_aside h p
    have := congrArg Position.state hpos
    exact this
  simp only [State.reachable, hstate]

theorem bench_of_aside (h : t.aside = s.aside) : t.port.bench = s.port.bench := by
  have hport := port_of_aside h
  have := congrArg Port.bench hport
  exact this

theorem Flags.any_eq_false (f : Flags) : f.any = false ↔ f = ⟨false, false, false, false⟩ := by
  cases f
  simp [Flags.any, and_assoc]

/-- R185: the auto-seal test of a record, as the statement of R80 spells it. -/
def State.SealsItself (s : State) (r : Record) : Prop :=
  s.port.bench.autoSeal = true ∧ r.flags = ⟨false, false, false, false⟩ ∧ r.sealAttempts = 0 ∧
    (∃ p, r.position = some p ∧ (s.position p).state = .bound) ∧ 1 ≤ s.seals.remaining

theorem recordAt_autoSealTest_sealing (h : s.recordAt n = some r) (hs : s.SealsItself r) :
    (s.autoSealTest n).recordAt n = some { r with state := .sealing } := by
  obtain ⟨h1, h2, h3, h4, h5⟩ := hs
  rw [autoSealTest_eq h, if_pos ⟨h1, r.flags.any_eq_false.mpr h2, h3, (reachable_iff s r).mpr h4⟩, if_pos h5,
    recordAt_enterSealing h]

theorem recordAt_autoSealTest_stays (h : s.recordAt n = some r) (hs : ¬ s.SealsItself r) :
    (s.autoSealTest n).recordAt n = some r := by
  rw [autoSealTest_eq h]
  split
  next hc =>
    obtain ⟨h1, h2, h3, h4⟩ := hc
    rw [if_neg fun h5 => hs ⟨h1, r.flags.any_eq_false.mp h2, h3, (reachable_iff s r).mp h4, h5⟩]
    exact h
  next => exact h

/-! ### Changes made slot by slot -/

/-- Changes made slot by slot reach the record of one slot once, in a state that agrees with the first aside. -/
theorem recordAt_foldl {f : State → Nat → State} (hother : ∀ v m, n ≠ m → (f v m).recordAt n = v.recordAt n)
    (haside : ∀ v m, (f v m).aside = v.aside) {l : List Nat} (hl : l.Nodup) (hn : n ∈ l) (s : State) :
    ∃ v : State, v.aside = s.aside ∧ v.recordAt n = s.recordAt n ∧ (l.foldl f s).recordAt n = (f v n).recordAt n := by
  have hskip (l : List Nat) (hl : n ∉ l) (v : State) : (l.foldl f v).recordAt n = v.recordAt n := by
    induction l generalizing v with
    | nil => rfl
    | cons m l ih =>
      rw [List.mem_cons, not_or] at hl
      rw [List.foldl_cons, ih hl.2, hother v m hl.1]
  obtain ⟨l1, l2, rfl⟩ := List.append_of_mem hn
  obtain ⟨-, h2, h3⟩ := List.nodup_append.mp hl
  have hn1 : n ∉ l1 := fun h => h3 n h n (List.mem_cons_self ..) rfl
  refine ⟨l1.foldl f s, aside_foldl f haside l1 s, hskip l1 hn1 s, ?_⟩
  rw [List.foldl_append, List.foldl_cons, hskip l2 (List.nodup_cons.mp h2).1]

/-- Settles O33. -/
theorem resetClaimClearsAndEvaluates : Obligations.ResetClaimClearsAndEvaluates := by
  intro s k n r hts _ hr t cleared
  obtain ⟨hmem, hslot⟩ := State.recordAt_mem hr
  have hnodup := hts.1
  have hn : n ∈ s.records.map (·.slot) := List.mem_map.mpr ⟨r, hmem, hslot⟩
  obtain ⟨v, hva, hvr, hv⟩ := recordAt_foldl (fun v m => recordAt_resetEntry_other (s := v) k)
    (fun v m => aside_resetEntry v k m) hnodup hn s
  obtain ⟨w, hwa, hwr, hw⟩ := recordAt_foldl (fun v m => recordAt_evaluate_other (s := v))
    (fun v m => aside_evaluate v m) hnodup hn ((s.records.map (·.slot)).foldl (fun t n => t.resetEntry k n) s)
  change t.recordAt n = _ at hw
  have hta : t.aside = s.aside := aside_resetClaim s k
  have hs : w.aside = s.aside := hwa.trans (aside_foldl _ (fun v n => aside_resetEntry v k n) _ s)
  have hat : w.recordAt n = some (if r.state = .sealed then r else cleared) := by
    rw [hwr, hv, recordAt_resetEntry k (hvr.trans hr)]
    rfl
  have hpass : w.passedCondition cleared = s.passedCondition cleared :=
    passedCondition_congr (plan_of_aside hs) (profiles_of_aside hs) cleared
  have hat_open (ho : r.state ≠ .sealed) : w.recordAt n = some cleared := by rw [hat, if_neg ho]
  refine ⟨fun hst => ?_, fun hst => ?_, fun hst hc => ?_, fun hst hc => ?_, fun hst hc => ?_, ?_, plan_of_aside hta,
    seq_of_aside hta, seals_of_aside hta⟩
  · rw [if_pos hst] at hat
    rw [hw, State.evaluate_other hat (by rw [hst]; decide) (by rw [hst]; decide), hat]
  · have ho : r.state ≠ .sealed ∧ r.state ≠ .measuring ∧ r.state ≠ .passed := by
      rcases hst with h | h | h | h <;> rw [h] <;> decide
    rw [hw, State.evaluate_other (hat_open ho.1) ho.2.1 ho.2.2, hat_open ho.1]
  · have hc' : ¬ w.passedCondition cleared = true := by simp [hpass, hc]
    rcases hst with hst | hst
    · have hat := hat_open (by rw [hst]; decide)
      have hsame : { cleared with state := .measuring } = cleared := by rw [← hst]; rfl
      rw [hw, evaluate_measuring hat hst, if_neg hc', hat, hsame]
    · have hat := hat_open (by rw [hst]; decide)
      rw [hw, evaluate_passed hat hst, if_neg hc', State.recordAt_moved _ hat]
  · have hat := hat_open (by rw [hst]; decide)
    have hsame : { cleared with state := .passed } = cleared := by rw [← hst]; rfl
    rw [hw, evaluate_passed hat hst, if_pos (hpass.trans hc), hat, hsame]
  · have hat := hat_open (by rw [hst]; decide)
    have hmoved : (w.moveRecord n .passed).recordAt n = some { cleared with state := .passed } :=
      State.recordAt_moved _ hat
    have hseals : (w.moveRecord n .passed).SealsItself { cleared with state := .passed } ↔ s.SealsItself cleared := by
      have hr := reachable_of_aside hs cleared
      rw [Bool.eq_iff_iff, reachable_iff, reachable_iff] at hr
      show (w.port.bench.autoSeal = true ∧ _ ∧ _ ∧ _ ∧ 1 ≤ w.seals.remaining) ↔ _
      rw [bench_of_aside hs, seals_of_aside hs]
      exact and_congr_right fun _ => and_congr_right fun _ => and_congr_right fun _ => and_congr_left fun _ => hr
    intro sealing
    rw [hw, evaluate_measuring hat hst, if_pos (hpass.trans hc)]
    exact ⟨fun h => recordAt_autoSealTest_sealing (r := { cleared with state := .passed }) hmoved (hseals.mpr h),
      fun h => recordAt_autoSealTest_stays hmoved (mt hseals.mp h)⟩
  · have hbook : t.book = s.book :=
      (book_foldl _ _ (fun t n => book_evaluate t n) _).trans (book_foldl s _ (fun t n => book_resetEntry t k n) _)
    have hslots := congrArg (List.map RecordKey.slot) (records_of_book hbook)
    rw [List.map_map, List.map_map] at hslots
    exact hslots

end Sys2Proof.Machine
end

section
/-! Proof of O23: the status, plan and position reports (R74, R82, R209). -/

namespace Sys2Proof.Machine

variable {s : State}

/-! ### GET_STATUS -/

theorem StartKind.code_eq (k : StartKind) : k.code = if k = .powerOn then 0 else 1 := by cases k <;> rfl

theorem Activity.code_eq (a : Activity) : a.code = if a = .saving then 1 else 0 := by cases a <;> rfl

theorem recordCounts_eq (f : RecordState → List Byte) : RecordState.all.flatMap f =
    f .measuring ++ (f .writePending ++ (f .writing ++ (f .passed ++ (f .sealing ++ (f .sealed ++ f .rejected))))) := by
  simp only [RecordState.all, List.flatMap_cons, List.flatMap_nil, List.append_nil]

theorem positionCounts_eq (f : PositionState → List Byte) : PositionState.all.flatMap f =
    f .empty ++ (f .settling ++ (f .identifying ++ (f .waitingSlot ++ (f .bound ++ (f .conflict ++
      (f .unknownType ++ (f .fault ++ f .spent))))))) := by
  simp only [PositionState.all, List.flatMap_cons, List.flatMap_nil, List.append_nil]

theorem u8_length (n : Nat) : (u8 n).length = 1 := leBytes_length 1 n

theorem u16_length (n : Nat) : (u16 n).length = 2 := leBytes_length 2 n

theorem u32_length (n : Nat) : (u32 n).length = 4 := leBytes_length 4 n

theorem boolByte_length (b : Bool) : (boolByte b).length = 1 := rfl

theorem optBytes_length {α : Type} {n : Nat} {enc : α → List Byte} (h : ∀ a, (enc a).length = n) (o : Option α) :
    (optBytes n enc o).length = n + 1 := by
  cases o with
  | none => simp [optBytes]
  | some a => simp [optBytes, h]

/-- R209: the status report is 52 bytes. -/
theorem statusReport_length (s : State) : s.statusReport.length = 52 := by
  have hclose (c : Option (Nat × EndCause)) : (optBytes 2 (fun c => u8 c.1 ++ u8 c.2.code) c).length = 3 :=
    optBytes_length (n := 2) (fun _ => by simp only [List.length_append, u8_length]) c
  unfold State.statusReport
  rw [recordCounts_eq, positionCounts_eq]
  simp only [List.length_append, u8_length, u16_length, u32_length, boolByte_length, hclose, List.length_cons,
    List.length_nil]

/-! ### Positions and points -/

theorem planPlace_bytes (pt : Option Point) : planPlace pt = match pt with
    | none => List.replicate 30 0#8
    | some pt => [1#8] ++
      leBytes 1 (match pt.elements with
        | .a => 0 | .b => 1 | .c => 2 | .abc => 3) ++
      leBytes 4 pt.current ++ [if pt.role = .adjust then 0#8 else 1#8] ++ leBytes 2 pt.pulses ++
      leBytes 1 pt.windows ++ pt.tolerances.flatMap (leBytes 4) ++ leBytes 2 pt.timeout ++
      leBytes 2 pt.mask.toNat := by
  cases pt with
  | none => rfl
  | some pt =>
    have hrole : u8 pt.role.code = [if pt.role = .adjust then 0#8 else 1#8] := by cases pt.role <;> rfl
    have hel : pt.elements.code = (match pt.elements with
        | .a => 0 | .b => 1 | .c => 2 | .abc => 3) := by cases pt.elements <;> rfl
    simp only [planPlace, pointBlock, hrole, hel, List.append_assoc]
    rfl

theorem idPhaseCode_eq (p : Option IdPhase) :
    idPhaseCode p = if p = some .ident then 1 else if p = some .image then 2 else 0 := by
  match p with
  | none | some .ident | some .image => rfl

theorem padTo_length {n : Nat} {bs : List Byte} (h : bs.length ≤ n) : (padTo n bs).length = n := by
  simp only [padTo, List.length_append, List.length_replicate]
  omega

theorem serialBytes_length {o : Option (List Byte)} (h : ∀ cs, o = some cs → cs.length ≤ 20) :
    (serialBytes o).length = 21 := by
  cases o with
  | none => rfl
  | some cs => simp only [serialBytes, List.length_cons, padTo_length (h cs rfl)]

theorem handleBytes_length (h : Handle) : (handleBytes h).length = 2 := rfl

/-- R74: a position report is 34 bytes. -/
theorem positionReport_length (p : Nat) {x : Position} (h : ∀ d, x.identity = some d → d.serial.length ≤ 20) :
    (positionReport p x).length = 34 := by
  have hserial : (serialBytes (x.identity.map (·.serial))).length = 21 := serialBytes_length fun cs hcs => by
    obtain ⟨d, hd, rfl⟩ := Option.map_eq_some_iff.mp hcs
    exact h d hd
  simp only [positionReport, List.length_append, u8_length, u16_length, boolByte_length, hserial,
    optBytes_length handleBytes_length]

/-- Settles O23. -/
theorem reportsChangeNoState : Obligations.ReportsChangeNoState := by
  refine ⟨fun s => ?status, fun p x => ?position, fun s tag args rest => ⟨fun ho => ?_, fun ho => ?_, fun ho => ?_⟩⟩
  case status =>
    intro records positions cause close
    refine ⟨statusReport_length s, ?_⟩
    have hcause : s.port.warmCause.code = cause s.port.warmCause := by cases s.port.warmCause <;> rfl
    have hclose : optBytes 2 (fun c => u8 c.1 ++ u8 c.2.code) s.seq.lastClose = (match s.seq.lastClose with
        | none => [0#8, 0#8, 0#8]
        | some c => [1#8] ++ leBytes 1 c.1 ++ leBytes 1 (close c.2)) := by
      match s.seq.lastClose with
      | none => rfl
      | some (k, c) => cases c <;> rfl
    have hrunning : boolByte s.seq.running.isSome = leBytes 1 (if s.seq.running.isSome = true then 1 else 0) := by
      cases s.seq.running <;> rfl
    unfold State.statusReport
    rw [recordCounts_eq, positionCounts_eq, StartKind.code_eq, Activity.code_eq, hcause, hclose, hrunning]
    simp only [List.append_assoc]
    rfl
  case position =>
    intro state cmp work serial
    refine ⟨positionReport_length p, ?_⟩
    have hstate : x.state.code = state x.state := by cases x.state <;> rfl
    have hcmp : x.cmp.state.code = cmp x.cmp.state := by cases x.cmp.state <;> rfl
    have hitem : itemCode x.item = (x.item.map (fun i => work i.work)).getD 0 := by
      cases x.item with
      | none => rfl
      | some i => cases h : i.work <;> simp [itemCode, h, work]
    have hbound : optBytes 2 handleBytes x.bound = (match x.bound with
        | none => [0#8, 0#8, 0#8]
        | some h => [1#8] ++ leBytes 1 h.slot ++ [h.tag]) := by
      cases x.bound <;> rfl
    have hserial : serialBytes (x.identity.map (·.serial)) = serial := by
      show _ = (match x.identity with
        | none => List.replicate 21 0#8
        | some d => leBytes 1 d.serial.length ++ d.serial ++ List.replicate (20 - d.serial.length) 0#8)
      cases x.identity <;> rfl
    simp only [positionReport, hstate, hcmp, hitem, hbound, hserial, idPhaseCode_eq, List.append_assoc]
    rfl
  · exact exec_request (k := .getStatus) ho rfl
  · refine exec_request (k := .getPlan) ho (congrArg (fun body => (⟨s.dequeued rest, .ok, body⟩ : Served)) ?_)
    exact List.flatMap_congr fun pt _ => planPlace_bytes pt
  · exact exec_request (k := .getPositions) ho rfl

end Sys2Proof.Machine
end

section
/-! Proof of O26: handles, READ_RECORD and GET_PROFILE (R3, R25, R47, R214). -/

namespace Sys2Proof.Machine

variable {s : State}

/-! ### The profile block ([PORT:FMT:BLK]) -/

theorem layoutWidth_eq (fs : List LayoutField) : layoutWidth fs = (fs.map LayoutField.width).sum := by
  induction fs with
  | nil => rfl
  | cons f fs ih => rw [layoutWidth, ih, List.map_cons, List.sum_cons]

theorem layoutPlace_length (f : LayoutField) : (layoutPlace f).length = 8 := by
  cases f <;> rfl

theorem layoutPlaces_length (fs : List LayoutField) : (fs.flatMap layoutPlace).length = 8 * fs.length := by
  induction fs with
  | nil => rfl
  | cons f fs ih =>
    rw [List.flatMap_cons, List.length_append, layoutPlace_length, ih, List.length_cons]
    omega

theorem profileBlock_length {pf : Profile} (h : pf.layout.length ≤ 24) : (profileBlock pf).length = 221 := by
  have hpad : (padTo 192 (pf.layout.flatMap layoutPlace)).length = 192 :=
    padTo_length (by rw [layoutPlaces_length]; omega)
  unfold profileBlock
  simp only [List.length_append, u8_length, u16_length, u32_length, hpad]

/-! ### The read-out ([PORT:FMT:REC]) -/

theorem trimBytes_length (t : Trim) : (trimBytes t).length = 10 := rfl

theorem entryBytes_length (e : Entry) : (entryBytes e).length = 9 := by
  have herr : (optBytes 4 s32Bytes e.error).length = 5 := optBytes_length (n := 4) (fun _ => leBytes_length 4 _) e.error
  simp only [entryBytes, List.length_append, u8_length, boolByte_length, herr]

theorem flatMap_length {α : Type} {f : α → List Byte} {n : Nat} (h : ∀ a, (f a).length = n) (l : List α) :
    (l.flatMap f).length = n * l.length := by
  induction l with
  | nil => rfl
  | cons a l ih =>
    rw [List.flatMap_cons, List.length_append, h, ih, List.length_cons, Nat.mul_succ, Nat.add_comm]

theorem readOut_length {r : Record} (t : Byte) (h1 : r.serial.length ≤ 20) (h2 : r.spoiled.length ≤ 2)
    (h3 : r.results.length = 24) : (readOut t r).length = 273 + 10 * r.trims.length := by
  have hserial : (serialBytes (some r.serial)).length = 21 :=
    serialBytes_length fun cs hcs => Option.some.inj hcs ▸ h1
  have hspoiled : (padTo 8 (r.spoiled.flatMap u32)).length = 8 :=
    padTo_length (by rw [flatMap_length u32_length]; omega)
  have hcause : (optBytes 2 (fun c : RejectCause => u8 c.code ++ u8 c.causeByte) r.cause).length = 3 :=
    optBytes_length (fun _ => by simp only [List.length_append, u8_length]) r.cause
  have hcheck : (optBytes 2 (fun c : Check => leBytes 2 c.toNat) r.recordCheck).length = 3 :=
    optBytes_length (n := 2) (fun _ => leBytes_length 2 _) r.recordCheck
  unfold readOut
  simp only [List.length_append, handleBytes_length, u8_length, u32_length, hserial, hspoiled, hcause, hcheck,
    optBytes_length u8_length, optBytes_length u32_length, flatMap_length trimBytes_length,
    flatMap_length entryBytes_length, h3]
  omega

/-! ### Handles (R3) -/

theorem resolve_badArgument {h : Handle} (hw : within 64 h.slot = false) : s.resolve h = .error .badArgument := by
  simp [State.resolve, hw]

theorem resolve_noSuch {h : Handle} (hw : within 64 h.slot = true) (hr : s.recordAt h.slot = none) :
    s.resolve h = .error .noSuch := by
  simp [State.resolve, hw, hr]

theorem resolve_found {h : Handle} {r : Record} (hw : within 64 h.slot = true) (hr : s.recordAt h.slot = some r) :
    s.resolve h = if s.tag h.slot = h.tag then .ok r else .error .staleHandle := by
  simp [State.resolve, hw, hr]

/-! ### GET_PROFILE (R47) -/

section
variable {args : List Byte}

theorem doGetProfile_badArgument (h : within 16 (uField args 0 1) = false) :
    doGetProfile args s = refuse s .badArgument := by
  simp [doGetProfile, h]

theorem doGetProfile_noSuch (h : within 16 (uField args 0 1) = true) (hp : s.profileSlot (uField args 0 1) = none) :
    doGetProfile args s = refuse s .noSuch := by
  simp [doGetProfile, h, hp]

theorem doGetProfile_found {ps : ProfileSlot} (h : within 16 (uField args 0 1) = true)
    (hp : s.profileSlot (uField args 0 1) = some ps) : doGetProfile args s =
      taken s (u8 (uField args 0 1) ++ profileBlock ps.profile ++ u16 (layoutWidth ps.profile.layout) ++ u8 ps.pins) := by
  simp [doGetProfile, h, hp]

end

/-- Settles O26. -/
theorem handlesResolveAndReadsAnswer : Obligations.HandlesResolveAndReadsAnswer := by
  refine ⟨fun pf => ?block, fun h v args serial => ⟨rfl, rfl, rfl, rfl⟩, fun t r => ?readOut,
    fun s h tag args rest => ⟨resolve_badArgument, resolve_noSuch, fun r hw hr ht => ?_, fun r hw hr ht => ?_,
      fun r ho hr => ?_, fun c ho hr => ?_, fun ps ho hw hp => ?_, fun ho hw hp => ?_, fun ho hw => ?_⟩⟩
  case block =>
    intro band phase width
    refine ⟨profileBlock_length, ?_, ?_⟩
    · have hplace (f : LayoutField) : layoutPlace f = (match f with
          | .trim b ph w => [1#8, band b, phase ph] ++ leBytes 1 w ++ leBytes 4 0
          | .fixed w v => [2#8, 0#8, 0#8] ++ leBytes 1 w ++ leBytes 4 v) := by
        cases f with
        | trim b ph w => cases b <;> cases ph <;> rfl
        | fixed w v => rfl
      have hlayout : padTo 192 (pf.layout.flatMap layoutPlace) =
          pf.layout.flatMap layoutPlace ++ List.replicate (192 - 8 * pf.layout.length) 0#8 := by
        rw [padTo, layoutPlaces_length]
      unfold profileBlock
      rw [hlayout, List.flatMap_congr fun f _ => hplace f]
      cases pf.pulseEdge <;> cases pf.glitchPolicy <;> rfl
    · rw [layoutWidth_eq]
      exact congrArg List.sum (List.map_congr_left fun f _ => by cases f <;> rfl)
  case readOut =>
    intro state status cause bit band phase
    refine ⟨readOut_length t, ?_⟩
    have hstate : r.state.code = state r.state := by cases r.state <;> rfl
    have hposition : optBytes 1 u8 r.position = (match r.position with
        | none => [0#8, 0#8]
        | some p => [1#8] ++ leBytes 1 p) := by
      cases r.position <;> rfl
    have hnumber : optBytes 4 u32 r.sealNumber = (match r.sealNumber with
        | none => List.replicate 5 0#8
        | some n => [1#8] ++ leBytes 4 n) := by
      cases r.sealNumber <;> rfl
    have hcheck : optBytes 2 (fun c : Check => leBytes 2 c.toNat) r.recordCheck = (match r.recordCheck with
        | none => List.replicate 3 0#8
        | some c => [1#8] ++ leBytes 2 c.toNat) := by
      cases r.recordCheck <;> rfl
    have hcause : optBytes 2 (fun c : RejectCause => u8 c.code ++ u8 c.causeByte) r.cause = (match r.cause with
        | none => List.replicate 3 0#8
        | some c => [1#8] ++ cause c) := by
      match r.cause with
      | none => rfl
      | some (.byRequest b) =>
        have hb : u8 b.toNat = [b] := congrArg (· :: []) (ofNat_toNat_byte b)
        show 1#8 :: (u8 9 ++ u8 b.toNat) = _
        rw [hb]
        rfl
      | some .outOfRange | some .adjustLimit | some .writeFailed | some .commitUnknown | some .commitMismatch
      | some .sealMismatch | some .sealRefused | some .sealFailed => rfl
    have hspoiled : padTo 8 (r.spoiled.flatMap u32) =
        r.spoiled.flatMap (leBytes 4) ++ List.replicate (8 - 4 * r.spoiled.length) 0#8 := by
      rw [padTo, flatMap_length u32_length]
      rfl
    have htrim (u : Trim) : trimBytes u = [band u.band, phase u.phase] ++ s32Bytes u.meter ++ s32Bytes u.target := by
      unfold trimBytes
      cases u.band <;> cases u.phase <;> rfl
    have hentry (e : Entry) : entryBytes e = leBytes 1 (status e.status) ++
        (match e.error with
          | none => List.replicate 5 0#8
          | some v => [1#8] ++ s32Bytes v) ++
        leBytes 1 e.windows ++ [if e.saturated = true then 1#8 else 0#8] ++ leBytes 1 e.generation := by
      have hstatus : e.status.code = status e.status := by cases e.status <;> rfl
      unfold entryBytes
      rw [hstatus]
      cases e.error <;> rfl
    unfold readOut
    rw [hstate, hposition, hnumber, hcheck, hcause, hspoiled, List.flatMap_congr fun u _ => htrim u,
      List.flatMap_congr fun e _ => hentry e]
    rfl
  · rw [resolve_found hw hr, if_neg ht]
  · rw [resolve_found hw hr, if_pos ht]
  · exact exec_request (k := .readRecord) ho (withRecord_handle (s := s.dequeued rest) hr rfl rfl)
  · exact exec_request (k := .readRecord) ho (withRecord_handle_error (s := s.dequeued rest) _ hr rfl)
  · exact exec_request (k := .getProfile) ho (doGetProfile_found (s := s.dequeued rest) hw hp)
  · exact exec_request (k := .getProfile) ho (doGetProfile_noSuch (s := s.dequeued rest) hw hp)
  · exact exec_request (k := .getProfile) ho (doGetProfile_badArgument (s := s.dequeued rest) hw)

end Sys2Proof.Machine
end

section
/-! Proofs of O55 and O56: the outcomes of writes and locks (R65, R169..R172, R189..R192). -/

namespace Sys2Proof.Machine

variable {s : State} {p : Nat} {h : Handle} {r : Record}

/-! ### The work of a record at a position (R65) -/

theorem orphanFor_eq_some {c : Claim} {ph : Option AbandonPhase} (hc : c.orphanFor h = some (p, ph)) :
    c = .orphan p h ph := by
  cases c with
  | orphan q g ph' =>
    simp only [Claim.orphanFor, Option.ite_none_right_eq_some, Option.some.injEq, Prod.mk.injEq] at hc
    obtain ⟨rfl, rfl, rfl⟩ := hc
    rfl
  | _ => cases hc

theorem orphanOnWay_iff {ph : Option AbandonPhase} :
    s.orphanOnWay h = some (p, ph) ↔ s.Claims (isOrphanFor h) (.orphan p h ph) := by
  refine ⟨fun ho => ?_, State.orphanOnWay_eq⟩
  unfold State.orphanOnWay at ho
  unfold State.Claims
  generalize s.inFlight = cs at ho
  induction cs with
  | nil => cases ho
  | cons c cs ih =>
    rw [List.findSome?_cons] at ho
    cases hc : c.orphanFor h with
    | none =>
      rw [hc] at ho
      rw [List.find?_cons_of_neg (by simp [isOrphanFor, hc])]
      exact ih ho
    | some x =>
      rw [hc] at ho
      cases ho
      rw [List.find?_cons_of_pos (by simp [isOrphanFor, hc]), orphanFor_eq_some hc]

/-- Taking a claim that is no orphan claim leaves the orphan claims on their way. -/
theorem orphanOnWay_claimTaken {f : Claim → Bool} (hf : ∀ c, f c = true → c.orphanFor h = none) :
    (s.claimTaken f).orphanOnWay h = s.orphanOnWay h := by
  show (s.inFlight.eraseP f).findSome? (Claim.orphanFor h) = s.inFlight.findSome? (Claim.orphanFor h)
  induction s.inFlight with
  | nil => rfl
  | cons c cs ih =>
    cases hc : f c with
    | true => rw [List.eraseP_cons_of_pos hc, List.findSome?_cons, hf c hc]
    | false => rw [List.eraseP_cons_of_neg (by simp [hc]), List.findSome?_cons, List.findSome?_cons, ih]

theorem orphanFor_of_laneWork (c : Claim) (hc : ofLaneWork p c = true) : c.orphanFor h = none := by
  cases c with
  | orphan q g ph => cases hc
  | _ => rfl

theorem orphanFor_of_comparator (c : Claim) (hc : ofComparator p c = true) : c.orphanFor h = none := by
  cases c with
  | orphan q g ph => cases hc
  | _ => rfl

theorem handleOf_named (hn : s.named h = some r) : s.handleOf r = h := by
  obtain ⟨-, hr, ht⟩ := State.resolve_ok (State.named_some hn)
  have hslot := (State.recordAt_mem hr).2
  rw [State.handleOf, hslot, ht]

theorem worksAt_claimTaken_iff (hn : s.named h = some r) : (s.claimTaken (ofLaneWork p)).worksAt r p = true ↔
    r.position = some p ∨ (r.position = none ∧ ∃ ph, s.Claims (isOrphanFor h) (.orphan p h ph)) := by
  have hh : (s.claimTaken (ofLaneWork p)).handleOf r = h := handleOf_named hn
  unfold State.worksAt
  cases hp : r.position with
  | some q => simp
  | none =>
    rw [hh, orphanOnWay_claimTaken orphanFor_of_laneWork]
    simp only [Option.any_eq_true, beq_iff_eq, ← orphanOnWay_iff]
    constructor
    · rintro ⟨⟨q, ph⟩, ho, rfl⟩
      exact .inr ⟨trivial, ph, ho⟩
    · rintro (hc | ⟨-, ph, ho⟩)
      · cases hc
      · exact ⟨(p, ph), ho, rfl⟩

/-! ### Write outcomes (R169..R172) -/

theorem onWriting_none {f : Record → State → State} (hn : s.named h = none) : s.onWriting p h f = s := by
  simp only [State.onWriting, hn]

theorem onWriting_named {f : Record → State → State} (hn : s.named h = some r) : s.onWriting p h f =
    if r.state = .writing ∧ s.worksAt r p = true then (f r s).settle else s := by
  simp only [State.onWriting, hn]

/-- R172: a write outcome whose record is not in WRITING with its work at the position is discarded. -/
theorem onWriting_void {f : Record → State → State} (hv : s.named h = none ∨ ∃ r, s.named h = some r ∧
    ¬ (r.state = .writing ∧ (r.position = some p ∨
      (r.position = none ∧ ∃ ph, s.Claims (isOrphanFor h) (.orphan p h ph))))) :
    (s.claimTaken (ofLaneWork p)).onWriting p h f = s.claimTaken (ofLaneWork p) := by
  rcases hv with hn | ⟨r, hn, hw⟩
  · exact onWriting_none hn
  · rw [onWriting_named (s := s.claimTaken (ofLaneWork p)) hn, if_neg]
    rwa [worksAt_claimTaken_iff hn]

theorem onWriting_taken {f : Record → State → State} (hn : s.named h = some r) (hw : r.state = .writing ∧
    (r.position = some p ∨ (r.position = none ∧ ∃ ph, s.Claims (isOrphanFor h) (.orphan p h ph)))) :
    (s.claimTaken (ofLaneWork p)).onWriting p h f = (f r (s.claimTaken (ofLaneWork p))).settle := by
  rw [onWriting_named (s := s.claimTaken (ofLaneWork p)) hn, if_pos]
  rwa [worksAt_claimTaken_iff hn]

/-! ### A confirmed write (R134, R135, R169) -/

theorem markStale_eq (stale : Nat → Bool) (k : Nat) (es : List Entry) : markStale stale k es =
    es.mapIdx (fun j e => if stale (j + k) = true ∧ e.status ≠ .none then { e with status := .stale } else e) := by
  induction es generalizing k with
  | nil => rfl
  | cons e es ih =>
    rw [markStale, ih, List.mapIdx_cons]
    congr 1
    · rw [Nat.zero_add]
      unfold Entry.stale
      by_cases hs : stale k = true <;> by_cases he : e.status = .none <;> simp [hs, he]
    · simp only [Nat.add_assoc, Nat.add_comm 1 k]

theorem confirm_eq (stale : Nat → Bool) (r : Record) : r.confirm stale = { r with
    trims := r.trims.map (fun t => { t with meter := t.target })
    generation := min 255 (r.generation + 1)
    flags := { r.flags with imageOdd := false }
    results := r.results.mapIdx (fun j e =>
      if stale (j + 1) = true ∧ e.status ≠ .none then { e with status := .stale } else e) } := by
  rw [Record.confirm, markStale_eq]

theorem staleAt_iff {pf : Profile} {k : Nat} : s.staleAt pf r.changedTrims k = true ↔
    ∃ pt t, s.pointAt k = some pt ∧ t ∈ r.trims ∧ t.target ≠ t.meter ∧ t.band = pf.bandOf pt.current ∧
      pt.elements.loads t.phase = true := by
  unfold State.staleAt
  cases hk : s.pointAt k with
  | none => simp
  | some pt => simp [Record.changedTrims, Trim.under]

theorem confirmWrite_eq {pf : Profile} (slot : Nat) (hpf : s.profileAt r.profile = some pf) : s.confirmWrite slot r =
    ((s.updRecord slot (Record.confirm (s.staleAt pf r.changedTrims))).moveRecord slot .measuring).evaluate slot := by
  simp only [State.confirmWrite, hpf]

/-- Settles O55. -/
theorem writeOutcomesDecide : Obligations.WriteOutcomesDecide := by
  intro s p h hp s1 leaving writing void
  have discard (f : Record → State → State) (hv : void) : s1.onWriting p h f = s1 := onWriting_void hv
  refine ⟨fun hc => ?_, fun hc => ?_, fun hc => ?_, fun hc => ?_⟩
  · have hexec : exec (.commitMatchOutcome p) s = .next (s1.onWriting p h (State.confirmWrite h.slot)) :=
      claim_taken (want := Claim.asCommitMatch) (f := State.commitMatched p) (a := h) hp hc rfl
    refine ⟨fun hv => by rw [hexec, discard _ hv], fun r pf hn hw hpf =>
      ⟨s.staleAt pf r.changedTrims, fun k => staleAt_iff, ?_⟩⟩
    have hconfirm : s1.confirmWrite h.slot r = _ := confirmWrite_eq (s := s1) h.slot hpf
    rw [hexec, onWriting_taken hn hw, hconfirm, funext (confirm_eq (s1.staleAt pf r.changedTrims))]
    rfl
  · have hexec : exec (.stageFailedOutcome p) s = .next (s1.onWriting p h (State.failStage h.slot)) :=
      claim_taken (want := Claim.asStageFailed) (f := State.stageFailedTaken p) (a := h) hp hc rfl
    refine ⟨fun hv => by rw [hexec, discard _ hv], fun r hn hw => ?_⟩
    rw [hexec, onWriting_taken hn hw]
    rfl
  · have hexec : exec (.commitFailOutcome p) s = .next (s1.onWriting p h (fun _ t => t.reject h.slot .commitMismatch)) :=
      claim_taken (want := Claim.asCommitFail) (f := State.commitFailed p) (a := (h, .commitMismatch)) hp hc rfl
    exact ⟨fun hv => by rw [hexec, discard _ hv], fun r hn hw => by rw [hexec, onWriting_taken hn hw]⟩
  · have hexec : exec (.commitFailOutcome p) s = .next (s1.onWriting p h (fun _ t => t.reject h.slot .commitUnknown)) :=
      claim_taken (want := Claim.asCommitFail) (f := State.commitFailed p) (a := (h, .commitUnknown)) hp hc rfl
    exact ⟨fun hv => by rw [hexec, discard _ hv], fun r hn hw => by rw [hexec, onWriting_taken hn hw]⟩

/-! ### Lock outcomes (R189..R192) -/

/-- R192: a lock outcome whose record is not in SEALING, with a seal number and its work at the position, is
discarded. -/
theorem onLock_void {f : State → State} (hv : s.named h = none ∨ ∃ r, s.named h = some r ∧
    ∀ n, ¬ (r.state = .sealing ∧ r.sealNumber = some n ∧ (r.position = some p ∨
      (r.position = none ∧ ∃ ph, s.Claims (isOrphanFor h) (.orphan p h ph))))) :
    (s.claimTaken (ofLaneWork p)).onLock p h f = s.claimTaken (ofLaneWork p) := by
  rcases hv with hn | ⟨r, hn, hw⟩
  · simp only [State.onLock, State.named_claimTaken, hn]
  · simp only [State.onLock, State.named_claimTaken, hn]
    rw [if_neg]
    rintro ⟨hst, hnum, hworks⟩
    obtain ⟨n, hnum⟩ := Option.isSome_iff_exists.mp hnum
    exact hw n ⟨hst, hnum, (worksAt_claimTaken_iff hn).mp hworks⟩

theorem onLock_taken {f : State → State} {n : Nat} (hn : s.named h = some r) (hw : r.state = .sealing ∧
    r.sealNumber = some n ∧
    (r.position = some p ∨ (r.position = none ∧ ∃ ph, s.Claims (isOrphanFor h) (.orphan p h ph)))) :
    (s.claimTaken (ofLaneWork p)).onLock p h f = (f (s.claimTaken (ofLaneWork p))).settle := by
  obtain ⟨hst, hnum, hworks⟩ := hw
  simp only [State.onLock, State.named_claimTaken, hn]
  exact if_pos ⟨hst, Option.isSome_of_mem hnum, (worksAt_claimTaken_iff hn).mpr hworks⟩

/-- R190, R191: the number of the record of a slot is spoiled, and attempts are counted. -/
def State.spoilNumber (slot n attempts : Nat) (s : State) : State := s.updRecord slot (fun x => { x with
  spoiled := x.spoiled ++ [n], sealNumber := none, sealAttempts := x.sealAttempts + attempts })

theorem spoilReject_eq {n slot : Nat} (cause : RejectCause) (hs : s.TableSound) (hr : s.recordAt slot = some r)
    (hnum : r.sealNumber = some n) : s.spoilReject slot cause = (s.spoilNumber slot n 0).reject slot cause := by
  unfold State.spoilReject State.spoilNumber
  rw [hs.updRecord_congr hr (f := Record.spoil)]
  simp [Record.spoil, hnum]

theorem spoilAttempt_eq {n slot : Nat} (hs : s.TableSound) (hr : s.recordAt slot = some r)
    (hnum : r.sealNumber = some n) : s.spoilAttempt slot =
      if 2 ≤ r.sealAttempts + 1 then (s.spoilNumber slot n 1).reject slot .sealFailed
      else ((s.spoilNumber slot n 1).moveRecord slot .passed).evaluate slot := by
  have hspoil : s.updRecord slot (fun r => { r.spoil with sealAttempts := r.sealAttempts + 1 }) =
      s.spoilNumber slot n 1 := by
    unfold State.spoilNumber
    exact hs.updRecord_congr hr (by simp [Record.spoil, hnum])
  have hat : (s.spoilNumber slot n 1).recordAt slot = some { r with
      spoiled := r.spoiled ++ [n], sealNumber := none, sealAttempts := r.sealAttempts + 1 } :=
    State.recordAt_updated _ (fun _ => rfl) hr
  unfold State.spoilAttempt
  simp only [hspoil, hat]
  rfl

/-- Settles O56. -/
theorem lockOutcomesDecide : Obligations.LockOutcomesDecide := by
  intro s p h hp hs s1 leaving locking void spoiled
  have discard (f : State → State) (hv : void) : s1.onLock p h f = s1 := onLock_void hv
  have at1 {r : Record} (hn : s.named h = some r) : s1.recordAt h.slot = some r := State.recordAt_named hn
  refine ⟨fun reply sent hc => ?_, fun hc => ?_, fun hc => ?_⟩
  · have hexec : exec (.lockedOutcome p) s = .next (s1.onLock p h (fun t =>
        if reply = sent then t.sealRecord h.slot sent else t.spoilReject h.slot .sealMismatch)) :=
      claim_taken (want := Claim.asLocked) (f := State.lockedTaken p) (a := (h, reply, sent)) hp hc rfl
    refine ⟨fun hv => by rw [hexec, discard _ hv], fun r n hn hw => ⟨fun he => ?_, fun he => ?_⟩⟩
    · rw [hexec, onLock_taken hn hw, if_pos he]
      rfl
    · rw [hexec, onLock_taken hn hw, if_neg he]
      exact congrArg (fun t => Host.Outcome.next (State.settle t)) (spoilReject_eq (s := s1) _ hs (at1 hn) hw.2.1)
  · have hexec : exec (.refusedOutcome p) s = .next (s1.onLock p h (fun t => t.spoilReject h.slot .sealRefused)) :=
      claim_taken (want := Claim.asRefused) (f := State.refusedTaken p) (a := h) hp hc rfl
    refine ⟨fun hv => by rw [hexec, discard _ hv], fun r n hn hw => ?_⟩
    rw [hexec, onLock_taken hn hw]
    exact congrArg (fun t => Host.Outcome.next (State.settle t)) (spoilReject_eq (s := s1) _ hs (at1 hn) hw.2.1)
  · have hexec : exec (.noReplyOutcome p) s = .next (s1.onLock p h (State.spoilAttempt h.slot)) :=
      claim_taken (want := Claim.asNoReply) (f := State.noReplyTaken p) (a := h) hp hc rfl
    refine ⟨fun hv => by rw [hexec, discard _ hv], fun r n hn hw => ?_⟩
    rw [hexec, onLock_taken hn hw]
    exact congrArg (fun t => Host.Outcome.next (State.settle t)) (spoilAttempt_eq (s := s1) hs (at1 hn) hw.2.1)

end Sys2Proof.Machine
end

section
/-! Proof of O52: flag claims and result claims (R15, R16, R118..R124). -/

namespace Sys2Proof.Machine

variable {s : State} {p k : Nat} {h : Handle} {r : Record} {res : Result}

theorem Record.measured_iff (r : Record) : r.measured = true ↔ r.state = .measuring ∨ r.state = .passed := by
  simp [Record.measured]

/-! ### Flag claims (R16) -/

theorem takeFlag_none (f : ClaimFlag) (hn : s.named h = none) : s.takeFlag h f = s := by
  simp only [State.takeFlag, hn]

theorem takeFlag_named (f : ClaimFlag) (hn : s.named h = some r) : s.takeFlag h f =
    if r.measured = true then s.updRecord h.slot (fun r => { r with flags := r.flags.withClaimed f }) else s := by
  simp only [State.takeFlag, hn]

theorem withClaimed_eq (f : ClaimFlag) (x : Flags) : x.withClaimed f =
    ⟨x.saturated || decide (f = .saturated), x.glitch || decide (f = .glitch), x.trimLimit, x.imageOdd⟩ := by
  cases f <;> simp [Flags.withClaimed]

/-! ### Result claims (R118, R119) -/

theorem takeResult_none (k : Nat) (res : Result) (hn : s.named h = none) : s.takeResult h k res = s := by
  simp only [State.takeResult, hn]

theorem takeResult_named (k : Nat) (res : Result) (hn : s.named h = some r) : s.takeResult h k res =
    if r.measured = true then s.writeResult h.slot k r res else s := by
  simp only [State.takeResult, hn]

/-- R15: the entry a result claim writes into the record of a slot. -/
def State.written (slot k : Nat) (r : Record) (res : Result) (status : EntryStatus) (s : State) : State :=
  s.updRecord slot (Record.withEntry k (res.entry status r.generation))

/-- R119: a claim without a verdict. -/
theorem writeResult_plain (slot : Nat) (hk : res.kind ≠ .done) :
    s.writeResult slot k r res = (s.written slot k r res res.kind.status).evaluate slot := by
  unfold State.writeResult
  split
  next hd _ _ _ => exact absurd hd hk
  next hd _ => exact absurd hd hk
  all_goals rfl

/-- R118: a DONE claim gives a verdict. -/
theorem writeResult_done {e : Int} {pt : Point} {pf : Profile} (slot : Nat) (hk : res.kind = .done)
    (he : res.error = some e) (hpt : s.pointAt k = some pt) (hpf : s.profileAt r.profile = some pf) :
    s.writeResult slot k r res = ((s.written slot k r res (verdictOf pt pf r.rounds e).status).verdictEffect slot pt pf e
      (verdictOf pt pf r.rounds e)).evaluate slot := by
  simp only [State.writeResult, hk, he, hpt, hpf]
  rfl

/-! ### Verdicts (R120..R122) -/

section
variable {pt : Point} {pf : Profile} {e : Int} {n : Nat}

theorem verdictOf_check (h : pt.role = .check) :
    verdictOf pt pf n e = if e.natAbs ≤ pt.toleranceOf pf.accuracyClass then .pass else .fail := by
  rw [verdictOf, h]
  rfl

theorem verdictOf_adjust (h : pt.role = .adjust) : verdictOf pt pf n e =
    if e.natAbs ≤ pt.toleranceOf pf.accuracyClass / 2 then .pass
    else if pf.adjustLimit < e.natAbs then .outOfRange
    else if n = pf.maxRounds then .adjustLimit
    else .adjusted := by
  rw [verdictOf, h]
  rfl

end

/-! ### What the verdicts make of the record -/

theorem recordAt_written {slot : Nat} (status : EntryStatus) (hr : s.recordAt slot = some r) :
    (s.written slot k r res status).recordAt slot = some (r.withEntry k (res.entry status r.generation)) :=
  State.recordAt_updated _ (fun _ => rfl) hr

/-- R118: a rejected record is not evaluated. -/
theorem evaluate_reject {slot : Nat} (cause : RejectCause) (hr : s.recordAt slot = some r) :
    (s.reject slot cause).evaluate slot = s.reject slot cause :=
  State.evaluate_other (State.recordAt_rejected cause hr) (by simp) (by simp)

theorem recordAt_enterWritePending {slot : Nat} (hr : s.recordAt slot = some r) :
    (s.enterWritePending slot).recordAt slot = some { r with state := .writePending } := by
  rw [enterWritePending_eq hr, recordAt_giveItem, State.recordAt_moved _ hr]

theorem recordAt_giveGone (r : Record) (b : Bool) (n : Nat) : (s.giveGone r b).recordAt n = s.recordAt n := by
  unfold State.giveGone
  split <;> rfl

theorem handleOf_of_aside {t : State} (h : t.aside = s.aside) (r : Record) : t.handleOf r = s.handleOf r := by
  have htags := tags_of_aside h
  unfold State.handleOf State.tag
  rw [htags]

theorem orphanOnWay_of_aside {t : State} (h : t.aside = s.aside) (g : Handle) : t.orphanOnWay g = s.orphanOnWay g := by
  have hclaims := inFlight_of_aside h
  unfold State.orphanOnWay
  rw [hclaims]

theorem giveGone_stays {b : Bool} (h : r.position ≠ none ∨ s.orphanOnWay (s.handleOf r) = none) :
    s.giveGone r b = s := by
  unfold State.giveGone
  split
  next hp ho => simp [hp, ho] at h
  · rfl

theorem giveGone_given {b : Bool} {q : Nat} {ph : Option AbandonPhase} (hp : r.position = none)
    (ho : s.orphanOnWay (s.handleOf r) = some (q, ph)) : s.giveGone r b = s.markGiven q b := by
  simp only [State.giveGone, hp, ho]

section
variable {slot : Nat} {pt : Point} {pf : Profile} {e : Int}

/-- R124: the part once an ADJUSTED entry is written and the targets are corrected. -/
def State.corrected (slot k : Nat) (r : Record) (res : Result) (pt : Point) (pf : Profile) (e : Int) (s : State) :
    State :=
  (s.written slot k r res .adjusted).updRecord slot (Record.adjust pt pf e)

/-- The record of the slot once it is corrected. -/
def Record.corrected (k : Nat) (res : Result) (pt : Point) (pf : Profile) (e : Int) (r : Record) : Record :=
  (r.withEntry k (res.entry .adjusted r.generation)).adjust pt pf e

theorem recordAt_corrected (hr : s.recordAt slot = some r) :
    (s.corrected slot k r res pt pf e).recordAt slot = some (r.corrected k res pt pf e) :=
  State.recordAt_updated _ (fun _ => rfl) (recordAt_written .adjusted hr)

theorem aside_corrected : (s.corrected slot k r res pt pf e).aside = s.aside := by
  unfold State.corrected State.written
  rw [aside_updRecord, aside_updRecord]

theorem verdictEffect_same (hr : s.recordAt slot = some r) (hd : (r.adjust pt pf e).differs = false) :
    (s.written slot k r res .adjusted).verdictEffect slot pt pf e .adjusted = s.corrected slot k r res pt pf e := by
  have hat := recordAt_corrected (k := k) (res := res) (pt := pt) (pf := pf) (e := e) hr
  have hdiff : (r.corrected k res pt pf e).differs = false := hd
  show (match (s.corrected slot k r res pt pf e).recordAt slot with | none => _ | some _ => _) = _
  rw [hat]
  exact if_neg (by simp [hdiff])

theorem verdictEffect_differs (hr : s.recordAt slot = some r) (hd : (r.adjust pt pf e).differs = true) :
    (s.written slot k r res .adjusted).verdictEffect slot pt pf e .adjusted =
      ((s.corrected slot k r res pt pf e).enterWritePending slot).giveGone (r.corrected k res pt pf e) true := by
  have hat := recordAt_corrected (k := k) (res := res) (pt := pt) (pf := pf) (e := e) hr
  have hdiff : (r.corrected k res pt pf e).differs = true := hd
  show (match (s.corrected slot k r res pt pf e).recordAt slot with | none => _ | some _ => _) = _
  rw [hat]
  exact if_pos hdiff

/-- R129: a record given its WRITE item is not evaluated. -/
theorem evaluate_givenWrite (hr : s.recordAt slot = some r) (x : Record) :
    ((s.enterWritePending slot).giveGone x true).evaluate slot = (s.enterWritePending slot).giveGone x true :=
  State.evaluate_other ((recordAt_giveGone x true slot).trans (recordAt_enterWritePending hr)) (by simp) (by simp)

/-- R124, R130: the correction that leaves a target unlike its meter value. -/
theorem writeResult_differs (hv : verdictOf pt pf r.rounds e = .adjusted) (hk : res.kind = .done)
    (he : res.error = some e) (hpt : s.pointAt k = some pt) (hpf : s.profileAt r.profile = some pf)
    (hr : s.recordAt slot = some r) (hd : (r.adjust pt pf e).differs = true) : s.writeResult slot k r res =
      ((s.corrected slot k r res pt pf e).enterWritePending slot).giveGone (r.corrected k res pt pf e) true := by
  rw [writeResult_done slot hk he hpt hpf, hv]
  exact (congrArg (State.evaluate slot) (verdictEffect_differs hr hd)).trans
    (evaluate_givenWrite (recordAt_corrected hr) _)

theorem aside_correctedWrite :
    ((s.corrected slot k r res pt pf e).enterWritePending slot).aside = s.aside := by
  rw [aside_enterWritePending, aside_corrected]

end

/-- Settles O52. -/
theorem resultAndFlagClaimsDecide : Obligations.ResultAndFlagClaimsDecide := by
  intro s p h hp s1 measured
  refine ⟨fun f hc => ?_, fun k res hc => ?_⟩
  · have hexec : exec (.flagClaim p) s = .next (s1.takeFlag h f) := exec_flagClaim hp hc
    refine ⟨fun hn => ?_, fun r hn hm => ?_, fun r hn hm => ?_⟩
    · rw [hexec, takeFlag_none (s := s1) f hn]
    · rw [hexec, takeFlag_named (s := s1) f hn, if_neg (r.measured_iff.not.mpr hm)]
    · rw [hexec, takeFlag_named (s := s1) f hn, if_pos (r.measured_iff.mpr hm)]
      simp only [withClaimed_eq]
  · intro done written
    have hexec : exec (.resultClaim p) s = .next (s1.takeResult h k res).settle := exec_resultClaim hp hc
    refine ⟨fun hn => ?_, fun r hn hm => ?_, fun r hn hm => ?_⟩
    · show exec _ s = _
      rw [hexec, takeResult_none (s := s1) k res hn]
    · show exec _ s = _
      rw [hexec, takeResult_named (s := s1) k res hn, if_neg (r.measured_iff.not.mpr hm)]
    have hat : s1.recordAt h.slot = some r := State.recordAt_named hn
    have hhandle : s1.handleOf r = h := handleOf_named hn
    have htaken {t : State} (ht : s1.writeResult h.slot k r res = t) : done t := by
      show exec _ s = _
      rw [hexec, takeResult_named (s := s1) k res hn, if_pos (r.measured_iff.mpr hm), ht]
    have hplain {status : EntryStatus} (hk : res.kind ≠ .done) (hst : res.kind.status = status) :
        done ((written r status).evaluate h.slot) :=
      htaken (hst ▸ writeResult_plain h.slot hk)
    refine ⟨fun hk => hplain (by simp [hk]) (by rw [hk]; rfl), fun hk => hplain (by simp [hk]) (by rw [hk]; rfl),
      fun hk => hplain (by simp [hk]) (by rw [hk]; rfl), fun hk => hplain (by simp [hk]) (by rw [hk]; rfl),
      fun e pt pf hk he hpt hpf => ?_⟩
    intro tolerance
    have hdone {v : Verdict} (hv : verdictOf pt pf r.rounds e = v) : s1.writeResult h.slot k r res =
        ((s1.written h.slot k r res v.status).verdictEffect h.slot pt pf e v).evaluate h.slot :=
      hv ▸ writeResult_done (s := s1) h.slot hk he hpt hpf
    have hentry (status : EntryStatus) := recordAt_written (k := k) (res := res) status hat
    refine ⟨fun t0 t1 t2 t3 ht => ?_, fun hrole htol => ?_, fun hrole htol => ?_, fun hrole htol => ?_,
      fun hrole htol hlim => ?_, fun hrole htol hlim hrounds => ?_, fun hrole htol hlim hrounds => ?_⟩
    · refine ⟨fun hcls => ?_, fun hcls => ?_, fun hcls => ?_, fun hcls => ?_⟩ <;>
        simp [tolerance, Point.toleranceOf, ht, hcls]
    · exact htaken (hdone ((verdictOf_check hrole).trans (if_pos htol)))
    · exact htaken (hdone ((verdictOf_check hrole).trans (if_neg (Nat.not_le.mpr htol))))
    · exact htaken (hdone ((verdictOf_adjust hrole).trans (if_pos htol)))
    all_goals have hadjust := (verdictOf_adjust (pf := pf) (n := r.rounds) hrole).trans (if_neg (Nat.not_le.mpr htol))
    · exact htaken ((hdone (hadjust.trans (if_pos hlim))).trans (evaluate_reject .outOfRange (hentry .fail)))
    all_goals replace hadjust := hadjust.trans (if_neg (Nat.not_lt.mpr hlim))
    · exact htaken ((hdone (hadjust.trans (if_pos hrounds))).trans (evaluate_reject .adjustLimit (hentry .fail)))
    · have hv : verdictOf pt pf r.rounds e = .adjusted := hadjust.trans (if_neg hrounds)
      intro corrected
      refine ⟨fun hd => ?_, fun hd => ?_⟩
      · exact htaken ((hdone hv).trans (congrArg (State.evaluate h.slot) (verdictEffect_same hat hd)))
      have hwrite := writeResult_differs (s := s1) hv hk he hpt hpf hat hd
      have haside := aside_correctedWrite (s := s1) (slot := h.slot) (k := k) (r := r) (res := res) (pt := pt)
        (pf := pf) (e := e)
      let given := (s1.corrected h.slot k r res pt pf e).enterWritePending h.slot
      have horphan : given.orphanOnWay (given.handleOf (r.corrected k res pt pf e)) = s.orphanOnWay h := by
        have hsame : given.handleOf _ = _ := handleOf_of_aside haside (r.corrected k res pt pf e)
        have hthis : s1.handleOf (r.corrected k res pt pf e) = h := hhandle
        have hway : given.orphanOnWay h = _ := orphanOnWay_of_aside haside h
        rw [hsame.trans hthis, hway]
        exact orphanOnWay_claimTaken orphanFor_of_comparator
      refine ⟨fun hno => htaken (hwrite.trans (giveGone_stays (hno.imp_right fun hno => ?_))),
        fun q ph hnone hcl => htaken (hwrite.trans (giveGone_given (ph := ph) hnone ?_))⟩
      · exact horphan.trans (State.orphanOnWay_none hno)
      · exact horphan.trans (orphanOnWay_iff.mpr hcl)

end Sys2Proof.Machine
end

section
/-! Proof of O54: start claims, void grants and the issue of numbers (R144, R155, R178, R179, R188). -/

namespace Sys2Proof.Machine

variable {s : State} {p l : Nat} {h : Handle} {r : Record}

/-! ### The turn of a position's item -/

theorem probeAddress_eq (p : Nat) : probeAddress p = p - 8 * ((p - 1) / 8) := by
  rw [probeAddress, laneOf, Nat.add_sub_cancel]

theorem sendTurn_none (l : Nat) (hi : (s.position p).item = none) : s.sendTurn l p = s := by
  simp only [State.sendTurn, hi]

theorem sendTurn_some {i : Item} (l : Nat) (hi : (s.position p).item = some i) :
    s.sendTurn l p =
      (s.updLane l (fun x => { x with
        frames := (turnOf (probeAddress p) (s.lane l).cap (s.lane l).mark (s.position p).wordCount i.work).frames
        budget := (turnOf (probeAddress p) (s.lane l).cap (s.lane l).mark (s.position p).wordCount i.work).budget
        })).updPosition p (fun x => { x with item := some { i with
          work := (turnOf (probeAddress p) (s.lane l).cap (s.lane l).mark (s.position p).wordCount i.work).work } }) := by
  simp only [State.sendTurn, hi]

theorem wordCount_eq (x : Position) : x.wordCount = (match x.identity with
    | none => 0
    | some d => d.wordCount) := by
  unfold Position.wordCount
  cases x.identity <;> rfl

theorem named_iff : s.named h = some r ↔ s.resolve h = .ok r := by
  refine ⟨State.named_some, fun hr => ?_⟩
  simp only [State.named, hr]

/-! ### A void grant (R155) -/

theorem names_iff (st : LaneState) (p : Nat) : st.names p = true ↔ st = .granted p ∨ st = .awaitReply p := by
  cases st <;> simp [LaneState.names]

theorem dropItem_named (hn : (s.lane (laneOf p)).state = .granted p ∨ (s.lane (laneOf p)).state = .awaitReply p) :
    s.dropItem p = (s.updPosition p (fun x => { x with item := none })).endTurn (laneOf p) := by
  unfold State.dropItem
  exact if_pos ((names_iff _ p).mpr hn)

theorem dropItem_unnamed (h1 : (s.lane (laneOf p)).state ≠ .granted p) (h2 : (s.lane (laneOf p)).state ≠ .awaitReply p) :
    s.dropItem p = s.updPosition p (fun x => { x with item := none }) := by
  unfold State.dropItem
  exact if_neg fun hn => ((names_iff _ p).mp hn).elim h1 h2

/-- R153, R155: a dropped item changes its position and its lane alone. -/
theorem dropItem_frame (s : State) (p : Nat) : s.dropItem p =
    { s.updPosition p (fun x => { x with item := none }) with lanes := (s.dropItem p).lanes } := by
  unfold State.dropItem
  dsimp only
  split <;> rfl

theorem lane_dropItem_other {m : Nat} (hm : m ≠ laneOf p) : (s.dropItem p).lane m = s.lane m := by
  unfold State.dropItem
  dsimp only
  split
  · exact State.lane_updLane_other (s.updPosition p _) _ hm
  · rfl

theorem isLane_laneOf (hp : isPosition p = true) : isLane (laneOf p) = true := by
  obtain ⟨h1, h48⟩ := isPosition_iff.mp hp
  rw [isLane_iff, laneOf]
  omega

theorem lane_updLane_eq {m : Nat} (f : Lane → Lane) (hs : s.lanes.length = 6) (hm : isLane m = true) :
    (s.updLane m f).lane m = f (s.lane m) := by
  obtain ⟨h1, h6⟩ := isLane_iff.mp hm
  exact State.lane_updLane_same s f h1 (hs.symm ▸ h6)

/-! ### Start claims (R155, R188) -/

theorem exec_writeStartClaim (hp : isPosition p = true) (hc : s.Claims (ofLaneWork p) (.writeStart p h)) :
    exec (.writeStartClaim p) s = .next ((s.claimTaken (ofLaneWork p)).writeStartTaken p h) :=
  claim_taken (want := Claim.asWriteStart) (f := State.writeStartTaken p) (a := h) hp hc rfl

theorem exec_sealStartClaim (hp : isPosition p = true) (hc : s.Claims (ofLaneWork p) (.sealStart p h)) :
    exec (.sealStartClaim p) s = .next ((s.claimTaken (ofLaneWork p)).sealStartTaken p h) :=
  claim_taken (want := Claim.asSealStart) (f := State.sealStartTaken p) (a := h) hp hc rfl

theorem writeStartTaken_none (hn : s.named h = none) : s.writeStartTaken p h = (s.voidGrant p).settle := by
  simp only [State.writeStartTaken, hn]

theorem writeStartTaken_declined (hn : s.named h = some r) (hw : ¬ (r.state = .writePending ∧ r.position = some p)) :
    s.writeStartTaken p h = (s.voidGrant p).settle := by
  simp only [State.writeStartTaken, hn]
  split
  · rfl
  · exact if_neg hw

theorem writeStartTaken_open {pf : Profile} (hn : s.named h = some r) (hpf : s.profileAt r.profile = some pf)
    (hst : r.state = .writePending) (hpos : r.position = some p) : s.writeStartTaken p h =
      ((s.moveRecord h.slot .writing).setWork p (.write (some (newTransfer pf r)))).sendTurn (laneOf p) p := by
  simp only [State.writeStartTaken, hn, hpf]
  exact if_pos ⟨hst, hpos⟩

theorem sealStartTaken_none (hn : s.named h = none) : s.sealStartTaken p h = (s.voidGrant p).settle := by
  simp only [State.sealStartTaken, hn]

theorem sealStartTaken_declined (hn : s.named h = some r) (hw : ¬ (r.state = .sealing ∧ r.position = some p)) :
    s.sealStartTaken p h = (s.voidGrant p).settle := by
  simp only [State.sealStartTaken, hn]
  split
  · rfl
  · exact if_neg hw

/-- R188: the tests of a seal start claim, in their order. -/
theorem sealStartTaken_tested {pf : Profile} (hn : s.named h = some r) (hpf : s.profileAt r.profile = some pf)
    (hst : r.state = .sealing) (hpos : r.position = some p) : s.sealStartTaken p h =
      if s.passedCondition r = false then ((s.voidGrant p).returnToPassed h.slot).settle
      else if s.seals.remaining = 0 then (((s.voidGrant p).returnToPassed h.slot).raise .sealsExhausted).settle
      else s.startLock p h.slot pf r := by
  simp only [State.sealStartTaken, hn, hpf]
  exact if_pos ⟨hst, hpos⟩

/-! ### An issue (R178, R179) -/

theorem SealAllocator.remaining_issued (a : SealAllocator) : a.issued.remaining = a.remaining - 1 := by
  unfold SealAllocator.remaining SealAllocator.issued
  split
  · rfl
  · exact Nat.sub_add_eq _ _ 1

theorem raiseIf_pendingSet (s : State) (q : Prop) [Decidable q] (c : Condition) :
    s.raiseIf (decide q) c =
      { s with port := { s.port with pendingSet := s.port.pendingSet ||| if q then c.bit else 0x00#8 } } := by
  rw [State.raiseIf_decide]
  split
  · rfl
  · rw [show s.port.pendingSet ||| 0x00#8 = s.port.pendingSet from BitVec.or_zero]

theorem issueSeal_eq (s : State) : s.issueSeal = { s with
    seals := s.seals.issued
    port := { s.port with pendingSet := s.port.pendingSet |||
      (if s.port.bench.sealLow ≤ s.seals.remaining ∧ s.seals.issued.remaining < s.port.bench.sealLow then 0x10#8
        else 0x00#8) ||| (if s.seals.issued.remaining = 0 then 0x20#8 else 0x00#8) } } := by
  unfold State.issueSeal
  rw [raiseIf_pendingSet, raiseIf_pendingSet]
  rfl

/-- Settles O54. -/
theorem startClaimsDecideAndNumbersIssue : Obligations.StartClaimsDecideAndNumbersIssue := by
  refine ⟨fun s l p n st => ⟨sendTurn_none l, fun i hi => ?_, wordCount_eq _, rfl, fun h r => named_iff⟩,
    fun s p hp hs => ?_, fun s p h hp => ?_, fun s hs hrem => ?_⟩
  · rw [sendTurn_some l hi, probeAddress_eq]
  · intro t
    have hframe := dropItem_frame s p
    refine ⟨?_, fun q hq hne => ?_, fun hn => ?_, fun h1 h2 => ?_, fun l hl hne => lane_dropItem_other hne, ?_, ?_, ?_,
      ?_⟩
    · show (s.dropItem p).position p = _
      rw [hframe]
      exact State.position_updPosition_eq (s := s) (fun x => { x with item := none }) hs hp
    · show (s.dropItem p).position q = _
      rw [hframe]
      exact State.position_updPosition_other s _ hne
    · show (s.dropItem p).lane _ = _
      rw [dropItem_named hn]
      exact lane_updLane_eq (s := s.updPosition p _) _ hs.2.1 (isLane_laneOf hp)
    · show (s.dropItem p).lane _ = _
      rw [dropItem_unnamed h1 h2]
      rfl
    all_goals
      simp only [t, State.voidGrant]
      rw [hframe]
      rfl
  · intro s1 work
    refine ⟨fun hc => ?_, fun hc => ?_⟩
    · have hexec := exec_writeStartClaim hp hc
      refine ⟨fun hn => ?_, fun r hn hw => ?_, fun r pf hn hpf hst hpos => ?_⟩
      · rw [hexec, writeStartTaken_none (s := s1) hn]
      · rw [hexec, writeStartTaken_declined (s := s1) hn hw]
      · rw [hexec, writeStartTaken_open (s := s1) hn hpf hst hpos]
        rfl
    · intro done
      have hdone {t : State} (ht : s1.sealStartTaken p h = t) : done t :=
        (exec_sealStartClaim hp hc).trans (congrArg Host.Outcome.next ht)
      refine ⟨fun hn => hdone (sealStartTaken_none (s := s1) hn),
        fun r hn hw => hdone (sealStartTaken_declined (s := s1) hn hw), fun r pf hn hpf hst hpos => ?_⟩
      have htested := sealStartTaken_tested (s := s1) hn hpf hst hpos
      refine ⟨fun hno => hdone (htested.trans (if_pos hno)), fun hyes h0 => ?_, fun hyes h0 => ?_⟩
      all_goals replace htested := htested.trans (if_neg (show ¬ s1.passedCondition r = false from fun hno => by
        have : s.passedCondition r = false := hno
        rw [hyes] at this
        cases this))
      · exact hdone (htested.trans (if_pos h0))
      · exact hdone (htested.trans (if_neg h0))
  · intro left low out
    have hleft := s.seals.remaining_issued
    have hissue := issueSeal_eq s
    rw [hleft] at hissue
    rw [hissue]
    refine ⟨?_, hleft, rfl, rfl, rfl, rfl⟩
    rfl

end Sys2Proof.Machine
end

section
/-! Proofs of O47 and O49: the end of a lane turn, by its timer or by an accepted reply (R152, R157..R168, R173). -/

namespace Sys2Proof.Machine

variable {s : State} {l p : Nat} {i : Item}

/-! ### The lane's own commands (R156, R158) -/

theorem exec_laneSendDone (hl : isLane l = true) : exec (.laneSendDone l) s = .next (s.sendDone l) := onLane_next _ hl

theorem exec_probeFrameReceived (bytes : List Byte) (hl : isLane l = true) :
    exec (.probeFrameReceived l bytes) s = .next (s.receive l bytes) := onLane_next _ hl

theorem exec_laneReplyTimeout (hl : isLane l = true) : exec (.laneReplyTimeout l) s = .next (s.replyTimeout l) :=
  onLane_next _ hl

theorem sendDone_granted (hst : (s.lane l).state = .granted p) (hf : (s.lane l).frames ≠ []) : s.sendDone l =
    s.updLane l (fun x => { x with state := .awaitReply p, timer := some s.port.bench.replyTimeout }) := by
  simp only [State.sendDone, hst]
  exact if_neg hf

theorem sendDone_else (h : (∀ q, (s.lane l).state ≠ .granted q) ∨ (s.lane l).frames = []) : s.sendDone l = s := by
  unfold State.sendDone
  split
  next q hst => exact if_pos (h.resolve_left fun hno => hno q hst)
  all_goals rfl

theorem replyTimeout_idle (h : ∀ q, (s.lane l).state ≠ .awaitReply q) : s.replyTimeout l = s := by
  unfold State.replyTimeout
  split
  next q hst => exact absurd hst (h q)
  all_goals rfl

theorem replyTimeout_waiting (hst : (s.lane l).state = .awaitReply p) (hi : (s.position p).item = some i) :
    s.replyTimeout l = ((s.endTurn l).miss p i).settle := by
  simp only [State.replyTimeout, hst, hi]

/-! ### Misses (R159, R165, R167, R168) -/

theorem countAttempt_kept (h : i.attempts + 1 ≤ s.port.bench.retryLimit) : s.countAttempt p i =
    s.updPosition p (fun x => { x with item := some { i with requesting := true, attempts := i.attempts + 1 } }) :=
  if_neg (Nat.not_lt.mpr h)

theorem countAttempt_failed (h : s.port.bench.retryLimit < i.attempts + 1) :
    s.countAttempt p i = s.failItem p i.work := if_pos h

theorem miss_failed (h : s.port.bench.retryLimit < i.attempts + 1) : s.miss p i = s.failItem p i.work.afterMiss :=
  countAttempt_failed (i := { i with work := i.work.afterMiss }) h

theorem afterMiss_stage {t : Transfer} (h : t.phase = .stage) :
    Work.afterMiss (.write (some t)) = .write (some { t with sendOffset := t.confirmed }) := by
  simp only [Work.afterMiss, h]

theorem afterMiss_commit {t : Transfer} (h : t.phase = .commit) :
    Work.afterMiss (.write (some t)) = .write (some t) := by
  simp only [Work.afterMiss, h]

theorem failItem_stage {t : Transfer} (h : t.phase = .stage) : s.failItem p (.write (some t)) =
    (s.endItem p).send (.stageFailed p (s.position p).outcomeHandle) := by
  simp only [State.failItem, h]

theorem failItem_commit {t : Transfer} (h : t.phase = .commit) : s.failItem p (.write (some t)) =
    (s.endItem p).send (.commitUnknown p (s.position p).outcomeHandle) := by
  simp only [State.failItem, h]

theorem failItem_identifies {w : Work} (h : w = .ident ∨ ∃ off ws, w = .readImage off ws) :
    s.failItem p w = (s.endItem p).identFault p := by
  obtain rfl | ⟨off, ws, rfl⟩ := h <;> rfl

theorem afterMiss_identifies {w : Work} (h : w = .ident ∨ ∃ off ws, w = .readImage off ws) : w.afterMiss = w := by
  obtain rfl | ⟨off, ws, rfl⟩ := h <;> rfl

theorem identFault_free (h : (s.position p).held = false) : s.identFault p =
    (s.moveTo p .fault).updPosition p (fun x => { x with phase := none }) := by
  simp only [State.identFault, h]

theorem identFault_held {h : Handle} (hh : (s.position p).held = true) (hb : (s.position p).bound = some h) :
    s.identFault p = ((s.releaseHeld p h).moveTo p .fault).updPosition p (fun x => { x with phase := none }) := by
  simp only [State.identFault, hh, hb]

theorem exec_orphanClaim {h : Handle} {ph : Option AbandonPhase} (hp : isPosition p = true)
    (hc : s.Claims (ofPosition p) (.orphan p h ph)) :
    exec (.orphanClaim p) s = .next ((s.claimTaken (ofPosition p)).takeOrphan p h ph) :=
  claim_taken (want := Claim.asOrphan) (f := State.orphanTaken p) (a := (h, ph)) hp hc rfl

/-- R57: an orphan claim that the position sends first of its claims is taken at once. -/
theorem exec_orphanClaim_first {h : Handle} (ph : Option AbandonPhase) (u : State) (hp : isPosition p = true) :
    exec (.orphanClaim p) { u with inFlight := .orphan p h ph :: u.inFlight } = .next (u.takeOrphan p h ph) := by
  have hmine : ofPosition p (.orphan p h ph) = true := beq_self_eq_true p
  rw [exec_orphanClaim hp (claims_cons u hmine), claimTaken_cons u hmine]

theorem position_endItem (hs : (s.position p).held = true) : ((s.endItem p).position p) =
    { s.position p with item := none } := by
  unfold State.endItem State.position State.updPosition
  rw [place_updPlace_same]
  unfold State.position at hs
  cases hpl : place s.positions p with
  | none =>
    rw [hpl] at hs
    cases hs
  | some x => rfl

theorem held_endItem (s : State) (p : Nat) : ((s.endItem p).position p).held = (s.position p).held := by
  unfold State.endItem State.position State.updPosition
  rw [place_updPlace_same]
  cases place s.positions p <;> rfl

theorem lane_updLane_self (hs : s.Shaped) (hl : isLane l = true) : s.lanes[l - 1]? = some (s.lane l) := by
  obtain ⟨h1, h6⟩ := isLane_iff.mp hl
  obtain ⟨m, rfl⟩ := Nat.exists_eq_add_of_le' h1
  obtain ⟨x, hx⟩ := exists_place s.lanes h1 (hs.2.1.symm ▸ h6)
  show place s.lanes (m + 1) = _
  rw [State.lane, hx]
  rfl

/-- Settles O47. -/
theorem laneTurnsTimeOut : Obligations.LaneTurnsTimeOut := by
  intro s l p i hl h ended done
  refine ⟨fun hst hf => ?_, fun hno => ?_, fun hno => ?_, fun hst hi => ?_, fun tr => ⟨afterMiss_stage, afterMiss_commit⟩,
    rfl, fun off ws => rfl, fun k => rfl, fun hs f => ⟨lane_updLane_self hs hl, lane_updLane_eq f hs.2.1 hl,
      fun m hm hne => State.lane_updLane_other s f hne, rfl⟩, rfl, rfl⟩
  · rw [exec_laneSendDone hl, sendDone_granted hst hf]
  · rw [exec_laneSendDone hl, sendDone_else hno]
  · exact (exec_laneReplyTimeout hl).trans (congrArg Host.Outcome.next (replyTimeout_idle hno))
  · have hdone {t : State} (ht : (s.endTurn l).miss p i = t) : done t.settle := by
      refine (exec_laneReplyTimeout hl).trans (congrArg Host.Outcome.next ?_)
      rw [replyTimeout_waiting hst hi, ht]
    refine ⟨fun hle => hdone ?_, fun hlt => ?_⟩
    · exact countAttempt_kept (s := s.endTurn l) (i := { i with work := i.work.afterMiss }) hle
    have hmiss : (s.endTurn l).miss p i = (s.endTurn l).failItem p i.work.afterMiss :=
      miss_failed (s := s.endTurn l) hlt
    refine ⟨fun tr hw hph => hdone ?_, fun tr hw hph => hdone ?_, fun k hw => hdone ?_, fun hid hfree => hdone ?_,
      fun g hid hp hheld hb => ?_⟩
    · rw [hmiss, hw, afterMiss_stage hph]
      exact failItem_stage (s := s.endTurn l) (t := { tr with sendOffset := tr.confirmed }) hph
    · rw [hmiss, hw, afterMiss_commit hph]
      exact failItem_commit (s := s.endTurn l) hph
    · rw [hmiss, hw]
      rfl
    · rw [hmiss, afterMiss_identifies hid, failItem_identifies hid]
      exact identFault_free (s := ended) ((held_endItem (s.endTurn l) p).trans hfree)
    · have hpos : ended.position p = { s.position p with item := none } :=
        position_endItem (s := s.endTurn l) hheld
      have hheld' : (ended.position p).held = true := (congrArg Position.held hpos).trans hheld
      have hbound' : (ended.position p).bound = some g := (congrArg Position.bound hpos).trans hb
      refine ⟨ended.takeOrphan p g none, exec_orphanClaim_first none ended hp, hdone ?_⟩
      rw [hmiss, afterMiss_identifies hid, failItem_identifies hid]
      exact identFault_held (s := ended) hheld' hbound'

/-! ### Accepted replies (R157, R161, R165, R166, R173) -/

theorem receive_waiting {bytes : List Byte} {f : ReplyFrame} (hst : (s.lane l).state = .awaitReply p)
    (hi : (s.position p).item = some i) (hf : readFrame bytes = some f) : s.receive l bytes =
      if f.answers p (s.lane l).mark i.work = true then
        if i.work.inRange (s.position p).wordCount f.reply = true then ((s.endTurn l).takeReply p i f.reply).settle
        else ((s.endTurn l).miss p i).settle
      else s := by
  simp only [State.receive, hst, hi, hf]

theorem answers_iff (f : ReplyFrame) (p : Nat) (mark : Byte) (w : Work) :
    f.answers p mark w = true ↔ f.address = probeAddress p ∧ f.mark = mark ∧ w.accepts f.reply = true := by
  simp [ReplyFrame.answers, and_assoc]

/-- R157: a reply of the turn, of an accepted kind and in range, ends the turn and is taken. -/
theorem exec_acceptedReply {bytes : List Byte} {f : ReplyFrame} (hl : isLane l = true)
    (hst : (s.lane l).state = .awaitReply p) (hi : (s.position p).item = some i) (hf : readFrame bytes = some f)
    (ha : f.address = probeAddress p) (hm : f.mark = (s.lane l).mark) (hacc : i.work.accepts f.reply = true)
    (hr : i.work.inRange (s.position p).wordCount f.reply = true) :
    exec (.probeFrameReceived l bytes) s = .next ((s.endTurn l).takeReply p i f.reply).settle := by
  rw [exec_probeFrameReceived bytes hl, receive_waiting hst hi hf, if_pos ((answers_iff ..).mpr ⟨ha, hm, hacc⟩), if_pos hr]

section
variable {t : Transfer}

theorem takeReply_committed (c : Check) (hw : i.work = .write (some t)) : s.takeReply p i (.committed c) =
    (s.endItem p).send (if c = t.imageCheck then .commitMatch p (s.position p).outcomeHandle
      else .commitMismatch p (s.position p).outcomeHandle) := by
  simp only [State.takeReply, hw]

theorem takeReply_locked {k : Lock} (c : Check) (hw : i.work = .sealLock (some k)) : s.takeReply p i (.locked c) =
    (s.endItem p).send (.locked p (s.position p).outcomeHandle c k.recordCheck) := by
  simp only [State.takeReply, hw]

theorem takeReply_refused {k : Lock} (hw : i.work = .sealLock (some k)) : s.takeReply p i .refused =
    (s.endItem p).send (.refused p (s.position p).outcomeHandle) := by
  simp only [State.takeReply, hw]

theorem takeReply_staged (n : Nat) (hw : i.work = .write (some t)) : s.takeReply p i (.staged n) =
    s.stagedReply p i t n := by
  simp only [State.takeReply, hw]

theorem takeReply_imageWords {off : Nat} {got : List Word} (o n : Nat) (ws : List Word)
    (hw : i.work = .readImage off got) : s.takeReply p i (.imageWords o n ws) = s.wordsRead p i off got ws n := by
  simp only [State.takeReply, hw]

theorem takeReply_identReply (serial : List Byte) (tc n : Nat) (hw : i.work = .ident) :
    s.takeReply p i (.identReply serial tc n) = (s.endItem p).identReplied p ⟨serial, tc, n, none⟩ := by
  simp only [State.takeReply, hw]

theorem stagedReply_progress {n : Nat} (h : t.confirmed < n) : s.stagedReply p i t n =
    s.keepItem p { i with
      work := .write (some { t with confirmed := n, sendOffset := n
                                    phase := if n = t.length then .commit else .stage })
      attempts := 0 } := if_pos h

theorem stagedReply_stuck {n : Nat} (h : n ≤ t.confirmed) : s.stagedReply p i t n =
    s.countAttempt p { i with work := .write (some { t with sendOffset := t.confirmed }) } := if_neg (Nat.not_lt.mpr h)

end

/-- Settles O49. -/
theorem acceptedRepliesEndTheTurn : Obligations.AcceptedRepliesEndTheTurn := by
  intro s l p i f bytes hl hst hi hf ha hm h wc ended again done
  have hdone {r : Reply} {t : State} (hr : f.reply = r) (hacc : i.work.accepts r = true)
      (hin : i.work.inRange wc r = true) (ht : (s.endTurn l).takeReply p i r = t) : done t := by
    subst hr
    exact (exec_acceptedReply hl hst hi hf ha hm hacc hin).trans (congrArg (fun t => Host.Outcome.next (State.settle t)) ht)
  refine ⟨fun tr c hw hph hr => ?_, fun k c hw hr => ?_, fun k hw hr => ?_, fun tr w hw hph hr hle => ?_,
    fun off got ws hw hr => ?_, fun serial tc n hw hr hser htc htc' hn hn' => ?_⟩
  · exact hdone hr (by simp [Work.accepts, hw, hph]) (by simp [Work.inRange, hw])
      (takeReply_committed (s := s.endTurn l) c hw)
  · exact hdone hr (by simp [Work.accepts, hw]) (by simp [Work.inRange, hw]) (takeReply_locked (s := s.endTurn l) c hw)
  · exact hdone hr (by simp [Work.accepts, hw]) (by simp [Work.inRange, hw]) (takeReply_refused (s := s.endTurn l) hw)
  · have hstaged {t : State} (ht : (s.endTurn l).stagedReply p i tr w = t) : done t :=
      hdone hr (by simp [Work.accepts, hw, hph]) (by simp [Work.inRange, hw, hle])
        ((takeReply_staged (s := s.endTurn l) w hw).trans ht)
    refine ⟨fun hlt => hstaged (stagedReply_progress hlt), fun hstuck htry => hstaged ?_,
      fun hstuck htry => hstaged ?_⟩
    · exact (stagedReply_stuck hstuck).trans (countAttempt_kept (s := s.endTurn l)
        (i := { i with work := .write (some { tr with sendOffset := tr.confirmed }) }) htry)
    · refine (stagedReply_stuck hstuck).trans ((countAttempt_failed (s := s.endTurn l)
        (i := { i with work := .write (some { tr with sendOffset := tr.confirmed }) }) htry).trans ?_)
      exact failItem_stage (s := s.endTurn l) (t := { tr with sendOffset := tr.confirmed }) hph
  · have hwords {t : State} (ht : (s.endTurn l).wordsRead p i off got ws (min 8 (wc - off)) = t) : done t :=
      hdone hr (by simp [Work.accepts, hw]) (by simp only [Work.inRange, hw, decide_true, Bool.true_and]; exact decide_eq_true rfl)
        ((takeReply_imageWords (s := s.endTurn l) off _ ws hw).trans ht)
    exact ⟨fun hne => hwords (if_neg hne), fun heq => hwords (if_pos heq)⟩
  · exact hdone hr (by simp [Work.accepts, hw]) (by simp [Work.inRange, hw, hser, htc, htc', within, hn, hn'])
      (takeReply_identReply (s := s.endTurn l) serial tc n hw)

end Sys2Proof.Machine
end

section
/-! Proof of O48: which frames a lane takes (R156, R157, R215). -/

namespace Sys2Proof.Machine

variable {s : State} {l p : Nat} {i : Item} {bytes : List Byte}

/-! ### Fields read from bytes, and bytes spelled from fields (R214) -/

theorem uField_drop (bs : List Byte) (m n size : Nat) : uField (bs.drop m) n size = uField bs (m + n) size := by
  rw [uField, uField, List.drop_drop]

theorem uField_lt (bs : List Byte) (off size : Nat) : uField bs off size < 256 ^ size :=
  Nat.lt_of_lt_of_le (leNat_lt _) (Nat.pow_le_pow_right (by decide) (List.length_take_le _ _))

/-- R214: the first field of some bytes and the bytes behind it are those bytes. -/
theorem leBytes_uField {bs : List Byte} {size : Nat} (h : size ≤ bs.length) :
    leBytes size (uField bs 0 size) ++ bs.drop size = bs := by
  have hlen : (bs.take size).length = size := List.length_take_of_le h
  have hback := leBytes_leNat (bs.take size)
  rw [hlen] at hback
  show leBytes size (leNat (bs.take size)) ++ _ = _
  rw [hback, List.take_append_drop]

theorem leBytes_uField_exact {bs : List Byte} {size : Nat} (h : bs.length = size) :
    leBytes size (uField bs 0 size) = bs := by
  have := leBytes_uField (bs := bs) (Nat.le_of_eq h.symm)
  rwa [List.drop_of_length_le (Nat.le_of_eq h), List.append_nil] at this

theorem uField_leBytes_exact {k n : Nat} (h : n < 256 ^ k) : uField (leBytes k n) 0 k = n := by
  have := uField_leBytes h []
  rwa [List.append_nil] at this

/-! ### The fields of a reply (R215) -/

section
variable {kind : Byte} {fields : List Byte} {r : Reply}

theorem replyFields_identReply (fields : List Byte) : replyFields kIdentReply fields =
    if fields.length = 4 + uField fields 0 1 then
      some (.identReply ((fields.drop 1).take (uField fields 0 1)) (uField fields (1 + uField fields 0 1) 2)
        (uField fields (3 + uField fields 0 1) 1))
    else none := rfl

theorem replyFields_imageWords (fields : List Byte) : replyFields kImageWords fields =
    if fields.length = 2 + 4 * uField fields 1 1 then
      some (.imageWords (uField fields 0 1) (uField fields 1 1) (wordsOfBytes (uField fields 1 1) (fields.drop 2)))
    else none := rfl

theorem replyFields_staged (fields : List Byte) : replyFields kStaged fields =
    if fields.length = 1 then some (.staged (uField fields 0 1)) else none := rfl

theorem replyFields_committed (fields : List Byte) : replyFields kCommitted fields =
    if fields.length = 2 then some (.committed (BitVec.ofNat 16 (uField fields 0 2))) else none := rfl

theorem replyFields_locked (fields : List Byte) : replyFields kLocked fields =
    if fields.length = 2 then some (.locked (BitVec.ofNat 16 (uField fields 0 2))) else none := rfl

theorem replyFields_refused (fields : List Byte) : replyFields kRefused fields =
    if fields.length = 0 then some .refused else none := rfl

/-- R215: a reply's kind is one of six. -/
theorem replyFields_kind (h : replyFields kind fields = some r) : kind = kIdentReply ∨ kind = kImageWords ∨
    kind = kStaged ∨ kind = kCommitted ∨ kind = kLocked ∨ kind = kRefused := by
  by_contra hno
  simp only [not_or] at hno
  obtain ⟨h1, h2, h3, h4, h5, h6⟩ := hno
  rw [replyFields, if_neg h1, if_neg h2, if_neg h3, if_neg h4, if_neg h5, if_neg h6] at h
  cases h

/-- R214: the check of two bytes. -/
theorem leBytes_check_exact (h : fields.length = 2) :
    leBytes 2 (BitVec.ofNat 16 (uField fields 0 2)).toNat = fields := by
  have hlt := uField_lt fields 0 2
  rw [BitVec.toNat_ofNat, Nat.mod_eq_of_lt (show _ < 2 ^ 16 from hlt), leBytes_uField_exact h]

theorem uField_check_exact (c : Check) : BitVec.ofNat 16 (uField (leBytes 2 c.toNat) 0 2) = c := by
  rw [uField_leBytes_exact (k := 2) c.isLt]
  simp

theorem identReply_spelled (h : fields.length = 4 + uField fields 0 1) :
    fields = leBytes 1 ((fields.drop 1).take (uField fields 0 1)).length ++ (fields.drop 1).take (uField fields 0 1) ++
      leBytes 2 (uField fields (1 + uField fields 0 1) 2) ++ leBytes 1 (uField fields (3 + uField fields 0 1) 1) := by
  generalize hn : uField fields 0 1 = n at h ⊢
  have hserial : ((fields.drop 1).take n).length = n := by
    rw [List.length_take_of_le]
    rw [List.length_drop]
    omega
  have hrest : (fields.drop (1 + n)).length = 3 := by rw [List.length_drop]; omega
  have hlast : ((fields.drop (1 + n)).drop 2).length = 1 := by rw [List.length_drop, hrest]
  have htc : uField fields (1 + n) 2 = uField (fields.drop (1 + n)) 0 2 := by rw [uField_drop, Nat.add_zero]
  have hwc : uField fields (3 + n) 1 = uField ((fields.drop (1 + n)).drop 2) 0 1 := by
    rw [uField_drop, uField_drop]
    congr 1
    omega
  rw [hserial, htc, hwc, leBytes_uField_exact hlast, List.append_assoc, leBytes_uField (by omega),
    List.append_assoc, ← List.drop_drop, List.take_append_drop, ← hn, leBytes_uField (by omega)]

theorem identReply_read {serial : List Byte} {tc wc : Nat} (hs : serial.length < 256) (ht : tc < 65536) (hw : wc < 256) :
    replyFields kIdentReply (leBytes 1 serial.length ++ serial ++ leBytes 2 tc ++ leBytes 1 wc) =
      some (.identReply serial tc wc) := by
  have hassoc : leBytes 1 serial.length ++ serial ++ leBytes 2 tc ++ leBytes 1 wc =
      leBytes 1 serial.length ++ (serial ++ (leBytes 2 tc ++ leBytes 1 wc)) := by simp only [List.append_assoc]
  have hn : uField (leBytes 1 serial.length ++ (serial ++ (leBytes 2 tc ++ leBytes 1 wc))) 0 1 = serial.length :=
    uField_leBytes (k := 1) hs _
  have htc := uField_append (as := leBytes 1 serial.length) (bs := serial ++ (leBytes 2 tc ++ leBytes 1 wc))
    serial.length 2 (leBytes_length ..)
  have htc0 : uField (serial ++ (leBytes 2 tc ++ leBytes 1 wc)) serial.length 2 = tc :=
    (uField_append 0 2 rfl).trans (uField_leBytes (k := 2) ht _)
  rw [htc0] at htc
  have hwc := uField_append (as := leBytes 1 serial.length) (bs := serial ++ (leBytes 2 tc ++ leBytes 1 wc))
    (serial.length + 2) 1 (leBytes_length ..)
  have hwc0 : uField (serial ++ (leBytes 2 tc ++ leBytes 1 wc)) (serial.length + 2) 1 = wc :=
    (uField_append 2 1 rfl).trans
      ((uField_append 0 1 (leBytes_length 2 tc)).trans (uField_leBytes_exact (k := 1) hw))
  rw [hwc0] at hwc
  rw [hassoc, replyFields_identReply, hn, if_pos]
  · rw [htc, show 3 + serial.length = 1 + (serial.length + 2) by omega, hwc,
      List.drop_left' (leBytes_length 1 serial.length), List.take_left' rfl]
  · simp only [List.length_append, leBytes_length]
    omega

theorem imageWords_spelled (h : fields.length = 2 + 4 * uField fields 1 1) :
    fields = leBytes 1 (uField fields 0 1) ++ leBytes 1 (uField fields 1 1) ++
      imageBytes (wordsOfBytes (uField fields 1 1) (fields.drop 2)) := by
  have hcount : uField fields 1 1 = uField (fields.drop 1) 0 1 := by rw [uField_drop]
  rw [imageBytes_wordsOfBytes (by rw [List.length_drop]; omega), List.append_assoc, hcount,
    show fields.drop 2 = (fields.drop 1).drop 1 by rw [List.drop_drop],
    leBytes_uField (by rw [List.length_drop]; omega), leBytes_uField (by omega)]

theorem imageWords_read {o : Nat} {ws : List Word} (ho : o < 256) (hn : ws.length < 256) :
    replyFields kImageWords (leBytes 1 o ++ leBytes 1 ws.length ++ imageBytes ws) =
      some (.imageWords o ws.length ws) := by
  rw [List.append_assoc]
  have hoff : uField (leBytes 1 o ++ (leBytes 1 ws.length ++ imageBytes ws)) 0 1 = o := uField_leBytes (k := 1) ho _
  have hcount := uField_append (bs := leBytes 1 ws.length ++ imageBytes ws) 0 1 (leBytes_length 1 o)
  rw [uField_leBytes (k := 1) hn] at hcount
  rw [replyFields_imageWords, hoff, hcount, if_pos]
  · have hdrop : (leBytes 1 o ++ (leBytes 1 ws.length ++ imageBytes ws)).drop 2 = imageBytes ws := rfl
    have hwords := wordsOfBytes_imageBytes ws []
    rw [List.append_nil] at hwords
    rw [hdrop, hwords]
  · simp only [List.length_append, leBytes_length, imageBytes_length]
    omega

end

/-- R215: the row of each reply kind. -/
def Reply.SpelledBy (kind : Byte) (fields : List Byte) : Reply → Prop
  | .identReply serial tc wc => kind = 0x81#8 ∧ serial.length < 256 ∧ tc < 65536 ∧ wc < 256 ∧
      fields = leBytes 1 serial.length ++ serial ++ leBytes 2 tc ++ leBytes 1 wc
  | .imageWords o n ws => kind = 0x82#8 ∧ o < 256 ∧ n < 256 ∧ ws.length = n ∧
      fields = leBytes 1 o ++ leBytes 1 n ++ imageBytes ws
  | .staged high => kind = 0x84#8 ∧ high < 256 ∧ fields = leBytes 1 high
  | .committed c => kind = 0x85#8 ∧ fields = leBytes 2 c.toNat
  | .locked c => kind = 0x86#8 ∧ fields = leBytes 2 c.toNat
  | .refused => kind = 0x87#8 ∧ fields = []

theorem replyFields_iff (kind : Byte) (fields : List Byte) (r : Reply) :
    replyFields kind fields = some r ↔ r.SpelledBy kind fields := by
  constructor
  · intro h
    obtain rfl | rfl | rfl | rfl | rfl | rfl := replyFields_kind h
    · rw [replyFields_identReply, Option.ite_none_right_eq_some] at h
      obtain ⟨hlen, h⟩ := h
      cases h
      exact ⟨rfl, Nat.lt_of_le_of_lt (List.length_take_le _ _) (uField_lt fields 0 1), uField_lt .., uField_lt ..,
        identReply_spelled hlen⟩
    · rw [replyFields_imageWords, Option.ite_none_right_eq_some] at h
      obtain ⟨hlen, h⟩ := h
      cases h
      exact ⟨rfl, uField_lt .., uField_lt .., wordsOfBytes_length _ _, imageWords_spelled hlen⟩
    · rw [replyFields_staged, Option.ite_none_right_eq_some] at h
      obtain ⟨hlen, h⟩ := h
      cases h
      exact ⟨rfl, uField_lt .., (leBytes_uField_exact hlen).symm⟩
    · rw [replyFields_committed, Option.ite_none_right_eq_some] at h
      obtain ⟨hlen, h⟩ := h
      cases h
      exact ⟨rfl, (leBytes_check_exact hlen).symm⟩
    · rw [replyFields_locked, Option.ite_none_right_eq_some] at h
      obtain ⟨hlen, h⟩ := h
      cases h
      exact ⟨rfl, (leBytes_check_exact hlen).symm⟩
    · rw [replyFields_refused, Option.ite_none_right_eq_some] at h
      obtain ⟨hlen, h⟩ := h
      cases h
      exact ⟨rfl, List.length_eq_zero_iff.mp hlen⟩
  · cases r with
    | identReply serial tc wc =>
      rintro ⟨rfl, hs, ht, hw, rfl⟩
      exact identReply_read hs ht hw
    | imageWords o n ws =>
      rintro ⟨rfl, ho, hn, rfl, rfl⟩
      exact imageWords_read ho hn
    | staged high =>
      rintro ⟨rfl, hh, rfl⟩
      exact (replyFields_staged _).trans (congrArg (fun n => some (Reply.staged n)) (uField_leBytes_exact (k := 1) hh))
    | committed c =>
      rintro ⟨rfl, rfl⟩
      exact (replyFields_committed _).trans (congrArg (fun n => some (Reply.committed n)) (uField_check_exact c))
    | locked c =>
      rintro ⟨rfl, rfl⟩
      exact (replyFields_locked _).trans (congrArg (fun n => some (Reply.locked n)) (uField_check_exact c))
    | refused =>
      rintro ⟨rfl, rfl⟩
      rfl

/-! ### Frames that are discarded (R157) -/

theorem readFrame_short (h : bytes.length < 5) : readFrame bytes = none := if_pos h

theorem readFrame_badCheck (h : bytes.drop (bytes.length - 2) ≠
    leBytes 2 (check (bytes.take (bytes.length - 2))).toNat) : readFrame bytes = none := by
  by_cases h5 : bytes.length < 5
  · exact readFrame_short h5
  · have hlen : (bytes.drop (bytes.length - 2)).length = 2 := by rw [List.length_drop]; omega
    refine (if_neg h5).trans (if_pos fun heq => h ?_)
    rw [← heq, ← leBytes_uField_exact hlen, uField_drop, Nat.add_zero]

theorem receive_unread (h : readFrame bytes = none) : s.receive l bytes = s := by
  unfold State.receive
  rw [h]
  split
  next hf => cases hf
  · rfl

theorem receive_notWaiting (h : ∀ q, (s.lane l).state ≠ .awaitReply q) : s.receive l bytes = s := by
  unfold State.receive
  split
  next q f hst hf => exact absurd hst (h q)
  · rfl

/-- R156: the kinds a turn accepts. -/
theorem Work.accepts_iff (w : Work) (r : Reply) : w.accepts r = true ↔
    (w = .ident ∧ ∃ serial tc wc, r = .identReply serial tc wc) ∨
    ((∃ off got, w = .readImage off got) ∧ ∃ o n ws, r = .imageWords o n ws) ∨
    ((∃ tr, w = .write (some tr) ∧ tr.phase = .stage) ∧ ∃ high, r = .staged high) ∨
    ((∃ tr, w = .write (some tr) ∧ tr.phase = .commit) ∧ ∃ c, r = .committed c) ∨
    ((∃ k, w = .sealLock (some k)) ∧ ((∃ c, r = .locked c) ∨ r = .refused)) := by
  cases w with
  | ident => cases r <;> simp [Work.accepts]
  | readImage off got => cases r <;> simp [Work.accepts]
  | write t => cases t <;> cases r <;> simp [Work.accepts]
  | sealLock k => cases k <;> cases r <;> simp [Work.accepts]

theorem serialChar_iff (c : Byte) : serialChar c = true ↔
    (0x30 ≤ c.toNat ∧ c.toNat ≤ 0x39) ∨ (0x41 ≤ c.toNat ∧ c.toNat ≤ 0x5A) := by
  simp [serialChar]

/-- Settles O48. -/
theorem probeFramesAreFiltered : Obligations.ProbeFramesAreFiltered := by
  refine ⟨fun s l bytes hl => ?_, fun wc serial tc n => ?_, fun serial => ?_, fun off got wc o n ws => ?_,
    fun tr wc w => rfl, fun tr wc c => rfl, fun k wc c => ⟨?_, ?_⟩, fun kind fields r => ?_⟩
  · intro discarded sent accepted
    have hdiscard (h : s.receive l bytes = s) : discarded :=
      (exec_probeFrameReceived bytes hl).trans (congrArg Host.Outcome.next h)
    refine ⟨fun h => hdiscard (receive_notWaiting h), fun h => hdiscard (receive_unread h),
      fun h => hdiscard (receive_unread (readFrame_short h)), fun h => hdiscard (receive_unread (readFrame_badCheck h)),
      fun p i f hst hi hf => ?_⟩
    intro address
    have hreceive := receive_waiting hst hi hf
    have haddress : address = probeAddress p := (probeAddress_eq p).symm
    refine ⟨fun hno => hdiscard (hreceive.trans (if_neg fun hans => ?_)), fun ha hm hacc hr => ?_⟩
    · obtain ⟨ha, hm, hacc⟩ := (answers_iff ..).mp hans
      rcases hno with h1 | h1 | h1
      · exact h1 (ha.trans haddress.symm)
      · exact h1 hm
      · exact h1 ((Work.accepts_iff _ _).mp hacc)
    · rw [exec_probeFrameReceived bytes hl, exec_laneReplyTimeout hl, replyTimeout_waiting hst hi, hreceive,
        if_pos ((answers_iff ..).mpr ⟨ha.trans haddress, hm, (Work.accepts_iff _ _).mpr hacc⟩), if_neg (by simp [hr])]
  · simp only [Work.inRange, within, Bool.and_assoc, Bool.decide_and]
  · simp only [serialOk_iff, List.all_eq_true, serialChar_iff]
  · simp only [Work.inRange, Bool.decide_and]
    rfl
  · cases k <;> rfl
  · cases k <;> rfl
  · rw [replyFields_iff]
    cases r <;> exact Iff.rfl

end Sys2Proof.Machine
end

section
/-! Proof of O46: the frames of a turn (R146, R147, R156, R160, R161, R164, R166, R173, R215). -/

namespace Sys2Proof.Machine

/-! ### The check (R146) and the bytes of a word (R147) -/

theorem shiftedByte (b : Byte) : BitVec.ofNat 16 (256 * b.toNat) = b.setWidth 16 <<< 8 := by
  apply BitVec.eq_of_toNat_eq
  have := b.isLt
  simp only [BitVec.toNat_ofNat, BitVec.toNat_shiftLeft, BitVec.toNat_setWidth, Nat.shiftLeft_eq]
  omega

theorem check_snoc (bytes : List Byte) (b : Byte) :
    check (bytes ++ [b]) = Nat.repeat checkShift 8 (check bytes ^^^ (b.setWidth 16 <<< 8)) := by
  rw [check, List.foldl_append, ← shiftedByte]
  rfl

theorem ofNat_div_eq_shift (w : Word) (k : Nat) : BitVec.ofNat 8 (w.toNat / 2 ^ k) = (w >>> k).setWidth 8 := by
  apply BitVec.eq_of_toNat_eq
  simp only [BitVec.toNat_ofNat, BitVec.toNat_setWidth, BitVec.toNat_ushiftRight, Nat.shiftRight_eq_div_pow]

theorem wordBytes_eq (w : Word) :
    wordBytes w = [w.setWidth 8, (w >>> 8).setWidth 8, (w >>> 16).setWidth 8, (w >>> 24).setWidth 8] := by
  rw [← ofNat_div_eq_shift, ← ofNat_div_eq_shift, ← ofNat_div_eq_shift]
  show [BitVec.ofNat 8 w.toNat, BitVec.ofNat 8 (w.toNat / 256), BitVec.ofNat 8 (w.toNat / 256 / 256),
    BitVec.ofNat 8 (w.toNat / 256 / 256 / 256)] = _
  rw [Nat.div_div_eq_div_mul, Nat.div_div_eq_div_mul]
  rfl

/-! ### Turns of a transfer (R164, R166) -/

section
variable {a cap wc : Nat} {mark : Byte} {t : Transfer}

theorem turnOf_commit (h : t.phase = .commit) : turnOf a cap mark wc (.write (some t)) =
    { frames := [frame a kCommit mark (u8 t.length)], work := .write (some { t with commitSent := true }), budget := 0 } := by
  simp only [turnOf, transferTurn, h]

theorem turnOf_stage (h : t.phase = .stage) : turnOf a cap mark wc (.write (some t)) =
    { frames := (stageBurst cap t.length 16 t.sendOffset 0).map (stageFrame a mark t.snapshot) ++
        [frame a kStageCheck mark (u8 t.length)]
      work := .write (some { t with sendOffset := t.sendOffset + burstWords (stageBurst cap t.length 16 t.sendOffset 0) })
      budget := burstWords (stageBurst cap t.length 16 t.sendOffset 0) } := by
  simp only [turnOf, transferTurn, h]

end

/-! ### The burst (R164) -/

section
variable {cap length fuel sent budget : Nat}

theorem stageBurst_stops (fuel : Nat) (h : ¬ (sent < length ∧ (budget = 0 ∨ budget + min 8 (length - sent) ≤ cap))) :
    stageBurst cap length fuel sent budget = [] := by
  cases fuel with
  | zero => rfl
  | succ fuel => exact if_neg h

theorem stageBurst_done (fuel budget : Nat) (h : length ≤ sent) : stageBurst cap length fuel sent budget = [] :=
  stageBurst_stops fuel fun hc => Nat.not_lt.mpr h hc.1

/-- R164: a STAGE frame more is sent while words remain and the budget allows its count. -/
theorem stageBurst_next (h : sent < length) (hb : budget = 0 ∨ budget + min 8 (length - sent) ≤ cap) :
    stageBurst cap length (fuel + 1) sent budget = (sent, min 8 (length - sent)) ::
      stageBurst cap length fuel (sent + min 8 (length - sent)) (budget + min 8 (length - sent)) := if_pos ⟨h, hb⟩

theorem stageBurst_full (fuel : Nat) (h0 : budget ≠ 0) (hb : ¬ budget + min 8 (length - sent) ≤ cap) :
    stageBurst cap length fuel sent budget = [] := stageBurst_stops fuel fun hc => hc.2.elim h0 hb

/-- The first frame of what is left of a burst that has begun. -/
theorem head_stageBurst (hf : length - sent ≤ 8 * fuel) (h0 : budget ≠ 0) :
    (stageBurst cap length fuel sent budget)[0]? = if sent < length ∧ budget + min 8 (length - sent) ≤ cap
      then some (sent, min 8 (length - sent)) else none := by
  split
  next h =>
    obtain ⟨fuel, rfl⟩ := Nat.exists_eq_add_of_le' (show 1 ≤ fuel by omega)
    rw [stageBurst_next h.1 (.inr h.2)]
    rfl
  next h =>
    by_cases hl : sent < length
    · rw [stageBurst_full fuel h0 fun hb => h ⟨hl, hb⟩]
      rfl
    · rw [stageBurst_done fuel budget (Nat.not_lt.mp hl)]
      rfl

/-- R164: behind each frame of a burst stands the next while words remain and the budget allows it. -/
theorem stageBurst_step {m : Nat} {b : Nat × Nat} (hf : length - sent ≤ 8 * fuel)
    (hb : (stageBurst cap length fuel sent budget)[m]? = some b) :
    (stageBurst cap length fuel sent budget)[m + 1]? =
      if b.1 + b.2 < length ∧ budget + (((stageBurst cap length fuel sent budget).take (m + 1)).map (·.2)).sum +
          min 8 (length - (b.1 + b.2)) ≤ cap
        then some (b.1 + b.2, min 8 (length - (b.1 + b.2))) else none := by
  induction fuel generalizing sent budget m with
  | zero => cases hb
  | succ fuel ih =>
    by_cases hc : sent < length ∧ (budget = 0 ∨ budget + min 8 (length - sent) ≤ cap)
    case neg =>
      rw [stageBurst_stops (fuel + 1) hc] at hb
      cases hb
    obtain ⟨hlt, hbudget⟩ := hc
    rw [stageBurst_next hlt hbudget] at hb ⊢
    cases m with
    | zero =>
      cases hb
      simpa using head_stageBurst (fuel := fuel) (cap := cap) (show length - (sent + min 8 (length - sent)) ≤ 8 * fuel by omega)
        (show budget + min 8 (length - sent) ≠ 0 by omega)
    | succ m =>
      rw [List.getElem?_cons_succ] at hb ⊢
      rw [ih (by omega) hb, List.take_succ_cons, List.map_cons, List.sum_cons, Nat.add_assoc budget]

end

/-- Settles O46. -/
theorem turnsSendTheirFrames : Obligations.TurnsSendTheirFrames := by
  refine ⟨fun a kind mark fields => rfl, ⟨rfl, check_snoc⟩, fun words => ?_, fun a cap wc mark =>
    ⟨rfl, fun off ws => rfl, fun tr h => ?_, fun tr h => ?_, fun k => rfl⟩, fun cap length start hlen => ?_, rfl, rfl, rfl,
    rfl, rfl⟩
  · rw [imageBytes, funext wordBytes_eq]
  · rw [turnOf_commit h]
    exact ⟨rfl, rfl⟩
  · rw [turnOf_stage h]
    exact ⟨_, rfl, rfl, rfl, rfl⟩
  · intro burst
    refine ⟨stageBurst_done 16 0, fun h => ?_, fun m b hb => ?_⟩
    · have hnext := stageBurst_next (cap := cap) (fuel := 15) h (.inl rfl)
      exact congrArg List.head? hnext
    · have hstep := stageBurst_step (fuel := 16) (by omega) hb
      rwa [Nat.zero_add] at hstep

end Sys2Proof.Machine
end

section
/-! Proof of O60: what is written reads back (R48, R50, R214, R215). -/

namespace Sys2Proof.Machine

/-! ### Fields of a block in their order (R214) -/

theorem uField_behind {k off : Nat} (n size : Nat) (bs : List Byte) (h : k ≤ off) :
    uField (leBytes k n ++ bs) off size = uField bs (off - k) size := by
  obtain ⟨m, rfl⟩ := Nat.exists_eq_add_of_le h
  rw [uField_append m size (leBytes_length k n), Nat.add_sub_cancel_left]

theorem drop_behind {k off : Nat} (n : Nat) (bs : List Byte) (h : k ≤ off) :
    (leBytes k n ++ bs).drop off = bs.drop (off - k) := by
  obtain ⟨m, rfl⟩ := Nat.exists_eq_add_of_le h
  rw [← List.drop_drop, List.drop_left' (leBytes_length k n), Nat.add_sub_cancel_left]

/-! ### Point blocks -/

theorem elementsOfCode_code (e : Elements) : elementsOfCode e.code = some e := by cases e <;> rfl

theorem roleOfCode_code (r : Role) : roleOfCode r.code = some r := by cases r <;> rfl

theorem Elements.code_lt (e : Elements) : e.code < 256 := by cases e <;> decide

theorem Role.code_lt (r : Role) : r.code < 256 := by cases r <;> decide

theorem pointBlock_eq {pt : Point} {a b c d : Nat} (ht : pt.tolerances = [a, b, c, d]) : pointBlock pt =
    leBytes 1 pt.elements.code ++ (leBytes 4 pt.current ++ (leBytes 1 pt.role.code ++ (leBytes 2 pt.pulses ++
      (leBytes 1 pt.windows ++ (leBytes 4 a ++ (leBytes 4 b ++ (leBytes 4 c ++ (leBytes 4 d ++ (leBytes 2 pt.timeout ++
        leBytes 2 pt.mask.toNat))))))))) := by
  unfold pointBlock
  rw [ht]
  simp only [List.append_assoc, List.flatMap_cons, List.flatMap_nil, List.append_nil, u8, u16, u32]

/-- R75: a point with its figures in range is read from its block. -/
theorem pointArg_pointBlock (k : Byte) {pt : Point} {a b c d : Nat} (ht : pt.tolerances = [a, b, c, d])
    (h1 : 1 ≤ pt.current) (h2 : pt.current ≤ 200000) (h3 : 1 ≤ pt.pulses) (h4 : pt.pulses ≤ 1000)
    (h5 : 1 ≤ pt.windows) (h6 : pt.windows ≤ 8) (h7 : ∀ n ∈ pt.tolerances, 1 ≤ n ∧ n ≤ 100000)
    (h8 : 1 ≤ pt.timeout) (h9 : pt.timeout ≤ 3600) : pointArg (k :: pointBlock pt) = some pt := by
  have htol := h7
  simp only [ht, List.mem_cons, List.not_mem_nil, or_false, forall_eq_or_imp, forall_eq] at htol
  obtain ⟨ha, hb, hc, hd⟩ := htol
  have hfields (off size : Nat) : uField (k :: pointBlock pt) (off + 1) size = uField (pointBlock pt) off size := rfl
  have helements : uField (k :: pointBlock pt) 1 1 = pt.elements.code := by
    rw [hfields 0, pointBlock_eq ht]
    exact uField_leBytes (k := 1) (pt.elements.code_lt) _
  have hcurrent : uField (k :: pointBlock pt) 2 4 = pt.current := by
    rw [hfields 1, pointBlock_eq ht]
    simp only [uField_behind, Nat.reduceLeDiff, Nat.reduceSub]
    exact uField_leBytes (k := 4) (by omega) _
  have hrole : uField (k :: pointBlock pt) 6 1 = pt.role.code := by
    rw [hfields 5, pointBlock_eq ht]
    simp only [uField_behind, Nat.reduceLeDiff, Nat.reduceSub]
    exact uField_leBytes (k := 1) (pt.role.code_lt) _
  have hpulses : uField (k :: pointBlock pt) 7 2 = pt.pulses := by
    rw [hfields 6, pointBlock_eq ht]
    simp only [uField_behind, Nat.reduceLeDiff, Nat.reduceSub]
    exact uField_leBytes (k := 2) (by omega) _
  have hwindows : uField (k :: pointBlock pt) 9 1 = pt.windows := by
    rw [hfields 8, pointBlock_eq ht]
    simp only [uField_behind, Nat.reduceLeDiff, Nat.reduceSub]
    exact uField_leBytes (k := 1) (by omega) _
  have hfirst : uField (k :: pointBlock pt) 10 4 = a := by
    rw [hfields 9, pointBlock_eq ht]
    simp only [uField_behind, Nat.reduceLeDiff, Nat.reduceSub]
    exact uField_leBytes (k := 4) (by omega) _
  have hsecond : uField (k :: pointBlock pt) 14 4 = b := by
    rw [hfields 13, pointBlock_eq ht]
    simp only [uField_behind, Nat.reduceLeDiff, Nat.reduceSub]
    exact uField_leBytes (k := 4) (by omega) _
  have hthird : uField (k :: pointBlock pt) 18 4 = c := by
    rw [hfields 17, pointBlock_eq ht]
    simp only [uField_behind, Nat.reduceLeDiff, Nat.reduceSub]
    exact uField_leBytes (k := 4) (by omega) _
  have hfourth : uField (k :: pointBlock pt) 22 4 = d := by
    rw [hfields 21, pointBlock_eq ht]
    simp only [uField_behind, Nat.reduceLeDiff, Nat.reduceSub]
    exact uField_leBytes (k := 4) (by omega) _
  have htimeout : uField (k :: pointBlock pt) 26 2 = pt.timeout := by
    rw [hfields 25, pointBlock_eq ht]
    simp only [uField_behind, Nat.reduceLeDiff, Nat.reduceSub]
    exact uField_leBytes (k := 2) (by omega) _
  have hset : uField (k :: pointBlock pt) 28 2 = pt.mask.toNat := by
    rw [hfields 27, pointBlock_eq ht]
    simp only [uField_behind, Nat.reduceLeDiff, Nat.reduceSub]
    exact uField_leBytes_exact (k := 2) pt.mask.isLt
  rw [pointArg_of_codes (helements ▸ elementsOfCode_code _) (hrole ▸ roleOfCode_code _), hcurrent, hpulses, hwindows,
    hfirst, hsecond, hthird, hfourth, htimeout, hset, ← ht, if_pos]
  · simp
  · simp only [within_iff]
    exact ⟨⟨h1, h2⟩, ⟨h3, h4⟩, ⟨h5, h6⟩, h7, h8, h9⟩

/-! ### Frames (R215) -/

theorem readFrame_frame {address : Nat} (kind mark : Byte) (fields : List Byte) (ha : address < 256) :
    readFrame (frame address kind mark fields) =
      (replyFields kind fields).map (fun r => { address := address, mark := mark, reply := r }) := by
  let body : List Byte := BitVec.ofNat 8 address :: kind :: mark :: fields
  have hlen : (body ++ leBytes 2 (check body).toNat).length - 2 = body.length := by
    rw [List.length_append, leBytes_length, Nat.add_sub_cancel]
  have hcheck : uField (body ++ leBytes 2 (check body).toNat) body.length 2 = (check body).toNat :=
    (uField_append 0 2 rfl).trans (uField_leBytes_exact (k := 2) (check body).isLt)
  have haddress : uField (body ++ leBytes 2 (check body).toNat) 0 1 = address := by
    show uField (BitVec.ofNat 8 address :: _) 0 1 = _
    rw [uField_zero_cons, BitVec.toNat_ofNat, Nat.mod_eq_of_lt ha]
  have hkind : uField (body ++ leBytes 2 (check body).toNat) 1 1 = kind.toNat := uField_one_cons_cons ..
  have hmark : uField (body ++ leBytes 2 (check body).toNat) 2 1 = mark.toNat := uField_one_cons_cons kind mark _
  show readFrame (body ++ leBytes 2 (check body).toNat) = _
  unfold readFrame
  rw [hlen, List.take_left' rfl, hcheck, haddress, hkind, hmark, ofNat_toNat_byte, ofNat_toNat_byte, if_neg, if_neg (by simp)]
  · show (match replyFields kind fields with | none => _ | some r => _) = _
    cases replyFields kind fields <;> rfl
  · simp only [body, List.length_append, List.length_cons, leBytes_length]
    omega

/-! ### Layout fields (R37, R38) -/

/-- [PORT:FMT:BLK]: a layout field as a block carries it. -/
def LayoutField.raw : LayoutField → RawField
  | .trim b p w => ⟨1, b.code, p.code, w, 0⟩
  | .fixed w v => ⟨2, 0, 0, w, v⟩

/-- The bytes of a layout place hold the field's numbers. -/
def LayoutField.Fits : LayoutField → Prop
  | .trim _ _ w => w < 256
  | .fixed w v => w < 256 ∧ v < 2 ^ 32

theorem Band.code_lt (b : Band) : b.code < 256 := by cases b <;> decide

theorem Phase.code_lt (p : Phase) : p.code < 256 := by cases p <;> decide

/-- R38: a field that passed its row passes it again as it is held. -/
theorem checkField_raw {bands : List Band} {phases : List Phase} {seen : List (Band × Phase)} {f : RawField}
    {g : LayoutField} (h : checkField bands phases seen f = some g) :
    checkField bands phases seen g.raw = some g ∧ g.Fits := by
  unfold checkField at h
  split at h
  · split at h
    next b p hb hp =>
      rw [Option.ite_none_right_eq_some] at h
      obtain ⟨hc, h⟩ := h
      cases h
      have hband := bandOfCode_eq_some.mpr (rfl : b.code = b.code)
      have hphase := phaseOfCode_eq_some.mpr (rfl : p.code = p.code)
      refine ⟨?_, show f.width < 256 by omega⟩
      simp only [checkField, LayoutField.raw, hband, hphase]
      exact if_pos hc
    · cases h
  · rw [Option.ite_none_right_eq_some, Option.ite_none_right_eq_some] at h
    obtain ⟨-, hc, h⟩ := h
    cases h
    refine ⟨if_pos hc, show f.width < 256 by omega, Nat.lt_of_lt_of_le hc.2.2 (Nat.pow_le_pow_right (by decide) (by omega))⟩

/-- R38: a layout that passed passes again as it is held. -/
theorem checkLayout_raw {bands : List Band} {phases : List Phase} {seen : List (Band × Phase)} {total idx : Nat}
    {fs : List RawField} {gs : List LayoutField} (h : checkLayout bands phases seen total idx fs = .ok gs) :
    checkLayout bands phases seen total idx (gs.map LayoutField.raw) = .ok gs ∧ gs.length = fs.length ∧
      ∀ g ∈ gs, g.Fits := by
  induction fs generalizing seen total idx gs with
  | nil =>
    cases h
    exact ⟨rfl, rfl, fun g hg => absurd hg List.not_mem_nil⟩
  | cons f fs ih =>
    unfold checkLayout at h
    split at h
    · cases h
    next g hg =>
      split at h
      · cases h
      next hw =>
        split at h
        next gs' hgs =>
          cases h
          obtain ⟨hraw, hfits⟩ := checkField_raw hg
          obtain ⟨hrest, hlen, hall⟩ := ih hgs
          refine ⟨?_, by rw [List.length_cons, hlen, List.length_cons], List.forall_mem_cons.mpr ⟨hfits, hall⟩⟩
          rw [List.map_cons, checkLayout, hraw]
          simp only [hrest]
          exact if_neg hw
        · cases h

theorem layoutPlace_eq (g : LayoutField) : layoutPlace g =
    leBytes 1 g.raw.kind ++ (leBytes 1 g.raw.band ++ (leBytes 1 g.raw.phase ++ (leBytes 1 g.raw.width ++
      leBytes 4 g.raw.value))) := by
  cases g <;> rfl

theorem rawFields_place {g : LayoutField} (h : g.Fits) (n : Nat) (rest : List Byte) :
    rawFields (n + 1) (layoutPlace g ++ rest) = g.raw :: rawFields n rest := by
  have hbounds : g.raw.kind < 256 ∧ g.raw.band < 256 ∧ g.raw.phase < 256 ∧ g.raw.width < 256 ∧ g.raw.value < 2 ^ 32 := by
    cases g with
    | trim b p w => exact ⟨show 1 < 256 by decide, b.code_lt, p.code_lt, h, show 0 < 2 ^ 32 by decide⟩
    | fixed w v => exact ⟨show 2 < 256 by decide, show 0 < 256 by decide, show 0 < 256 by decide, h.1, h.2⟩
  obtain ⟨hk, hb, hp, hw, hv⟩ := hbounds
  rw [rawFields, List.drop_left' (layoutPlace_length g), layoutPlace_eq]
  simp only [List.append_assoc, uField_behind, Nat.reduceLeDiff, Nat.reduceSub]
  rw [uField_leBytes (k := 1) hk, uField_leBytes (k := 1) hb, uField_leBytes (k := 1) hp, uField_leBytes (k := 1) hw,
    uField_leBytes (k := 4) hv]

theorem take_rawFields {gs : List LayoutField} {n : Nat} (hall : ∀ g ∈ gs, g.Fits) (hn : gs.length ≤ n)
    (rest : List Byte) : (rawFields n (gs.flatMap layoutPlace ++ rest)).take gs.length = gs.map LayoutField.raw := by
  induction gs generalizing n with
  | nil => rw [List.length_nil, List.take_zero, List.map_nil]
  | cons g gs ih =>
    obtain ⟨hg, hgs⟩ := List.forall_mem_cons.mp hall
    obtain ⟨m, rfl⟩ := Nat.exists_eq_add_of_le' (show 1 ≤ n by rw [List.length_cons] at hn; omega)
    rw [List.flatMap_cons, List.append_assoc, rawFields_place hg, List.length_cons, List.take_succ_cons,
      ih hgs (Nat.le_of_succ_le_succ hn), List.map_cons]

/-! ### Profiles (R38, R40) -/

def pulseEdgeCode : PulseEdge → Nat
  | .rising => 0
  | .falling => 1

def glitchPolicyCode : GlitchPolicy → Nat
  | .stall => 0
  | .ignore => 1

/-- R38: the ranges of the fields before the layout. -/
structure RawProfile.InRange (r : RawProfile) : Prop where
  typeCode : 1 ≤ r.typeCode ∧ r.typeCode ≤ 65534
  elementCount : r.elementCount = 1 ∨ r.elementCount = 3
  kmeter : 1 ≤ r.kmeter ∧ r.kmeter ≤ 1000000
  pulseEdge : r.pulseEdge ≤ 1
  minWidth : 1 ≤ r.minWidth ∧ r.minWidth ≤ 10000
  glitchPolicy : r.glitchPolicy ≤ 1
  bandCount : 1 ≤ r.bandCount ∧ r.bandCount ≤ 3
  two : r.bandCount = 2 → 1 ≤ r.t1 ∧ r.t1 ≤ 200000
  three : r.bandCount = 3 → 1 ≤ r.t1 ∧ r.t1 ≤ 199999 ∧ r.t1 + 1 ≤ r.t2 ∧ r.t2 ≤ 200000
  accuracyClass : r.accuracyClass ≤ 3
  trimUnit : 1 ≤ r.trimUnit ∧ r.trimUnit ≤ 100
  adjustLimit : 1 ≤ r.adjustLimit ∧ r.adjustLimit ≤ 200000
  maxRounds : 1 ≤ r.maxRounds ∧ r.maxRounds ≤ 4
  fieldCount : 1 ≤ r.fieldCount ∧ r.fieldCount ≤ 24

theorem ite_some_eq_none {c : Prop} [Decidable c] {i : Nat} {rest : Option Nat} :
    (if c then some i else rest) = none ↔ ¬ c ∧ rest = none := by
  split <;> simp [*]

theorem firstBadIndex_eq_none (r : RawProfile) : firstBadIndex r = none ↔ r.InRange := by
  simp only [firstBadIndex, ite_some_eq_none]
  constructor
  · rintro ⟨h1, h2, h3, h4, h5, h6, h7, h8, h8', h9, h10, h11, h12, h13, h14, -⟩
    constructor <;> omega
  · rintro ⟨h1, h2, h3, h4, h5, h6, h7, h8, h9, h10, h11, h12, h13, h14⟩
    refine ⟨?_, ?_, ?_, ?_, ?_, ?_, ?_, ?_, ?_, ?_, ?_, ?_, ?_, ?_, ?_, trivial⟩ <;> omega

theorem validate_eq_ok {raw : RawProfile} {pf : Profile} (h : validate raw = .ok pf) : raw.InRange ∧ ∃ layout,
    checkLayout (bandsOf raw.bandCount) (phasesOf raw.elementCount) [] 0 15 (raw.places.take raw.fieldCount) =
      .ok layout ∧ namesAll (trimSetOf raw.bandCount raw.elementCount) layout = true ∧
    pf = forcedProfile raw layout := by
  unfold validate at h
  split at h
  · cases h
  next hbad =>
    split at h
    · cases h
    next layout hl =>
      split at h
      next hn =>
        cases h
        exact ⟨(firstBadIndex_eq_none raw).mp hbad, layout, hl, hn, rfl⟩
      · cases h

theorem validate_of_inRange {raw : RawProfile} {layout : List LayoutField} (hr : raw.InRange)
    (hl : checkLayout (bandsOf raw.bandCount) (phasesOf raw.elementCount) [] 0 15 (raw.places.take raw.fieldCount) =
      .ok layout) (hn : namesAll (trimSetOf raw.bandCount raw.elementCount) layout = true) :
    validate raw = .ok (forcedProfile raw layout) := by
  simp only [validate, (firstBadIndex_eq_none raw).mpr hr, hl]
  exact if_pos hn

/-- The bytes of a profile block hold the profile's numbers. -/
structure Profile.Fits (pf : Profile) : Prop where
  typeCode : pf.typeCode < 256 ^ 2
  elementCount : pf.elementCount < 256 ^ 1
  kmeter : pf.kmeter < 256 ^ 4
  minWidth : pf.minWidth < 256 ^ 2
  bandCount : pf.bandCount < 256 ^ 1
  t1 : pf.t1 < 256 ^ 4
  t2 : pf.t2 < 256 ^ 4
  accuracyClass : pf.accuracyClass < 256 ^ 1
  trimUnit : pf.trimUnit < 256 ^ 1
  adjustLimit : pf.adjustLimit < 256 ^ 4
  maxRounds : pf.maxRounds < 256 ^ 1
  layout : pf.layout.length ≤ 24

/-- The bytes of a profile block behind its layout places. -/
def Profile.blockEnd (pf : Profile) : List Byte :=
  List.replicate (192 - (pf.layout.flatMap layoutPlace).length) 0#8 ++ leBytes 1 pf.imageLength

theorem profileBlock_eq (pf : Profile) (rest : List Byte) : profileBlock pf ++ rest =
    leBytes 2 pf.typeCode ++ (leBytes 1 pf.elementCount ++ (leBytes 4 pf.kmeter ++ (leBytes 1 (pulseEdgeCode pf.pulseEdge) ++
      (leBytes 2 pf.minWidth ++ (leBytes 1 (glitchPolicyCode pf.glitchPolicy) ++ (leBytes 1 pf.bandCount ++ (leBytes 4 pf.t1 ++
        (leBytes 4 pf.t2 ++ (leBytes 1 pf.accuracyClass ++ (leBytes 1 pf.trimUnit ++ (leBytes 4 pf.adjustLimit ++
          (leBytes 1 pf.maxRounds ++ (leBytes 1 pf.layout.length ++ (pf.layout.flatMap layoutPlace ++
            (pf.blockEnd ++ rest))))))))))))))) := by
  unfold profileBlock Profile.blockEnd padTo
  cases pf.pulseEdge <;> cases pf.glitchPolicy <;>
    simp only [List.append_assoc, u8, u16, u32, pulseEdgeCode, glitchPolicyCode]

/-- The numbers a profile's block carries. -/
def Profile.carried (pf : Profile) (rest : List Byte) : RawProfile :=
  { typeCode := pf.typeCode, elementCount := pf.elementCount, kmeter := pf.kmeter
    pulseEdge := pulseEdgeCode pf.pulseEdge, minWidth := pf.minWidth, glitchPolicy := glitchPolicyCode pf.glitchPolicy
    bandCount := pf.bandCount, t1 := pf.t1, t2 := pf.t2, accuracyClass := pf.accuracyClass, trimUnit := pf.trimUnit
    adjustLimit := pf.adjustLimit, maxRounds := pf.maxRounds, fieldCount := pf.layout.length
    places := rawFields 24 (pf.layout.flatMap layoutPlace ++ (pf.blockEnd ++ rest)) }

theorem rawProfile_profileBlock {pf : Profile} (h : pf.Fits) (rest : List Byte) :
    rawProfile (profileBlock pf ++ rest) = pf.carried rest := by
  obtain ⟨h1, h2, h3, h5, h7, h8, h9, h10, h11, h12, h13, h14⟩ := h
  have h4 : pulseEdgeCode pf.pulseEdge < 256 ^ 1 := by cases pf.pulseEdge <;> decide
  have h6 : glitchPolicyCode pf.glitchPolicy < 256 ^ 1 := by cases pf.glitchPolicy <;> decide
  have h15 : pf.layout.length < 256 ^ 1 := by omega
  unfold rawProfile Profile.carried
  rw [profileBlock_eq]
  simp only [uField_behind, drop_behind, uField_leBytes, Nat.reduceLeDiff, Nat.reduceSub, List.drop_zero, h1, h2, h3, h4,
    h5, h6, h7, h8, h9, h10, h11, h12, h13, h15]

section
variable {raw : RawProfile} {layout : List LayoutField}

/-- R36, R38: a layout that names every trim is not empty. -/
theorem layout_pos_of_namesAll {bands elements : Nat} (h : namesAll (trimSetOf bands elements) layout = true) :
    1 ≤ layout.length := by
  cases layout with
  | cons f fs => exact Nat.le_add_left 1 _
  | nil =>
    have hset : ∃ bp, bp ∈ trimSetOf bands elements := by
      refine ⟨(.nominal, .a), List.mem_flatMap.mpr ⟨.nominal, ?_, List.mem_map.mpr ⟨.a, ?_, rfl⟩⟩⟩
      · unfold bandsOf
        repeat' split
        all_goals decide
      · unfold phasesOf
        split <;> decide
    obtain ⟨bp, hbp⟩ := hset
    have := List.all_eq_true.mp h bp hbp
    cases this

theorem forcedProfile_t1 : (forcedProfile raw layout).t1 = if raw.bandCount = 1 then 0 else raw.t1 := rfl

theorem forcedProfile_t2 : (forcedProfile raw layout).t2 = if raw.bandCount < 3 then 0 else raw.t2 := rfl

theorem RawProfile.InRange.fits (h : raw.InRange) (hl : layout.length ≤ 24) : (forcedProfile raw layout).Fits := by
  obtain ⟨h1, h2, h3, h4, h5, h6, h7, h8, h9, h10, h11, h12, h13, h14⟩ := h
  constructor
  case t1 => rw [forcedProfile_t1]; split <;> omega
  case t2 => rw [forcedProfile_t2]; split <;> omega
  case layout => exact hl
  all_goals simp only [forcedProfile]; omega

theorem RawProfile.InRange.carried (h : raw.InRange) (h1 : 1 ≤ layout.length) (h24 : layout.length ≤ 24)
    (rest : List Byte) : ((forcedProfile raw layout).carried rest).InRange where
  typeCode := h.typeCode
  elementCount := h.elementCount
  kmeter := h.kmeter
  pulseEdge := by
    show pulseEdgeCode _ ≤ 1
    cases (forcedProfile raw layout).pulseEdge <;> decide
  minWidth := h.minWidth
  glitchPolicy := by
    show glitchPolicyCode _ ≤ 1
    cases (forcedProfile raw layout).glitchPolicy <;> decide
  bandCount := h.bandCount
  two hb := by
    have hb : raw.bandCount = 2 := hb
    have ht : (forcedProfile raw layout).t1 = raw.t1 := by rw [forcedProfile_t1, if_neg (by omega)]
    show 1 ≤ (forcedProfile raw layout).t1 ∧ (forcedProfile raw layout).t1 ≤ 200000
    rw [ht]
    exact h.two hb
  three hb := by
    have hb : raw.bandCount = 3 := hb
    have ht : (forcedProfile raw layout).t1 = raw.t1 := by rw [forcedProfile_t1, if_neg (by omega)]
    have ht2 : (forcedProfile raw layout).t2 = raw.t2 := by rw [forcedProfile_t2, if_neg (by omega)]
    show 1 ≤ (forcedProfile raw layout).t1 ∧ (forcedProfile raw layout).t1 ≤ 199999 ∧
      (forcedProfile raw layout).t1 + 1 ≤ (forcedProfile raw layout).t2 ∧ (forcedProfile raw layout).t2 ≤ 200000
    rw [ht, ht2]
    exact h.three hb
  accuracyClass := h.accuracyClass
  trimUnit := h.trimUnit
  adjustLimit := h.adjustLimit
  maxRounds := h.maxRounds
  fieldCount := ⟨h1, h24⟩

theorem forcedProfile_carried (rest : List Byte) :
    forcedProfile ((forcedProfile raw layout).carried rest) layout = forcedProfile raw layout := by
  have hedge (e : PulseEdge) : (if pulseEdgeCode e = 0 then PulseEdge.rising else .falling) = e := by cases e <;> rfl
  have hpolicy (e : GlitchPolicy) : (if glitchPolicyCode e = 0 then GlitchPolicy.stall else .ignore) = e := by
    cases e <;> rfl
  unfold forcedProfile Profile.carried
  simp only [hedge, hpolicy]
  congr 1
  · split <;> rfl
  · split <;> rfl

end

/-- R40, R48: a profile that was validated is validated again from its block. -/
theorem validate_profileBlock {raw : RawProfile} {pf : Profile} (h : validate raw = .ok pf) (rest : List Byte) :
    pf.layout.length ≤ 24 ∧ validate (rawProfile (profileBlock pf ++ rest)) = .ok pf := by
  obtain ⟨hr, layout, hl, hn, rfl⟩ := validate_eq_ok h
  obtain ⟨hraw, hlen, hall⟩ := checkLayout_raw hl
  have h24 : layout.length ≤ 24 := Nat.le_trans (hlen ▸ List.length_take_le _ _) hr.fieldCount.2
  refine ⟨h24, ?_⟩
  have hplaces := take_rawFields (n := 24) hall h24 ((forcedProfile raw layout).blockEnd ++ rest)
  have hlayout : checkLayout (bandsOf raw.bandCount) (phasesOf raw.elementCount) [] 0 15
      (((forcedProfile raw layout).carried rest).places.take layout.length) = .ok layout :=
    (congrArg _ hplaces).trans hraw
  rw [rawProfile_profileBlock (hr.fits h24),
    validate_of_inRange (hr.carried (layout_pos_of_namesAll hn) h24 rest) hlayout hn, forcedProfile_carried]

/-! ### Stored slots (R48) -/

theorem readStored_sealed {body : List Byte} (h : body.length = 222) :
    readStored (.stored (body ++ leBytes 2 (check body).toNat)) =
      if uField (body ++ leBytes 2 (check body).toNat) 0 1 = 0x3C then .empty
      else if uField (body ++ leBytes 2 (check body).toNat) 0 1 = 0xA5 then
        .candidate (rawProfile ((body ++ leBytes 2 (check body).toNat).drop 1))
      else .loadFault := by
  have hcheck : uField (body ++ leBytes 2 (check body).toNat) 222 2 = (check body).toNat :=
    (uField_append 0 2 h).trans (uField_leBytes_exact (k := 2) (check body).isLt)
  simp only [readStored]
  rw [hcheck, List.take_left' h, if_neg (by simp)]

/-- Settles O60. -/
theorem writtenFormsReadBack : Obligations.WrittenFormsReadBack := by
  refine ⟨fun n v b bs => ⟨rfl, rfl, rfl, rfl⟩, fun pf pins => ⟨rfl, rfl⟩, fun raw pf pins h => ?_, ?_, rfl,
    fun k pt a b c d ht h1 h2 h3 h4 h5 h6 h7 h8 h9 => pointArg_pointBlock k ht h1 h2 h3 h4 h5 h6 h7 h8 h9,
    fun address kind mark fields ha => readFrame_frame kind mark fields ha⟩
  · obtain ⟨h24, hagain⟩ := validate_profileBlock h (leBytes 2 (check (0xA5#8 :: profileBlock pf)).toNat)
    refine ⟨_, ?_, hagain⟩
    have hread := readStored_sealed (body := 0xA5#8 :: profileBlock pf)
      (by rw [List.length_cons, profileBlock_length h24])
    have hmark : uField ((0xA5#8 :: profileBlock pf) ++ leBytes 2 (check (0xA5#8 :: profileBlock pf)).toNat) 0 1 = 0xA5 :=
      uField_zero_cons _ _
    rw [hmark] at hread
    exact hread
  · exact readStored_sealed (body := 0x3C#8 :: List.replicate 221 0#8) rfl

end Sys2Proof.Machine
end

section
/-! Proof of O51: rebind and orphan claims (R3, R8, R9, R10, R66). -/

namespace Sys2Proof.Machine

variable {s t : State} {p q : Nat} {h : Handle} {r : Record} {ph : Option AbandonPhase}

/-! ### Bindings (R8) -/

theorem state_updPosition {f : Position → Position} (hf : ∀ x, (f x).state = x.state) :
    ((s.updPosition p f).position q).state = (s.position q).state := by
  by_cases hq : q = p
  · subst hq
    unfold State.position State.updPosition
    rw [place_updPlace_same]
    cases place s.positions q with
    | none => rfl
    | some x => exact hf x
  · rw [State.position_updPosition_other s f hq]

/-- R53: a change that leaves the state joins the move that follows it. -/
theorem positionBecomes_updPosition {st : PositionState} {f g : Position → Position} (hf : ∀ x, (f x).state = x.state)
    (hg : ∀ x, (g x).state = st) :
    (s.updPosition p f).positionBecomes p g = s.positionBecomes p (fun x => g (f x)) := by
  rw [State.positionBecomes_eq, State.positionBecomes_eq, State.updPosition_updPosition, hg, hg, state_updPosition hf]

theorem bind_toBound (h : Handle) (p : Nat) : (s.bind h p).toBound p =
    (s.updRecord h.slot (fun x => { x with position := some p })).positionBecomes p (fun x => { x with
      state := .bound, bound := some h, phase := none, identity := none, held := false }) := by
  rw [State.toBound_eq]
  exact positionBecomes_updPosition (s := s.updRecord h.slot _) (st := .bound) (f := fun x => { x with bound := some h })
    (fun _ => rfl) fun _ => rfl

/-! ### Orphan claims on their way (R57, R65) -/

/-- A claim taken that is no orphan claim of a record leaves the record's orphan claim on its way. -/
theorem orphanOnWay_taken {f : Claim → Bool} {c : Claim} (hc : s.Claims f c) (hn : c.orphanFor h = none) :
    (s.claimTaken f).orphanOnWay h = s.orphanOnWay h := by
  unfold State.orphanOnWay State.claimTaken
  unfold State.Claims at hc
  generalize s.inFlight = l at hc
  induction l with
  | nil => rfl
  | cons a cs ih =>
    cases ha : f a with
    | true =>
      rw [List.find?_cons_of_pos ha] at hc
      cases hc
      rw [List.eraseP_cons_of_pos ha, List.findSome?_cons, hn]
    | false =>
      rw [List.find?_cons_of_neg (by simp [ha])] at hc
      rw [List.eraseP_cons_of_neg (by simp [ha]), List.findSome?_cons, List.findSome?_cons, ih hc]

theorem settleOrphan_onWay (ho : s.orphanOnWay h = some (q, ph)) : s.settleOrphan h =
    ({ s with inFlight := s.inFlight.filter (fun c => !isOrphanFor h c) } : State).takeOrphan q h ph := by
  simp only [State.settleOrphan, ho]

/-! ### Rebind claims (R9, R66) -/

theorem exec_rebindClaim (hp : isPosition p = true) (hc : s.Claims (ofPosition p) (.rebind p h)) :
    exec (.rebindClaim p) s = .next ((s.claimTaken (ofPosition p)).takeRebind p h).settle :=
  claim_taken (want := Claim.asRebind) (f := State.rebindTaken p) (a := h) hp hc rfl

theorem takeRebind_none (hn : s.named h = none) : s.takeRebind p h = s.enterImage p := by
  simp only [State.takeRebind, hn]

theorem takeRebind_free (hn : s.named h = some r) (hp : r.position = none) :
    s.takeRebind p h = (((s.settleOrphan h).bind h p).toBound p).resumeWrite h.slot := by
  simp only [State.takeRebind, hn]
  exact if_pos hp

theorem takeRebind_bound (hn : s.named h = some r) (hp : r.position ≠ none) : s.takeRebind p h = s.toConflict p := by
  simp only [State.takeRebind, hn]
  exact if_neg hp

theorem resumeWrite_none {n : Nat} (hr : s.recordAt n = none) : s.resumeWrite n = s := by
  simp only [State.resumeWrite, hr]

theorem resumeWrite_some {n : Nat} (hr : s.recordAt n = some r) :
    s.resumeWrite n = if r.state = .writePending then s.giveItem r (.write none) else s := by
  simp only [State.resumeWrite, hr]

/-! ### Orphan claims (R10) -/

theorem takeOrphan_none (hn : s.named h = none) : s.takeOrphan p h ph = s := by
  simp only [State.takeOrphan, hn]

theorem takeOrphan_named (hn : s.named h = some r) : s.takeOrphan p h ph =
    if r.position = none ∨ r.position = some p then
      (((s.withdrawWork p).discardOutcomes p).unbind h.slot p).settleRecord h.slot ph
    else s := by
  simp only [State.takeOrphan, hn]

/-- R10: the part with the binding, the work and the outcomes of an orphan claim's position gone. -/
def State.freed (p slot : Nat) (s : State) : State :=
  ((s.discardOutcomes p).updRecord slot (fun r => { r with position := none })).updPosition p (fun x => { x with
    bound := none, item := x.item.filter (fun i => i.granted || !i.work.isForRecord), given := false })

theorem unbind_eq_freed (s : State) (p slot : Nat) :
    ((s.withdrawWork p).discardOutcomes p).unbind slot p = s.freed p slot := by
  rw [State.withdrawWork_eq]
  exact ((s.discardOutcomes p).updRecord slot (fun r => { r with position := none })).updPosition_updPosition p _ _

theorem recordAt_freed {slot : Nat} (hr : s.recordAt slot = some r) :
    (s.freed p slot).recordAt slot = some { r with position := none } :=
  State.recordAt_updated (s := s.discardOutcomes p) (fun r => { r with position := none }) (fun _ => rfl) hr

theorem State.TableSound.updRecord {n : Nat} {f : Record → Record} (hs : s.TableSound) (hslot : ∀ x, (f x).slot = x.slot)
    (hserial : ∀ x, (f x).serial = x.serial) : (s.updRecord n f).TableSound := by
  obtain ⟨h1, h2, h3⟩ := hs
  have hmap {β : Type} (g : Record → β) (hg : ∀ x, g (f x) = g x) :
      (s.updRecord n f).records.map g = s.records.map g := by
    refine List.map_map.trans ?_
    refine List.map_congr_left fun x _ => ?_
    show g (if x.slot = n then f x else x) = g x
    split
    · exact hg x
    · rfl
  refine ⟨?_, ?_, fun r hr => ?_⟩
  · rw [hmap _ hslot]
    exact h1
  · rw [hmap _ hserial]
    exact h2
  · obtain ⟨x, hx, rfl⟩ := List.mem_map.mp hr
    split
    · rw [hslot]
      exact h3 x hx
    · exact h3 x hx

theorem tableSound_freed {slot : Nat} (hs : s.TableSound) : (s.freed p slot).TableSound :=
  State.TableSound.updRecord (s := s.discardOutcomes p) hs (fun _ => rfl) fun _ => rfl

section
variable {n : Nat}

theorem settleRecord_kept (hr : s.recordAt n = some r) (h1 : r.state ≠ .writing) (h2 : r.state ≠ .sealing) :
    s.settleRecord n ph = s := by
  cases hst : r.state <;> simp_all [State.settleRecord]

theorem settleRecord_writing (hr : s.recordAt n = some r) (hst : r.state = .writing) : s.settleRecord n ph =
    if ph = some .commitSent then s.reject n .commitUnknown else s.moveRecord n .writePending := by
  simp only [State.settleRecord, hr, hst]
  rfl

theorem settleRecord_sealing (hr : s.recordAt n = some r) (hst : r.state = .sealing) : s.settleRecord n ph =
    if r.sealNumber.isSome = true then s.spoilAttempt n else (s.moveRecord n .passed).evaluate n := by
  simp only [State.settleRecord, hr, hst, State.settleSealing]
  rfl

end

/-- R153: the item that an orphan claim withdraws, as the statement spells it. -/
theorem withdrawnItem_eq (i : Item) : (i.granted || !i.work.isForRecord) =
    !(!i.granted && (match i.work with
      | .write _ | .sealLock _ => true
      | .ident | .readImage _ _ => false)) := by
  rw [Bool.not_and, Bool.not_not]
  cases i.work <;> rfl

/-- Settles O51. -/
theorem rebindAndOrphanClaimsDecide : Obligations.RebindAndOrphanClaimsDecide := by
  intro s p h hp hs s1
  refine ⟨fun hc => ?rebind, fun u n => ⟨resumeWrite_none, fun r hr => ?resume⟩, fun phase hc => ?orphan⟩
  case rebind =>
    intro taken rebound
    have htaken {t : State} (ht : s1.takeRebind p h = t) : taken t :=
      ⟨ht, (exec_rebindClaim hp hc).trans (congrArg (fun t => Host.Outcome.next (State.settle t)) ht)⟩
    refine ⟨fun hn => htaken ?_, fun r hn hpos => ?_, fun r q hn hpos => htaken ?_⟩
    · exact (takeRebind_none (s := s1) hn).trans (State.enterImage_eq s1 p)
    · have hfree := takeRebind_free (s := s1) (p := p) hn hpos
      rw [bind_toBound] at hfree
      refine ⟨fun hno => htaken ?_, fun q ph hq hcl => ?_⟩
      · have hsettle : s1.settleOrphan h = s1 := State.settleOrphan_none (s := s1) fun q ph hmem =>
          hno q ph (List.mem_of_mem_eraseP hmem)
        rwa [hsettle] at hfree
      · have hway : s1.orphanOnWay h = some (q, ph) := (orphanOnWay_taken hc rfl).trans (orphanOnWay_iff.mpr hcl)
        rw [settleOrphan_onWay hway] at hfree
        exact ⟨_, exec_orphanClaim_first ph
          { s1 with inFlight := s1.inFlight.filter (fun c => !isOrphanFor h c) } hq, htaken hfree⟩
    · exact (takeRebind_bound (s := s1) hn (by simp [hpos])).trans (State.toConflict_eq s1 p)
  case resume =>
    intro free
    refine ⟨fun hst => ?_, fun q hst hfree => ?_, fun hno => ?_⟩
    · rw [resumeWrite_some hr, if_neg hst]
    · obtain ⟨hpos, hbound, hitem⟩ := hfree
      rw [resumeWrite_some hr, if_pos hst, State.giveItem_bound _ hpos hbound hitem, State.queueItem_eq]
    · have hgive : u.giveItem r (.write none) = u := giveItem_refused _ fun q hq => by
        by_contra hcon
        simp only [not_or, ne_eq, not_not] at hcon
        exact hno q ⟨hq, hcon.2, hcon.1⟩
      rw [resumeWrite_some hr, hgive, ite_self]
  case orphan =>
    intro queued discarded freed done
    have hdone {t : State} (ht : s1.takeOrphan p h phase = t) : done t :=
      (exec_orphanClaim hp hc).trans (congrArg Host.Outcome.next ht)
    refine ⟨fun hn => hdone (takeOrphan_none (s := s1) hn), fun r hn => ?_⟩
    have hnamed := takeOrphan_named (s := s1) (p := p) (ph := phase) hn
    refine ⟨fun q hpos hne => hdone (hnamed.trans (if_neg (by simp [hpos, hne]))), fun hpos => ?_⟩
    have hfreed : s1.freed p h.slot = freed := by
      unfold State.freed
      simp only [withdrawnItem_eq]
      rfl
    have hat : freed.recordAt h.slot = some { r with position := none } :=
      hfreed ▸ recordAt_freed (s := s1) (State.recordAt_named hn)
    have hsound : freed.TableSound := hfreed ▸ tableSound_freed (s := s1) hs
    have hsettle {t : State} (ht : freed.settleRecord h.slot phase = t) : done t := by
      refine hdone (hnamed.trans ((if_pos hpos).trans ?_))
      rw [unbind_eq_freed, hfreed, ht]
    refine ⟨fun h1 h2 => hsettle (settleRecord_kept hat h1 h2),
      fun hst hph => hsettle ((settleRecord_writing hat hst).trans (if_pos hph)),
      fun hst hph => hsettle ((settleRecord_writing hat hst).trans (if_neg hph)),
      fun hst hnum => hsettle ((settleRecord_sealing hat hst).trans (if_neg (by simp [hnum]))),
      fun n hst hnum => hsettle ((settleRecord_sealing hat hst).trans ((if_pos (by simp [hnum])).trans ?_))⟩
    exact spoilAttempt_eq (r := { r with position := none }) hsound hat hnum

end Sys2Proof.Machine
end

section
/-! Proof of O50: a creation claim (R1, R4, R6, R7, R61). -/

namespace Sys2Proof.Machine

variable {s t : State} {p q n c : Nat} {d : Identity} {image : Unpacked} {r : Record}

/-! ### The lowest place with a property -/

theorem find?_places {k n : Nat} {f : Nat → Bool} : (places k).find? f = some n ↔
    f n = true ∧ within k n = true ∧ ∀ m, within k m = true → m < n → f m = false := by
  rw [places, List.find?_map, Option.map_eq_some_iff]
  simp only [List.find?_range_eq_some, within_iff, Function.comp_apply, List.mem_range, Bool.not_eq_true']
  constructor
  · rintro ⟨i, ⟨hf, hi, hlow⟩, rfl⟩
    refine ⟨hf, ⟨by omega, by omega⟩, fun m hm hlt => ?_⟩
    obtain ⟨j, rfl⟩ := Nat.exists_eq_add_of_le' hm.1
    exact hlow j (by omega)
  · rintro ⟨hf, hn, hlow⟩
    obtain ⟨i, rfl⟩ := Nat.exists_eq_add_of_le' hn.1
    exact ⟨i, ⟨hf, by omega, fun j hj => hlow (j + 1) ⟨by omega, by omega⟩ (by omega)⟩, rfl⟩

/-- R1: the lowest free slot. -/
theorem head_freeSlots : s.freeSlots.head? = some n ↔
    s.recordAt n = none ∧ within 64 n = true ∧ ∀ m, m < n → ¬ (within 64 m = true ∧ s.recordAt m = none) := by
  rw [State.freeSlots, List.head?_filter, find?_places]
  simp only [Option.isNone_iff_eq_none]
  refine and_congr_right fun _ => and_congr_right fun _ => ⟨fun h m hlt ⟨hm, hr⟩ => ?_, fun h m hm hlt => ?_⟩
  · have := h m hm hlt
    rw [hr] at this
    cases this
  · cases hr : s.recordAt m with
    | none => exact absurd ⟨hm, hr⟩ (h m hlt)
    | some x => rfl

theorem freeSlots_empty (h : ∀ n, ¬ (within 64 n = true ∧ s.recordAt n = none)) : s.freeSlots.head? = none := by
  cases hf : s.freeSlots.head? with
  | none => rfl
  | some n =>
    obtain ⟨hr, hn, -⟩ := head_freeSlots.mp hf
    exact absurd ⟨hn, hr⟩ (h n)

/-! ### The branches of a creation (R6, R7, R61) -/

theorem matchingCode_eq_some : s.matchingCode d image = some c ↔ ∃ pf, s.codeOfType d.typeCode = some c ∧
    s.profileAt c = some pf ∧ pf.imageLength = d.wordCount ∧
      pf.trimSet = image.trims.map (fun t => (t.band, t.phase)) := by
  unfold State.matchingCode
  cases hc : s.codeOfType d.typeCode with
  | none => simp
  | some c' =>
    cases hpf : s.profileAt c' with
    | none =>
      simp only [hpf, reduceCtorEq, false_iff]
      rintro ⟨pf, hc', hpf', -⟩
      cases hc'
      rw [hpf] at hpf'
      cases hpf'
    | some pf =>
      simp only [hpf, Option.ite_none_right_eq_some, Option.some.injEq]
      constructor
      · rintro ⟨⟨h1, h2⟩, rfl⟩
        exact ⟨pf, rfl, hpf, h1, h2⟩
      · rintro ⟨pf', rfl, hpf', h1, h2⟩
        rw [hpf] at hpf'
        cases hpf'
        exact ⟨⟨h1, h2⟩, rfl⟩

theorem matchingCode_eq_none (h : ∀ c, ¬ ∃ pf, s.codeOfType d.typeCode = some c ∧ s.profileAt c = some pf ∧
    pf.imageLength = d.wordCount ∧ pf.trimSet = image.trims.map (fun t => (t.band, t.phase))) :
    s.matchingCode d image = none := by
  cases hm : s.matchingCode d image with
  | none => rfl
  | some c => exact absurd (matchingCode_eq_some.mp hm) (h c)

section
variable {slot : Option Nat}

theorem takeCreation_unmatched (h : s.matchingCode d image = none) :
    s.takeCreation slot p d image = ⟨s.enterIdentifying p, false⟩ := by
  simp only [State.takeCreation, h]

theorem takeCreation_bound (h : s.matchingCode d image = some c) (hr : s.recordOf d.serial = some r)
    (hp : r.position ≠ none) : s.takeCreation slot p d image = ⟨s.toConflict p, false⟩ := by
  simp only [State.takeCreation, h, hr]
  exact if_neg hp

theorem takeCreation_orphaned (h : s.matchingCode d image = some c) (hr : s.recordOf d.serial = some r)
    (hp : r.position = none) : s.takeCreation slot p d image = ⟨s.takeRebind p (s.handleOf r), false⟩ := by
  simp only [State.takeCreation, h, hr]
  exact if_pos hp

theorem takeCreation_waits (h : s.matchingCode d image = some c) (hr : s.recordOf d.serial = none)
    (hno : slot = none ∨ 4294967295 ≤ s.admissions) : s.takeCreation slot p d image = ⟨s.toWaiting p, false⟩ := by
  simp only [State.takeCreation, h, hr]
  rcases hno with rfl | hno
  · rfl
  · split
    · exact if_neg (Nat.not_lt.mpr hno)
    · rfl

theorem takeCreation_created (h : s.matchingCode d image = some c) (hr : s.recordOf d.serial = none)
    (ha : s.admissions < 4294967295) :
    s.takeCreation (some n) p d image = ⟨s.createRecord n c p d image, true⟩ := by
  simp only [State.takeCreation, h, hr]
  exact if_pos ha

end

/-! ### The record made (R1, R7, R41) -/

/-- R7: the admission counted, the record added and its profile pinned. -/
def State.admitted (n c p : Nat) (d : Identity) (image : Unpacked) (s : State) : State :=
  ({ s with admissions := s.admissions + 1
            records := s.records ++ [newRecord n (s.admissions + 1) c p d image] } : State).updPins c (· + 1)

theorem createRecord_eq : s.createRecord n c p d image =
    (((s.admitted n c p d image).updRecord n (fun x => { x with position := some p })).positionBecomes p (fun x => { x with
      state := .bound, bound := some ⟨n, s.tag n⟩, phase := none, identity := none, held := false })).raise
        .recordsChanged := by
  have hbind := bind_toBound (s := s.admitted n c p d image) ⟨n, s.tag n⟩ p
  exact congrArg (State.raise .recordsChanged) hbind

/-- R1: a record made in a free slot stands behind the others, which stay as they are. -/
theorem records_createRecord (hr : s.recordAt n = none) :
    (s.createRecord n c p d image).records = s.records ++ [newRecord n (s.admissions + 1) c p d image] := by
  rw [createRecord_eq]
  show ((_ : State).positionBecomes p _).records = _
  rw [positionBecomes_records]
  show (s.records ++ [_]).map _ = _
  rw [List.map_append, List.map_singleton]
  refine congrArg₂ (· ++ ·) ?_ (congrArg (· :: []) (if_pos rfl))
  refine (List.map_congr_left fun x hx => ?_).trans (List.map_id _)
  refine if_neg fun hslot => ?_
  have := List.find?_eq_none.mp hr x hx
  simp [hslot] at this

theorem position_createRecord (hs : s.Shaped) (hp : isPosition p = true) :
    (s.createRecord n c p d image).position p = { s.position p with
      state := .bound, bound := some ⟨n, s.tag n⟩, phase := none, identity := none, held := false } := by
  obtain ⟨hpos, hlanes, hplan, htags, hprofiles, hflash⟩ := hs
  rw [createRecord_eq]
  exact State.position_positionBecomes_same (s := (s.admitted n c p d image).updRecord n _) _
    ⟨hpos, hlanes, hplan, htags, (length_updPlace s.profiles c _).trans hprofiles, hflash⟩ hp

theorem position_createRecord_other (hq : q ≠ p) : (s.createRecord n c p d image).position q = s.position q := by
  rw [createRecord_eq]
  exact State.position_positionBecomes_other (s := (s.admitted n c p d image).updRecord n _) _ hq

theorem profileSlot_createRecord : (s.createRecord n c p d image).profileSlot c =
    (s.profileSlot c).map (fun ps => { ps with pins := ps.pins + 1 }) := by
  have hprofiles : (s.createRecord n c p d image).profiles =
      updPlace s.profiles c (Option.map (fun ps => { ps with pins := ps.pins + 1 })) := by
    rw [createRecord_eq]
    exact positionBecomes_profiles ((s.admitted n c p d image).updRecord n _) p _
  unfold State.profileSlot
  rw [hprofiles, place_updPlace_same]
  cases place s.profiles c with
  | none => rfl
  | some ps => cases ps <;> rfl

/-- R7: what a creation leaves of the rest. -/
theorem createRecord_frame : (s.createRecord n c p d image).admissions = s.admissions + 1 ∧
    (s.createRecord n c p d image).tags = s.tags ∧ (s.createRecord n c p d image).plan = s.plan ∧
    (s.createRecord n c p d image).seals = s.seals ∧ (s.createRecord n c p d image).seq = s.seq := by
  rw [createRecord_eq]
  let u := (s.admitted n c p d image).updRecord n (fun x => { x with position := some p })
  exact ⟨positionBecomes_admissions u p _, positionBecomes_tags u p _, positionBecomes_plan u p _,
    positionBecomes_seals u p _, positionBecomes_seq u p _⟩

theorem exec_creationClaim (hp : isPosition p = true) (hc : s.Claims (ofPosition p) (.creation p d image)) :
    exec (.creationClaim p) s = .next ((s.claimTaken (ofPosition p)).takeCreation
      (s.claimTaken (ofPosition p)).freeSlots.head? p d image).state.settle :=
  claim_taken (want := Claim.asCreation) (f := State.creationTaken p) (a := (d, image)) hp hc rfl

/-- Settles O50. -/
theorem creationClaimDecides : Obligations.CreationClaimDecides := by
  intro s p d image hp hs hsound hc s1 done matching free created
  have hexec := exec_creationClaim hp hc
  have hdone {t : State} {b : Bool} (ht : s1.takeCreation s1.freeSlots.head? p d image = ⟨t, b⟩) : done t := by
    show exec _ s = _
    rw [hexec, ht]
  refine ⟨fun hno => ?_, fun c hm => ?_⟩
  · have hmatch : s1.matchingCode d image = none := matchingCode_eq_none (s := s1) hno
    have := hdone (takeCreation_unmatched hmatch)
    rwa [State.enterIdentifying_eq] at this
  have hmatch : s1.matchingCode d image = some c := matchingCode_eq_some.mpr hm
  refine ⟨fun r q hr hser hpos => ?_, fun r hr hser hpos => ?_, fun hno => ?_⟩
  · have hat : s1.recordOf d.serial = some r := hser ▸ hsound.recordOf_serial hr
    have := hdone (takeCreation_bound hmatch hat (by simp [hpos]))
    rwa [State.toConflict_eq] at this
  · intro h
    have hat : s1.recordOf d.serial = some r := hser ▸ hsound.recordOf_serial hr
    have hmine : ofPosition p (.rebind p h) = true := beq_self_eq_true p
    rw [exec_rebindClaim hp (claims_cons s1 hmine), claimTaken_cons s1 hmine]
    exact hdone (takeCreation_orphaned hmatch hat hpos)
  · have hat : s1.recordOf d.serial = none := State.recordOf_eq_none (s := s1) hno
    refine ⟨fun hfull => ?_, fun n hfree hlow ha => ?_⟩
    · have := hdone (takeCreation_waits hmatch hat (hfull.imp_left (freeSlots_empty (s := s1))))
      rwa [State.toWaiting_eq] at this
    · have hhead : s1.freeSlots.head? = some n := head_freeSlots.mpr ⟨hfree.2, hfree.1, hlow⟩
      have hcreated := takeCreation_created (n := n) (p := p) hmatch hat ha
      rw [← hhead] at hcreated
      let u := s1.createRecord n c p d image
      have hpos := position_settle u p
      rw [position_createRecord (s := s1) hs hp] at hpos
      obtain ⟨hadm, htags, hplan, hseals, hseq⟩ := createRecord_frame (s := s1) (n := n) (c := c) (p := p) (d := d)
        (image := image)
      have hstate := congrArg Position.state hpos
      have hbound := congrArg Position.bound hpos
      have hidentity := congrArg Position.identity hpos
      refine ⟨u.settle, hdone hcreated, ?_, (settle_admissions u).trans hadm, (settle_tags u).trans htags, hstate, hbound,
        hidentity, ?_, fun q hq hne => ?_, ?_, (settle_plan u).trans hplan, (settle_seals u).trans hseals,
        (settle_seq u).trans hseq⟩
      · rw [settle_records]
        exact records_createRecord (s := s1) hfree.2
      · have hslot : u.settle.profileSlot c = u.profileSlot c := by
          unfold State.profileSlot
          rw [settle_profiles]
        exact hslot.trans profileSlot_createRecord
      · have hother := position_settle u q
        rw [position_createRecord_other (s := s1) hne] at hother
        exact hother
      · rw [settle_port]
        exact or_and_self_byte _ 0x02#8

end Sys2Proof.Machine
end

section
/-! Proof of O45: what a position makes of an IDENT reply and of an image read (R58..R61, R66, R73). -/

namespace Sys2Proof.Machine

variable {s t : State} {p q n c : Nat} {d : Identity} {h : Handle} {r : Record}

/-! ### Profiles by type, records by serial (R34, R1) -/

theorem codeOfType_eq_some {typeCode : Nat} : s.codeOfType typeCode = some c ↔
    within 16 c = true ∧ (∃ pf, s.profileAt c = some pf ∧ pf.typeCode = typeCode) ∧
      ∀ d pf, within 16 d = true → d < c → s.profileAt d = some pf → pf.typeCode ≠ typeCode := by
  rw [State.codeOfType, find?_places]
  simp only [Option.any_eq_true, beq_iff_eq, Option.any_eq_false, beq_eq_false_iff_ne]
  constructor
  · rintro ⟨⟨pf, hpf, ht⟩, hc, hlow⟩
    exact ⟨hc, ⟨pf, hpf, ht⟩, fun d pf' hd hlt hpf' => hlow d hd hlt pf' hpf'⟩
  · rintro ⟨hc, ⟨pf, hpf, ht⟩, hlow⟩
    exact ⟨⟨pf, hpf, ht⟩, hc, fun d hd hlt pf' hpf' => hlow d pf' hd hlt hpf'⟩

theorem recordOf_eq (serial : List Byte) :
    s.recordOf serial = s.records.find? (fun r => decide (r.serial = serial)) := by
  simp only [State.recordOf, beq_eq_decide]

/-! ### The decision on an IDENT reply (R59) -/

theorem decideIdent_unknown (hno : ∀ pf, (s.codeOfType d.typeCode).bind s.profileAt = some pf →
    pf.imageLength ≠ d.wordCount) :
    s.decideIdent p d = (s.moveTo p .unknownType).updPosition p (fun x => { x with phase := none }) := by
  unfold State.decideIdent
  split
  · rfl
  next pf hpf => exact if_pos (hno pf hpf)

section
variable {pf : Profile} (hpf : (s.codeOfType d.typeCode).bind s.profileAt = some pf) (hl : pf.imageLength = d.wordCount)
include hpf hl

theorem decideIdent_new (hr : s.recordOf d.serial = none) : s.decideIdent p d = s.enterImage p := by
  simp only [State.decideIdent, hpf, hr]
  exact if_neg (not_not.mpr hl)

theorem decideIdent_elsewhere (hr : s.recordOf d.serial = some r) (hq : r.position = some q) (hne : q ≠ p) :
    s.decideIdent p d = s.toConflict p := by
  simp only [State.decideIdent, hpf, hr, hq]
  exact (if_neg (not_not.mpr hl)).trans (if_neg hne)

theorem decideIdent_orphaned (hr : s.recordOf d.serial = some r) (hq : r.position = none) : s.decideIdent p d =
    if (s.profileAt r.profile).map (·.typeCode) = some d.typeCode then s.send (.rebind p (s.handleOf r))
    else s.toConflict p := by
  simp only [State.decideIdent, hpf, hr, hq]
  exact if_neg (not_not.mpr hl)

end

/-- R58, R59: the reply is stored and, without a held binding, decided. -/
theorem identReplied_free (hh : (s.position p).held = false) :
    s.identReplied p d = (s.updPosition p (fun x => { x with identity := some d })).decideIdent p d := by
  simp only [State.identReplied, hh]

theorem identReplied_confirmed (hh : (s.position p).held = true) (hb : (s.position p).bound = some h)
    (hn : s.named h = some r) (hc : s.confirms d r = true) : s.identReplied p d =
      ((s.updPosition p (fun x => { x with identity := some d })).toBound p).resumeWrite h.slot := by
  simp only [State.identReplied, hh, hb, hn]
  exact if_pos hc

theorem identReplied_released (hh : (s.position p).held = true) (hb : (s.position p).bound = some h)
    (hno : ∀ r, s.named h = some r → s.confirms d r = false) : s.identReplied p d =
      ((s.updPosition p (fun x => { x with identity := some d })).releaseHeld p h).decideIdent p d := by
  simp only [State.identReplied, hh, hb]
  split
  next r hn => exact if_neg (by simp [hno r hn])
  · rfl

theorem confirms_iff (d : Identity) (r : Record) : s.confirms d r = true ↔
    r.serial = d.serial ∧ (s.profileAt r.profile).map (·.typeCode) = some d.typeCode := by
  simp [State.confirms]

/-- R73: only a position of the part holds a binding. -/
theorem place_of_held (hh : (s.position p).held = true) : place s.positions p = some (s.position p) := by
  unfold State.position at hh ⊢
  cases hx : place s.positions p with
  | none =>
    rw [hx] at hh
    cases hh
  | some x => rfl

theorem position_updPosition_of_place {f : Position → Position} (hx : place s.positions p = some (s.position p)) :
    (s.updPosition p f).position p = f (s.position p) := by
  show (place (updPlace s.positions p f) p).getD _ = _
  rw [place_updPlace_same, hx]
  rfl

/-! ### A held binding released (R73) -/

theorem aside_spoilAttempt (s : State) (n : Nat) : (s.spoilAttempt n).aside = s.aside := by
  unfold State.spoilAttempt
  dsimp only
  split
  · exact aside_updRecord s n _
  · split
    · exact (aside_reject _ n _).trans (aside_updRecord s n _)
    · exact (aside_evaluate _ n).trans ((aside_moveRecord _ n _).trans (aside_updRecord s n _))

theorem aside_settleRecord (s : State) (n : Nat) (ph : Option AbandonPhase) :
    (s.settleRecord n ph).aside = s.aside := by
  cases hr : s.recordAt n with
  | none => simp only [State.settleRecord, hr]
  | some r =>
    by_cases h1 : r.state = .writing
    · rw [settleRecord_writing hr h1]
      split
      · exact aside_reject s n _
      · exact aside_moveRecord s n _
    · by_cases h2 : r.state = .sealing
      · rw [settleRecord_sealing hr h2]
        split
        · exact aside_spoilAttempt s n
        · exact (aside_evaluate _ n).trans (aside_moveRecord s n _)
      · rw [settleRecord_kept hr h1 h2]

/-- R10: an orphan claim leaves the identity of its position. -/
theorem identity_takeOrphan (ph : Option AbandonPhase) (hx : place s.positions p = some (s.position p)) :
    ((s.takeOrphan p h ph).position p).identity = (s.position p).identity := by
  cases hn : s.named h with
  | none => rw [takeOrphan_none hn]
  | some r =>
    rw [takeOrphan_named hn]
    split
    · rw [unbind_eq_freed]
      have hstand := position_of_aside (aside_settleRecord (s.freed p h.slot) h.slot ph) p
      have hsettled := congrArg Position.identity hstand
      have hfreed := congrArg Position.identity (position_updPosition_of_place
        (s := (s.discardOutcomes p).updRecord h.slot (fun r => { r with position := none }))
        (f := fun x => { x with
          bound := none, item := x.item.filter (fun i => i.granted || !i.work.isForRecord), given := false }) hx)
      exact hsettled.trans hfreed
    · rfl

/-- R73: the position's entry of the IDENT reply survives the release of its held binding. -/
theorem identReplied_after_release (hs : s.Shaped) (hp : isPosition p = true)
    (hi : (s.position p).identity = some d) :
    (s.updPosition p (fun x => { x with bound := none, held := false })).identReplied p d =
      (s.updPosition p (fun x => { x with bound := none, held := false })).decideIdent p d := by
  have hpos := State.position_updPosition_eq (s := s) (fun x => { x with bound := none, held := false }) hs hp
  have hheld := congrArg Position.held hpos
  have hident := (congrArg Position.identity hpos).trans hi
  rw [identReplied_free hheld, State.updPosition_same]
  rw [← hident]

/-! ### The image read (R60) -/

theorem imageRead_matched {pf : Profile} (words : List Word) (hi : (s.position p).identity = some d)
    (hpf : (s.codeOfType d.typeCode).bind s.profileAt = some pf) (hl : pf.imageLength = d.wordCount) :
    s.imageRead p words = (s.updPosition p (fun x =>
      { x with identity := some { d with image := some (unpack pf.layout pf.trimSet words) } })).send
        (.creation p { d with image := some (unpack pf.layout pf.trimSet words) }
          (unpack pf.layout pf.trimSet words)) := by
  simp only [State.imageRead, hi, hpf]
  exact if_pos hl

theorem imageRead_unmatched (words : List Word) (hi : (s.position p).identity = some d)
    (hno : ∀ pf, (s.codeOfType d.typeCode).bind s.profileAt = some pf → pf.imageLength ≠ d.wordCount) :
    s.imageRead p words =
      (s.updPosition p (fun x => { x with phase := some .ident })).queueItem p .ident := by
  simp only [State.imageRead, hi]
  split
  · rfl
  next pf hpf => exact if_neg (hno pf hpf)

theorem position_self (hs : s.Shaped) (hp : isPosition p = true) : s.positions[p - 1]? = some (s.position p) := by
  obtain ⟨h1, h48⟩ := isPosition_iff.mp hp
  obtain ⟨m, rfl⟩ := Nat.exists_eq_add_of_le' h1
  obtain ⟨x, hx⟩ := exists_place s.positions h1 (hs.1.symm ▸ h48)
  show place s.positions (m + 1) = _
  rw [State.position, hx]
  rfl

/-- Settles O45. -/
theorem identificationDecides : Obligations.IdentificationDecides := by
  refine ⟨fun s p hp hs f => ⟨position_self hs hp, State.position_updPosition_eq f hs hp,
      fun q hq hne => State.position_updPosition_other s f hne, rfl⟩,
    fun s p => ⟨State.moveTo_eq s p, State.enterIdentifying_eq s p, State.enterImage_eq s p, State.toConflict_eq s p,
      State.toWaiting_eq s p, State.toBound_eq s p, fun c => rfl⟩,
    fun s typeCode c serial => ⟨codeOfType_eq_some, recordOf_eq serial⟩, fun s p d words => ?_⟩
  intro known unknown profile sameType
  have hprofile : (known.codeOfType d.typeCode).bind known.profileAt = profile := rfl
  refine ⟨fun hfree => ?free, fun h r hh hb hn hser hsame => ?confirmed, fun h hp hs hh hb hno => ?released,
    fun hi => ⟨fun pf hpf hl => imageRead_matched words hi hpf hl, fun hno => ?_⟩⟩
  case free =>
    have hreply : s.identReplied p d = known.decideIdent p d := identReplied_free hfree
    refine ⟨fun hnone => ?_, fun pf hpf hl => ?_, fun pf hpf hl => ?_⟩
    · exact hreply.trans (decideIdent_unknown (s := known) fun pf hpf => by
        rw [hprofile, hnone] at hpf
        cases hpf)
    · refine hreply.trans (decideIdent_unknown (s := known) fun pf' hpf' => ?_)
      rw [hprofile, hpf] at hpf'
      cases hpf'
      exact hl
    · refine ⟨fun r q hr hpos hne => ?_, fun r hr hpos hno => ?_, fun r hr hpos hsame => ?_, fun hr => ?_⟩
      · exact hreply.trans (decideIdent_elsewhere (s := known) hpf hl hr hpos hne)
      · exact hreply.trans ((decideIdent_orphaned (s := known) hpf hl hr hpos).trans (if_neg hno))
      · exact hreply.trans ((decideIdent_orphaned (s := known) hpf hl hr hpos).trans (if_pos hsame))
      · exact hreply.trans (decideIdent_new (s := known) hpf hl hr)
  case confirmed =>
    intro back
    have hreply : s.identReplied p d = back.resumeWrite h.slot :=
      identReplied_confirmed hh hb hn ((confirms_iff d r).mpr ⟨hser, hsame⟩)
    have hback : back.recordAt h.slot = some r := by
      have hrec : back.records = s.records := by
        show (known.toBound p).records = _
        rw [State.toBound_eq, positionBecomes_records]
        rfl
      rw [State.recordAt_congr hrec, State.recordAt_named hn]
    refine ⟨hreply, fun hst => ?_, fun hst hpos hitem => ?_⟩
    · rw [hreply, resumeWrite_some hback, if_neg hst]
    · have hknown : known.position p = { s.position p with identity := some d } :=
        position_updPosition_of_place (place_of_held hh)
      have hplace : place known.positions p = some (known.position p) := place_of_held (by rw [hknown]; exact hh)
      have hpos' : back.position p = { known.position p with
          state := .bound, phase := none, identity := none, held := false } := by
        show (known.toBound p).position p = _
        rw [State.toBound_eq, State.positionBecomes_eq, State.position_raiseIf]
        exact position_updPosition_of_place hplace
      have hstate := congrArg Position.state hpos'
      have hitem' : (back.position p).item = none := by
        rw [hpos', hknown]
        exact hitem
      rw [hreply, resumeWrite_some hback, if_pos hst, State.giveItem_bound _ hpos hstate hitem', State.queueItem_eq]
  case released =>
    have hreply := identReplied_released (s := s) (p := p) (d := d) hh hb fun r hn => by
      rw [← Bool.not_eq_true, confirms_iff]
      exact hno r hn
    have hknown : known.position p = { s.position p with identity := some d } :=
      State.position_updPosition_eq (s := s) (fun x => { x with identity := some d }) hs hp
    have hplace : place known.positions p = some (known.position p) := place_of_held (by rw [hknown]; exact hh)
    have hidentity : ((known.takeOrphan p h none).position p).identity = some d :=
      (identity_takeOrphan (s := known) none hplace).trans (congrArg Position.identity hknown)
    have hshaped : (known.takeOrphan p h none).Shaped := still_shaped (still_takeOrphan known p h none) (still_shaped (still_updPosition s p _) hs)
    exact ⟨_, exec_orphanClaim_first none known hp, hreply.trans (identReplied_after_release hshaped hp hidentity).symm⟩
  · have hread := imageRead_unmatched words hi hno
    rw [State.queueItem_eq, State.updPosition_updPosition] at hread
    exact hread

end Sys2Proof.Machine
end

section
/-! Proof of O21: malformed messages (R198, R201, R213). -/

namespace Sys2Proof.Machine

variable {s : State} {m : Message} {k : RequestKind} {args : List Byte} {tag : BitVec 16} {kind : Byte}

/-! ### The request kinds (R213) -/

theorem requestKindOf_code (k : RequestKind) : requestKindOf k.code = some k := by cases k <;> rfl

theorem requestKindOf_eq_some : requestKindOf kind = some k ↔ k.code = kind := by
  constructor
  · intro h
    simpa using List.find?_some h
  · rintro rfl
    exact requestKindOf_code k

theorem requestKindOf_eq_none : requestKindOf kind = none ↔ ∀ k : RequestKind, k.code ≠ kind := by
  rw [Option.eq_none_iff_forall_ne_some]
  exact forall_congr' fun k => not_congr requestKindOf_eq_some

/-! ### The envelope (R198) -/

/-- The tag a message's answer echoes. -/
def Message.echoTag (m : Message) : BitVec 16 := if 3 ≤ m.bytes.length then BitVec.ofNat 16 (uField m.bytes 0 2) else 0#16

/-- The kind byte a message's answer echoes. -/
def Message.echoKind (m : Message) : Byte := if 3 ≤ m.bytes.length then BitVec.ofNat 8 (uField m.bytes 2 1) else 0#8

theorem Message.echoTag_eq (m : Message) :
    m.echoTag = if m.bytes.length < 3 then 0 else BitVec.ofNat 16 (leNat (m.bytes.take 2)) := by
  unfold Message.echoTag
  by_cases h : m.bytes.length < 3
  · rw [if_pos h, if_neg (Nat.not_le.mpr h)]
    rfl
  · rw [if_neg h, if_pos (Nat.not_lt.mp h)]
    rfl

theorem Message.echoKind_eq (m : Message) : m.echoKind = if m.bytes.length < 3 then 0 else (m.bytes.drop 2).headD 0 := by
  unfold Message.echoKind
  by_cases h : m.bytes.length < 3
  · rw [if_pos h, if_neg (Nat.not_le.mpr h)]
    rfl
  · rw [if_neg h, if_pos (Nat.not_lt.mp h)]
    have hbyte : uField m.bytes 2 1 = uField (m.bytes.drop 2) 0 1 := (uField_drop m.bytes 2 0 1).symm
    rw [hbyte]
    cases hd : m.bytes.drop 2 with
    | nil =>
      have := List.drop_eq_nil_iff.mp hd
      omega
    | cons b bs => rw [uField_zero_cons, ofNat_toNat_byte, List.headD_cons]

theorem openMessage_bad (h : m.bytes.length < 5 ∨ m.overlong = true ∨ uField m.bytes 3 2 ≠ (m.bytes.drop 5).length) :
    openMessage m = .malformed m.echoTag m.echoKind := if_pos h

theorem openMessage_good (h : ¬ (m.bytes.length < 5 ∨ m.overlong = true ∨ uField m.bytes 3 2 ≠ (m.bytes.drop 5).length)) :
    openMessage m = match requestKindOf m.echoKind with
      | none => .malformed m.echoTag m.echoKind
      | some k =>
        if (m.bytes.drop 5).length = k.argLength (m.bytes.drop 5) then .request m.echoTag k (m.bytes.drop 5)
        else .malformed m.echoTag m.echoKind := if_neg h

/-! ### A message in its envelope ([PORT:FMT:ENV]) -/

/-- The message of a request. -/
def Message.of (tag : BitVec 16) (kind : Byte) (args : List Byte) : Message :=
  ⟨leBytes 2 tag.toNat ++ [kind] ++ leBytes 2 args.length ++ args, false⟩

theorem Message.bytes_of (tag : BitVec 16) (kind : Byte) (args : List Byte) : (Message.of tag kind args).bytes =
    leBytes 2 tag.toNat ++ (kind :: (leBytes 2 args.length ++ args)) := by
  simp only [Message.of, List.append_assoc, List.cons_append, List.nil_append]

theorem Message.length_of (tag : BitVec 16) (kind : Byte) (args : List Byte) :
    (Message.of tag kind args).bytes.length = args.length + 5 := by
  rw [Message.bytes_of]
  simp only [List.length_append, List.length_cons, leBytes_length]
  omega

theorem Message.echoTag_of (tag : BitVec 16) (kind : Byte) (args : List Byte) : (Message.of tag kind args).echoTag = tag := by
  unfold Message.echoTag
  rw [if_pos (by rw [Message.length_of]; omega), Message.bytes_of, uField_leBytes (k := 2) tag.isLt]
  simp

theorem Message.echoKind_of (tag : BitVec 16) (kind : Byte) (args : List Byte) : (Message.of tag kind args).echoKind = kind := by
  unfold Message.echoKind
  rw [if_pos (by rw [Message.length_of]; omega), Message.bytes_of,
    show uField _ 2 1 = _ from uField_append 0 1 (leBytes_length 2 _), uField_zero_cons, ofNat_toNat_byte]

theorem Message.args_of (tag : BitVec 16) (kind : Byte) (args : List Byte) :
    (Message.of tag kind args).bytes.drop 5 = args := by
  rw [Message.bytes_of]
  rfl

theorem Message.lengthField_of (tag : BitVec 16) (kind : Byte) (h : args.length < 65536) :
    uField (Message.of tag kind args).bytes 3 2 = args.length := by
  rw [Message.bytes_of, show uField _ 3 2 = _ from uField_append 1 2 (leBytes_length 2 _), uField_cons,
    uField_leBytes (k := 2) h]

theorem openMessage_of (h : args.length < 65536) : openMessage (Message.of tag k.code args) =
    if args.length = k.argLength args then .request tag k args else .malformed tag k.code := by
  rw [openMessage_good, Message.echoKind_of, Message.args_of, Message.echoTag_of]
  · simp only [requestKindOf_code]
  · rw [Message.lengthField_of tag k.code h, Message.length_of, Message.args_of]
    rintro (h1 | h1 | h1)
    · omega
    · cases h1
    · exact h1 rfl

/-! ### MALFORMED_REQUEST (R198) -/

theorem mayTake_iff : s.mayTake = true ↔ s.port.answers.length < 4 ∧ s.port.restartPending = false := by
  simp only [State.mayTake, Bool.and_eq_true, decide_eq_true_eq, Bool.not_eq_true']
  exact Iff.rfl

theorem takeMessage_cons {rest : List Message} (hr : s.port.requests = m :: rest) (hm : s.mayTake = true) :
    s.takeMessage = some (m, s.dequeued rest) := by
  simp only [State.takeMessage, hr]
  exact if_pos hm

theorem takeMessage_none (h : s.port.requests = [] ∨ s.mayTake = false) : s.takeMessage = none := by
  unfold State.takeMessage
  split
  · rfl
  next m rest hr => exact if_neg (by simp [h.resolve_left (by simp [hr])])

theorem rejectMalformed_none (h : s.takeMessage = none) : s.rejectMalformed = s := by
  simp only [State.rejectMalformed, h]

theorem rejectMalformed_malformed {t : State} (h : s.takeMessage = some (m, t)) (ho : openMessage m = .malformed tag kind) :
    s.rejectMalformed = t.putAnswer { tag := tag, kind := kind, code := .malformed, body := [] } := by
  simp only [State.rejectMalformed, h, ho]

theorem rejectMalformed_request {t : State} (h : s.takeMessage = some (m, t)) (ho : openMessage m = .request tag k args) :
    s.rejectMalformed = s := by
  simp only [State.rejectMalformed, h, ho]

/-- Settles O21. -/
theorem malformedMessagesAreAnsweredMalformed : Obligations.MalformedMessagesAreAnsweredMalformed := by
  refine ⟨fun k => by cases k <;> rfl, fun k args => by cases k <;> rfl, fun n bs => ⟨rfl, rfl⟩, fun a => ?wire,
    fun m => ?opened, fun tag k args hlen h => (openMessage_of h).trans (if_pos hlen),
    fun tag k args hlen h => (openMessage_of h).trans (if_neg hlen), fun s m rest tag kind hr ha hp ho => ?_,
    fun s hno => ?_, fun s m rest tag k args hr ho => ?_⟩
  case wire =>
    intro code
    have hcode : BitVec.ofNat 8 a.code.value = code := by
      unfold code
      cases a.code <;> rfl
    unfold Answer.wire
    rw [hcode]
    rfl
  case opened =>
    intro args tag kind short lengthDiffers noSuchKind wrongArguments malformed
    have htag : m.echoTag = tag := m.echoTag_eq
    have hkind : m.echoKind = kind := m.echoKind_eq
    have hdiffers : (uField m.bytes 3 2 ≠ (m.bytes.drop 5).length) ↔ lengthDiffers := by
      rw [List.length_drop]
      exact Iff.rfl
    by_cases hbad : m.bytes.length < 5 ∨ m.overlong = true ∨ uField m.bytes 3 2 ≠ (m.bytes.drop 5).length
    · have hmal : malformed := by
        rcases hbad with h | h | h
        · exact .inl h
        · exact .inr (.inl h)
        · exact .inr (.inr (.inl (hdiffers.mp h)))
      exact ⟨fun _ => htag ▸ hkind ▸ openMessage_bad hbad, fun h => absurd hmal h⟩
    · have hopen := openMessage_good hbad
      rw [htag, hkind] at hopen
      have henvelope : malformed ↔ noSuchKind ∨ wrongArguments := by
        refine ⟨fun h => ?_, fun h => .inr (.inr (.inr h))⟩
        rcases h with h | h | h | h
        · exact absurd (.inl h) hbad
        · exact absurd (.inr (.inl h)) hbad
        · exact absurd (.inr (.inr (hdiffers.mpr h))) hbad
        · exact h
      rw [henvelope]
      cases hk : requestKindOf kind with
      | none =>
        simp only [hk] at hopen
        exact ⟨fun _ => hopen, fun h => absurd (.inl (requestKindOf_eq_none.mp hk)) h⟩
      | some k =>
        simp only [hk] at hopen
        have hcode := requestKindOf_eq_some.mp hk
        by_cases hlen : args.length = k.argLength args
        · refine ⟨fun h => ?_, fun _ => ⟨k, hcode, hopen.trans (if_pos hlen)⟩⟩
          rcases h with h | ⟨k', hk', hne⟩
          · exact absurd hcode (h k)
          · have : k' = k := Option.some.inj ((requestKindOf_eq_some.mpr hk').symm.trans hk)
            exact absurd hlen (this ▸ hne)
        · exact ⟨fun _ => hopen.trans (if_neg hlen), fun h => absurd (.inr ⟨k, hcode, hlen⟩) h⟩
  · exact congrArg Host.Outcome.next
      (rejectMalformed_malformed (takeMessage_cons hr (mayTake_iff.mpr ⟨ha, hp⟩)) ho)
  · have hnone : s.takeMessage = none := takeMessage_none (by
      rcases hno with h | h | h
      · exact .inl h
      · refine .inr (Bool.eq_false_iff.mpr fun hm => ?_)
        exact absurd (mayTake_iff.mp hm).1 (Nat.not_lt.mpr h)
      · refine .inr (Bool.eq_false_iff.mpr fun hm => ?_)
        have := (mayTake_iff.mp hm).2
        rw [h] at this
        cases this)
    exact congrArg Host.Outcome.next (rejectMalformed_none hnone)
  · cases hm : s.mayTake with
    | true => exact congrArg Host.Outcome.next (rejectMalformed_request (takeMessage_cons hr hm) ho)
    | false => exact congrArg Host.Outcome.next (rejectMalformed_none (takeMessage_none (.inr hm)))

end Sys2Proof.Machine
end

section
/-! Proof of O44: presence, debounce and removal (R8, R54..R57, R65, R174, R175). -/

namespace Sys2Proof.Machine

variable {s t : State} {p q l : Nat} {h : Handle} {r : Record}

/-! ### What an arbitration leaves of a position without an item (R152, R154) -/

theorem requesting_of_no_item (hi : (s.position p).item = none) : s.requesting p = false := by
  simp only [State.requesting, hi]

/-- R154: an arbitration grants nothing, or grants a requesting position. -/
theorem arbitrate_cases (s : State) (l : Nat) : s.arbitrate l = s ∨
    ∃ q, s.requesting q = true ∧ (s.lane l).state = .idle ∧ s.arbitrate l = s.grant l q := by
  unfold State.arbitrate
  split
  next hst =>
    split
    · exact .inl rfl
    next q hq => exact .inr ⟨q, List.find?_some hq, hst, rfl⟩
  all_goals exact .inl rfl

theorem position_sendTurn_other (hq : q ≠ p) : (s.sendTurn l p).position q = s.position q := by
  unfold State.sendTurn
  split
  · rfl
  · exact State.position_updPosition_other (s.updLane l _) _ hq

theorem position_grant_other (hq : q ≠ p) : (s.grant l p).position q = s.position q := by
  unfold State.grant
  dsimp only
  split
  · exact State.position_updPosition_other (s.updLane l _) _ hq
  · exact (position_sendTurn_other hq).trans (State.position_updPosition_other (s.updLane l _) _ hq)

theorem position_arbitrate_of_no_item (hi : (s.position p).item = none) : (s.arbitrate l).position p = s.position p := by
  obtain h | ⟨q, hq, -, h⟩ := arbitrate_cases s l
  · rw [h]
  · rw [h]
    refine position_grant_other fun he => ?_
    rw [he] at hi
    rw [requesting_of_no_item hi] at hq
    cases hq

/-- R152: a position without a work item is left as it is by the arbitration of every lane. -/
theorem position_settle_of_no_item (hi : (s.position p).item = none) : s.settle.position p = s.position p := by
  have step {t : State} (m : Nat) (ht : t.position p = s.position p) : (t.arbitrate m).position p = s.position p :=
    (position_arbitrate_of_no_item (ht ▸ hi)).trans ht
  exact step 6 (step 5 (step 4 (step 3 (step 2 (step 1 rfl)))))

theorem laneState_grant_cases (s : State) (l p m : Nat) :
    ((s.grant l p).lane m).state = (s.lane m).state ∨ ((s.grant l p).lane m).state = .granted p := by
  by_cases hm : m = l
  · subst hm
    have hlane : ((s.grant m p).lane m).state = ((s.updLane m (fun x => { x with
        state := .granted p, pointer := p, mark := x.mark + 1#8, budget := 0, cap := s.port.bench.burstCap
        frames := [] })).lane m).state := by
      unfold State.grant
      dsimp only
      split
      · rfl
      · exact laneState_sendTurn _ m p m
    rw [hlane]
    unfold State.lane State.updLane
    rw [place_updPlace_same]
    cases place s.lanes m with
    | none => exact .inl rfl
    | some x => exact .inr rfl
  · rw [lane_grant_other s p hm]
    exact .inl rfl

/-- R152: no lane takes up the turn of a position without a work item. -/
theorem laneState_arbitrate_of_no_item (m : Nat) (hi : (s.position p).item = none) :
    ((s.arbitrate m).lane l).state = .granted p ∨ ((s.arbitrate m).lane l).state = .awaitReply p →
      (s.lane l).state = .granted p ∨ (s.lane l).state = .awaitReply p := by
  obtain h | ⟨q, hq, -, h⟩ := arbitrate_cases s m
  · rw [h]
    exact id
  · rw [h]
    obtain hs | hs := laneState_grant_cases s m q l
    · rw [hs]
      exact id
    · rw [hs]
      rintro (he | he)
      · cases he
        rw [requesting_of_no_item hi] at hq
        cases hq
      · cases he

theorem laneState_settle_of_no_item (hi : (s.position p).item = none) :
    (s.settle.lane l).state = .granted p ∨ (s.settle.lane l).state = .awaitReply p →
      (s.lane l).state = .granted p ∨ (s.lane l).state = .awaitReply p := by
  have item {t : State} (m : Nat) (ht : (t.position p).item = none) : ((t.arbitrate m).position p).item = none :=
    (congrArg Position.item (position_arbitrate_of_no_item ht)).trans ht
  have h1 := item 1 hi
  have h2 := item 2 h1
  have h3 := item 3 h2
  have h4 := item 4 h3
  have h5 := item 5 h4
  exact fun h => laneState_arbitrate_of_no_item 1 hi (laneState_arbitrate_of_no_item 2 h1
    (laneState_arbitrate_of_no_item 3 h2 (laneState_arbitrate_of_no_item 4 h3 (laneState_arbitrate_of_no_item 5 h4
      (laneState_arbitrate_of_no_item 6 h5 h)))))

theorem mem_inFlight_arbitrate_of_mem {c : Claim} (m : Nat) (hc : c ∈ s.inFlight) : c ∈ (s.arbitrate m).inFlight := by
  obtain h | ⟨q, -, -, h⟩ := arbitrate_cases s m
  · rw [h]
    exact hc
  · rw [h]
    unfold State.grant
    dsimp only
    split
    · exact List.mem_append_left _ hc
    · rw [inFlight_sendTurn]
      exact hc

theorem mem_inFlight_settle_of_mem {c : Claim} (hc : c ∈ s.inFlight) : c ∈ s.settle.inFlight :=
  mem_inFlight_arbitrate_of_mem 6 (mem_inFlight_arbitrate_of_mem 5 (mem_inFlight_arbitrate_of_mem 4
    (mem_inFlight_arbitrate_of_mem 3 (mem_inFlight_arbitrate_of_mem 2 (mem_inFlight_arbitrate_of_mem 1 hc)))))

/-! ### Samples and debounce (R54..R56) -/

theorem exec_presenceChange (high : Bool) (hp : isPosition p = true) :
    exec (.presenceChange p high) s = .next (s.presence p high) := onPosition_next _ hp

theorem exec_debounceExpiry (hp : isPosition p = true) : exec (.debounceExpiry p) s = .next (s.debounced p) :=
  onPosition_next _ hp

theorem senseOf_eq (pol : Polarity) (high : Bool) : senseOf pol high = if pol = .activeHigh then high else !high := by
  cases pol <;> rfl

theorem moveTo_same (h : (s.position p).state = st) : s.moveTo p st = s := by
  have hsame : s.updPosition p (fun x => { x with state := st }) = s := State.updPosition_same (by rw [← h])
  rw [State.moveTo, hsame, h]
  simp [State.raiseIf]

theorem sample_same (h : senseOf s.port.bench.polarity (s.position p).pin = (s.position p).raw) : s.sample p = s :=
  if_pos h

theorem sample_changed (h : senseOf s.port.bench.polarity (s.position p).pin ≠ (s.position p).raw) : s.sample p =
    (s.updPosition p (fun x => { x with
      raw := senseOf s.port.bench.polarity (s.position p).pin
      debounce := debounceAfter (senseOf s.port.bench.polarity (s.position p).pin) x.taken s.port.bench.debounce
      })).moveTo p (stateAfterSense (senseOf s.port.bench.polarity (s.position p).pin) (s.position p).state) :=
  if_neg h

theorem stateAfterSense_settles {raw : Bool} {st : PositionState} (h : st = .empty ∧ raw = true) :
    stateAfterSense raw st = .settling := by
  obtain ⟨rfl, rfl⟩ := h
  rfl

theorem stateAfterSense_empties {raw : Bool} {st : PositionState} (h : st = .settling ∧ raw = false) :
    stateAfterSense raw st = .empty := by
  obtain ⟨rfl, rfl⟩ := h
  rfl

theorem stateAfterSense_stays {raw : Bool} {st : PositionState} (h1 : ¬ (st = .empty ∧ raw = true))
    (h2 : ¬ (st = .settling ∧ raw = false)) : stateAfterSense raw st = st := by
  cases st <;> cases raw <;> simp_all [stateAfterSense]

theorem debounced_none (h : (s.position p).debounce = none) : s.debounced p = s := by
  simp only [State.debounced, h]

/-- R55: the part as the debounce leaves it before the position acts on it. -/
def State.senseTaken (p : Nat) (s : State) : State :=
  s.updPosition p (fun x => { x with taken := x.raw, debounce := none })

theorem debounced_settling (h : (s.position p).debounce ≠ none) (hst : (s.position p).state = .settling)
    (hr : (s.position p).raw = true) : s.debounced p = ((s.senseTaken p).enterIdentifying p).settle := by
  obtain ⟨n, hn⟩ := Option.ne_none_iff_exists'.mp h
  simp only [State.debounced, hn, hst, hr]
  exact if_pos trivial

theorem debounced_empty (h : (s.position p).debounce ≠ none) (hst : (s.position p).state = .empty) :
    s.debounced p = s.senseTaken p := by
  obtain ⟨n, hn⟩ := Option.ne_none_iff_exists'.mp h
  simp only [State.debounced, hn, hst]
  rfl

theorem debounced_settling_low (h : (s.position p).debounce ≠ none) (hst : (s.position p).state = .settling)
    (hr : (s.position p).raw = false) : s.debounced p = s.senseTaken p := by
  obtain ⟨n, hn⟩ := Option.ne_none_iff_exists'.mp h
  simp only [State.debounced, hn, hst, hr]
  exact if_neg Bool.false_ne_true

/-- R57: a position that is not EMPTY or SETTLING is removed where its input is taken low. -/
theorem debounced_occupied (h : (s.position p).debounce ≠ none) (h1 : (s.position p).state ≠ .empty)
    (h2 : (s.position p).state ≠ .settling) : s.debounced p =
      if (s.position p).raw = true then s.senseTaken p else ((s.senseTaken p).removal p).settle := by
  obtain ⟨n, hn⟩ := Option.ne_none_iff_exists'.mp h
  unfold State.debounced State.senseTaken
  simp only [hn]
  split
  next hs => exact absurd hs h2
  next hs => exact absurd hs h1
  all_goals rfl

/-! ### Removal (R57) -/

/-- R57: the claims that a removal leaves on their way. -/
def State.afterRemoval (p : Nat) (s : State) : List Claim :=
  s.inFlight.filter (fun c => !withdrawnByRemoval p c) ++ removalReport p (s.position p).cmp ++
    orphanOnRemoval p (s.position p) (s.writePhase p)

theorem removal_eq (s : State) (p : Nat) : s.removal p =
    ({ (s.orphanBound p).dropItem p with inFlight := s.afterRemoval p } : State).positionBecomes p (fun x => { x with
      state := .empty, cmp := Comparator.idle, identity := none, bound := none, held := false, phase := none }) :=
  State.moveTo_updPosition _ p .empty _ fun _ => rfl

/-- R8: the records alone are touched where a removal orphans. -/
theorem orphanBound_frame (s : State) (p : Nat) : s.orphanBound p = { s with records := (s.orphanBound p).records } := by
  unfold State.orphanBound
  split <;> rfl

/-- R57: what a removal leaves of the rest. -/
theorem removal_frame (s : State) (p : Nat) : s.removal p =
    { s with
      records := (s.orphanBound p).records, lanes := ((s.orphanBound p).dropItem p).lanes
      inFlight := s.afterRemoval p, positions := (s.removal p).positions, port := (s.removal p).port } := by
  rw [removal_eq, State.positionBecomes_frame, dropItem_frame, orphanBound_frame]
  rfl

theorem orphanBound_records (h : Handle) (r : Record) (hb : (s.position p).bound = some h) (hn : s.named h = some r) :
    (s.orphanBound p).records = s.records.map (fun x => if x.slot = h.slot then { x with position := none } else x) := by
  have hslot : r.slot = h.slot := (State.recordAt_mem (State.recordAt_named hn)).2
  have : s.orphanBound p = s.updRecord r.slot (fun r => { r with position := none }) := by
    simp only [State.orphanBound, hb, Option.bind_some, hn]
  rw [this, hslot]
  rfl

theorem orphanBound_none (h : (s.position p).bound.bind s.named = none) : s.orphanBound p = s := by
  simp only [State.orphanBound, h]

theorem position_dropItem (s : State) (p q : Nat) :
    (s.dropItem p).position q = (s.updPosition p (fun x => { x with item := none })).position q := by
  rw [dropItem_frame]
  rfl

theorem position_removal (hs : s.Shaped) (hp : isPosition p = true) : (s.removal p).position p = { s.position p with
    item := none, state := .empty, cmp := Comparator.idle, identity := none, bound := none, held := false
    phase := none } := by
  have hs1 : (s.orphanBound p).Shaped := by rw [orphanBound_frame]; exact hs
  have hs2 : ({ (s.orphanBound p).dropItem p with inFlight := s.afterRemoval p } : State).Shaped :=
    still_shaped (still_dropItem _ p) hs1
  have hpos : ((s.orphanBound p).dropItem p).position p = { s.position p with item := none } := by
    rw [position_dropItem, State.position_updPosition_eq _ hs1 hp, orphanBound_frame]
    rfl
  rw [removal_eq, State.position_positionBecomes_same _ hs2 hp]
  show _ = _
  exact congrArg (fun x : Position => { x with
    state := .empty, cmp := Comparator.idle, identity := none, bound := none, held := false, phase := none }) hpos

theorem position_removal_other (hq : q ≠ p) : (s.removal p).position q = s.position q := by
  rw [removal_eq, State.position_positionBecomes_other _ hq]
  show ((s.orphanBound p).dropItem p).position q = _
  rw [position_dropItem, State.position_updPosition_other _ _ hq, orphanBound_frame]
  rfl

theorem lane_removal (s : State) (p l : Nat) : (s.removal p).lane l = ((s.orphanBound p).dropItem p).lane l := by
  rw [removal_frame]
  rfl

theorem port_removal (h : (s.position p).state ≠ .empty) :
    (s.removal p).port = { s.port with pendingSet := s.port.pendingSet ||| 0x04#8 } := by
  have hstate : (({ (s.orphanBound p).dropItem p with inFlight := s.afterRemoval p } : State).position p).state =
      (s.position p).state := by
    show (((s.orphanBound p).dropItem p).position p).state = _
    rw [position_dropItem, state_updPosition (f := fun x => { x with item := none }) (fun _ => rfl), orphanBound_frame]
    rfl
  have hport : ((s.orphanBound p).dropItem p).port = s.port := by
    rw [dropItem_frame, orphanBound_frame]
    rfl
  rw [removal_eq, State.positionBecomes, if_neg (by rw [hstate]; exact fun he => h he.symm)]
  show ({ ((s.orphanBound p).dropItem p).port with
    pendingSet := ((s.orphanBound p).dropItem p).port.pendingSet ||| 0x04#8 } : Port) = _
  rw [hport]

/-! ### The phase reported for a write (R65, R174, R175) -/

theorem outcomePhase_of_not_outcome {c : Claim} (h : isOutcomeOf p c = false) : outcomePhase p c = none := by
  cases c <;> simp_all [isOutcomeOf, outcomePhase]

theorem findSome_outcomePhase {c : Claim} {cs : List Claim} {ph : AbandonPhase} (hc : cs.find? (isOutcomeOf p) = some c)
    (hph : outcomePhase p c = some ph) : cs.findSome? (outcomePhase p) = some ph := by
  induction cs with
  | nil => cases hc
  | cons a cs ih =>
    cases ha : isOutcomeOf p a with
    | true =>
      rw [List.find?_cons_of_pos ha] at hc
      cases hc
      rw [List.findSome?_cons, hph]
    | false =>
      rw [List.find?_cons_of_neg (by simp [ha])] at hc
      rw [List.findSome?_cons, outcomePhase_of_not_outcome ha]
      exact ih hc

theorem writePhase_no_item (hi : (s.position p).item = none) :
    s.writePhase p = s.inFlight.findSome? (outcomePhase p) := by
  simp only [State.writePhase, hi]

theorem writePhase_congr (hi : (t.position p).item = (s.position p).item) (hc : t.inFlight = s.inFlight) :
    t.writePhase p = s.writePhase p := by
  unfold State.writePhase
  rw [hi, hc]

theorem removalReport_eq (p : Nat) (x : Comparator) :
    removalReport p x = if x.state = .armed ∨ x.state = .counting then [.finishing p] else [] := by
  simp only [removalReport, ComparatorState.tests_iff]

/-- R57: the claims that remain are none of the position's creation or rebind claims. -/
theorem not_mem_afterRemoval {c : Claim} (hc : withdrawnByRemoval p c = true) : c ∉ s.afterRemoval p := by
  intro hmem
  rcases List.mem_append.mp hmem with hmem | hmem
  · rcases List.mem_append.mp hmem with hmem | hmem
    · have := (List.mem_filter.mp hmem).2
      simp [hc] at this
    · rw [removalReport_eq] at hmem
      split at hmem
      · rw [List.mem_singleton.mp hmem] at hc
        cases hc
      · cases hmem
  · unfold orphanOnRemoval at hmem
    split at hmem
    · cases hmem
    · rw [List.mem_singleton.mp hmem] at hc
      cases hc

theorem mem_settle_removal {c : Claim} (hc : withdrawnByRemoval p c = true) (hs : ¬ c.Starts) :
    c ∉ (s.removal p).settle.inFlight := by
  intro hmem
  refine (mem_inFlight_settle hmem).elim (fun hmem => ?_) hs
  rw [removal_frame] at hmem
  exact not_mem_afterRemoval hc hmem

theorem lane_dropItem_eq (hs : s.lanes.length = 6) (hp : isPosition p = true) : (s.dropItem p).lane (laneOf p) =
    if (s.lane (laneOf p)).state = .granted p ∨ (s.lane (laneOf p)).state = .awaitReply p then
      { s.lane (laneOf p) with state := .idle, timer := none, frames := [] } else s.lane (laneOf p) := by
  split
  next h =>
    rw [dropItem_named h]
    exact lane_updLane_eq (s := s.updPosition p _) _ hs (isLane_laneOf hp)
  next h =>
    rw [dropItem_unnamed (fun h1 => h (.inl h1)) fun h2 => h (.inr h2)]
    rfl

/-- Settles O44. -/
theorem presenceDebounceAndRemoval : Obligations.PresenceDebounceAndRemoval := by
  refine ⟨fun s p high hp hs => ?sense, fun s p hp hs hd hr h1 h2 => ?removal, fun s p => ?phase⟩
  case sense =>
    intro x level raw
    have hlevel : level.position p = { x with pin := high } := State.position_updPosition_eq (s := s) _ hs hp
    have hraw : senseOf level.port.bench.polarity (level.position p).pin = raw := by
      rw [hlevel]
      exact senseOf_eq _ _
    have hheld : (level.position p).raw = x.raw := by rw [hlevel]
    have hstate : (level.position p).state = x.state := by rw [hlevel]
    refine ⟨fun h => ?_, fun hl hne => ?_, fun h => ?_, fun h => ⟨fun hst hx => ?_, fun hcase => ?_⟩⟩
    · rw [exec_presenceChange high hp]
      refine congrArg Host.Outcome.next ?_
      show (if level.sampling = true then level.sample p else level) = level
      rcases h with h | h
      · exact if_neg (by simp only [State.sampling]; exact fun hd => absurd h (of_decide_eq_true hd))
      · rw [sample_same (by rw [hraw, hheld]; exact h), ite_self]
    · intro sensed
      have hsample := sample_changed (s := level) (p := p) (by rw [hraw, hheld]; exact hne)
      rw [hraw, hstate] at hsample
      have hsensed : (sensed.position p).state = x.state :=
        (state_updPosition (s := level) (f := fun x => { x with
          raw := raw, debounce := if raw = x.taken then none else some s.port.bench.debounce }) fun _ => rfl).trans hstate
      rw [exec_presenceChange high hp]
      refine congrArg Host.Outcome.next ?_
      show (if level.sampling = true then level.sample p else level) = _
      rw [if_pos (by simp only [State.sampling]; exact decide_eq_true hl), hsample]
      by_cases hup : x.state = .empty ∧ raw = true
      · rw [if_pos hup, stateAfterSense_settles hup]
        rfl
      · rw [if_neg hup]
        by_cases hdown : x.state = .settling ∧ raw = false
        · rw [if_pos hdown, stateAfterSense_empties hdown]
          rfl
        · rw [if_neg hdown, stateAfterSense_stays hup hdown]
          exact moveTo_same hsensed
    · rw [exec_debounceExpiry hp, debounced_none h]
    · rw [exec_debounceExpiry hp, debounced_settling h hst hx]
      rfl
    · rw [exec_debounceExpiry hp]
      refine congrArg Host.Outcome.next ?_
      rcases hcase with hst | ⟨hst, hx⟩ | ⟨hst, hx⟩
      · exact debounced_empty h hst
      · exact debounced_settling_low h hst hx
      · by_cases he : x.state = .empty
        · exact debounced_empty h he
        · exact (debounced_occupied h he hst).trans (if_pos hx)
  case removal =>
    have hexec : exec (.debounceExpiry p) s = .next ((s.senseTaken p).removal p).settle := by
      rw [exec_debounceExpiry hp, debounced_occupied hd h1 h2, if_neg (by simp [hr])]
    let v := s.senseTaken p
    have hv : v.position p = { s.position p with taken := (s.position p).raw, debounce := none } :=
      State.position_updPosition_eq (s := s) _ hs hp
    have hvs : v.Shaped := still_shaped (still_updPosition s p _) hs
    have hbound : (v.position p).bound = (s.position p).bound := by rw [hv]
    have hphase : v.writePhase p = s.writePhase p := writePhase_congr (by rw [hv]) rfl
    have hcmp : (v.position p).cmp = (s.position p).cmp := by rw [hv]
    have hclaims : v.afterRemoval p = s.inFlight.filter (fun c => !withdrawnByRemoval p c) ++
        (if (s.position p).cmp.state = .armed ∨ (s.position p).cmp.state = .counting then [.finishing p] else []) ++
        (match (s.position p).bound with
          | some h => [.orphan p h (s.writePhase p)]
          | none => []) := by
      unfold State.afterRemoval
      rw [hcmp, hphase, removalReport_eq]
      unfold orphanOnRemoval
      rw [hbound]
      cases (s.position p).bound <;> rfl
    have hu := removal_frame v p
    have huc : (v.removal p).inFlight = v.afterRemoval p := by rw [hu]
    have hupos := position_removal hvs hp
    have hitem : ((v.removal p).position p).item = none := congrArg Position.item hupos
    have hself := position_settle_of_no_item hitem
    have hidle : ¬ (((v.removal p).lane (laneOf p)).state = .granted p ∨
        ((v.removal p).lane (laneOf p)).state = .awaitReply p) := by
      rw [lane_removal, lane_dropItem_eq (by rw [orphanBound_frame]; exact hs.2.1) hp]
      split
      · rintro (hc | hc) <;> cases hc
      next hc => exact hc
    refine ⟨v.removal p, _, hexec, rfl, ?lane, fun l hl hne => ?lanes, huc.trans hclaims, ?self, fun q hq hne => ?others,
      fun h hb => ?orphan, fun hc => ?finishing, fun d image => ?_, fun h => ?_, ?_, ?_, fun h r hb hn => ?records,
      fun hnone => ?_, ?_, ?_, ?_, ?_, ?_, ?_⟩
    case lane =>
      rw [lane_removal]
      refine (lane_dropItem_eq (s := v.orphanBound p) (by rw [orphanBound_frame]; exact hs.2.1) hp).trans ?_
      rw [orphanBound_frame]
      rfl
    case lanes =>
      rw [lane_removal, lane_dropItem_other hne, orphanBound_frame]
      rfl
    case self =>
      rw [hself, hupos, hv, hr]
    case others =>
      have hother : (v.removal p).position q = s.position q :=
        (position_removal_other hne).trans (State.position_updPosition_other s _ hne)
      have hset := position_settle (v.removal p) q
      rw [hother] at hset
      exact ⟨hother, hset⟩
    case orphan =>
      refine mem_inFlight_settle_of_mem ?_
      rw [huc, hclaims, hb]
      exact List.mem_append_right _ (List.mem_singleton_self _)
    case finishing =>
      refine mem_inFlight_settle_of_mem ?_
      rw [huc, hclaims, if_pos hc]
      exact List.mem_append_left _ (List.mem_append_right _ (List.mem_singleton_self _))
    case records =>
      rw [settle_records, hu]
      exact orphanBound_records (s := v) h r (hbound.trans hb) hn
    · refine mem_settle_removal (beq_self_eq_true p) ?_
      rintro ⟨q, g, hc | hc⟩ <;> cases hc
    · refine mem_settle_removal (beq_self_eq_true p) ?_
      rintro ⟨q, g, hc | hc⟩ <;> cases hc
    · exact fun hc => hidle (laneState_settle_of_no_item hitem (.inl hc))
    · exact fun hc => hidle (laneState_settle_of_no_item hitem (.inr hc))
    · rw [settle_records, hu]
      have hnone' : (v.position p).bound.bind v.named = none := by
        rw [hbound]
        exact hnone
      rw [orphanBound_none hnone']
      rfl
    · rw [settle_port]
      have hport := port_removal (s := v) (p := p) (by rw [hv]; exact h1)
      rw [hport]
      rfl
    · rw [settle_seq, hu]; rfl
    · rw [settle_plan, hu]; rfl
    · rw [settle_seals, hu]; rfl
    · rw [settle_ref, hu]; rfl
    · rw [settle_profiles, hu]; rfl
  case phase =>
    refine ⟨fun i tr hi hw => ?_, fun i hi hw hg => ?_, fun hi => ⟨fun c hc => ⟨fun h hk => ?_, fun h hk => ?_⟩, fun hno => ?_⟩⟩
    · simp only [State.writePhase, hi, hw]
    · simp only [State.writePhase, hi, hw]
      exact if_pos hg
    · rw [writePhase_no_item hi]
      refine findSome_outcomePhase hc ?_
      rcases hk with rfl | rfl | rfl
      all_goals exact if_pos rfl
    · rw [writePhase_no_item hi]
      refine findSome_outcomePhase hc ?_
      rw [hk]
      exact if_pos rfl
    · rw [writePhase_no_item hi, List.findSome?_eq_none_iff]
      exact fun c hc => outcomePhase_of_not_outcome (by simpa using List.find?_eq_none.mp hno c hc)

end Sys2Proof.Machine
end

section
/-! Proof of O19: the stored slots of the profile flash (R48..R50, R54, R71, R202). -/

namespace Sys2Proof.Machine

variable {s t u : State} {n p : Nat}

/-! ### Changes made at every position in turn -/

/-- A pass over positions that changes each at its own turn alone. -/
structure EachPosition (step : State → Nat → State) (good : State → Prop) (g : Position → Position) : Prop where
  own : ∀ t p, good t → isPosition p = true → (step t p).position p = g (t.position p)
  other : ∀ t p q, q ≠ p → (step t p).position q = t.position q
  good : ∀ t p, good t → good (step t p)

theorem EachPosition.foldl {step : State → Nat → State} {good : State → Prop} {g : Position → Position}
    (h : EachPosition step good g) {ps : List Nat} (hps : ∀ p ∈ ps, isPosition p = true) (hn : ps.Nodup) (hs : good s) :
    (ps.foldl step s).position p = if p ∈ ps then g (s.position p) else s.position p := by
  induction ps generalizing s with
  | nil => rfl
  | cons q ps ih =>
    obtain ⟨hq, hrest⟩ := List.forall_mem_cons.mp hps
    obtain ⟨hnot, hn⟩ := List.nodup_cons.mp hn
    rw [List.foldl_cons, ih hrest hn (h.good s q hs)]
    by_cases hp : p = q
    · subst hp
      rw [if_neg hnot, if_pos List.mem_cons_self, h.own s p hs hq]
    · rw [h.other s q p hp]
      simp only [List.mem_cons, hp, false_or]

theorem nodup_places (k : Nat) : (places k).Nodup :=
  List.nodup_range.map fun _ _ h => Nat.succ.inj h

theorem mem_places_48 : p ∈ places 48 ↔ isPosition p = true := by
  rw [mem_places]
  exact Iff.rfl

theorem EachPosition.all {step : State → Nat → State} {good : State → Prop} {g : Position → Position}
    (h : EachPosition step good g) (hs : good s) (hp : isPosition p = true) :
    ((places 48).foldl step s).position p = g (s.position p) := by
  rw [h.foldl (fun p hp => mem_places_48.mp hp) (nodup_places 48) hs, if_pos (mem_places_48.mpr hp)]

/-! ### Samples of every position (R54, R71) -/

/-- Two parts that differ in their positions and pending sets alone. -/
def SamePlant (s t : State) : Prop :=
  t = { s with positions := t.positions, port := { s.port with pendingSet := t.port.pendingSet } }

theorem SamePlant.trans (h : SamePlant s t) (h' : SamePlant t u) : SamePlant s u := by
  unfold SamePlant at h h' ⊢
  rw [h', h]

theorem samePlant_moveTo (p : Nat) (st : PositionState) : SamePlant s (s.moveTo p st) := by
  unfold SamePlant State.moveTo State.raiseIf
  split <;> rfl

theorem samePlant_sample (s : State) (p : Nat) : SamePlant s (s.sample p) := by
  by_cases h : senseOf s.port.bench.polarity (s.position p).pin = (s.position p).raw
  · rw [sample_same h]
    rfl
  · rw [sample_changed h]
    exact SamePlant.trans (t := s.updPosition p _) rfl (samePlant_moveTo p _)

theorem samePlant_foldl {step : State → Nat → State} (h : ∀ t p, SamePlant t (step t p)) (ps : List Nat) (s : State) :
    SamePlant s (ps.foldl step s) := by
  induction ps generalizing s with
  | nil => rfl
  | cons p ps ih => exact (h s p).trans (ih (step s p))

theorem samePlant_sampleAll (s : State) : SamePlant s s.sampleAll := samePlant_foldl samePlant_sample (places 48) s

theorem stateAfterSense_eq (raw : Bool) (st : PositionState) : stateAfterSense raw st =
    if st = .empty ∧ raw = true then .settling else if st = .settling ∧ raw = false then .empty else st := by
  cases st <;> cases raw <;> rfl

theorem sampledPosition_eq (b : Bench) (x : Position) : sampledPosition b x =
    if senseOf b.polarity x.pin = x.raw then x
    else { x with
      raw := senseOf b.polarity x.pin, debounce := debounceAfter (senseOf b.polarity x.pin) x.taken b.debounce
      state := stateAfterSense (senseOf b.polarity x.pin) x.state } := by
  simp only [sampledPosition, senseOf_eq, stateAfterSense_eq, debounceAfter]

theorem position_sample (hs : s.Shaped) (hp : isPosition p = true) :
    (s.sample p).position p = sampledPosition s.port.bench (s.position p) := by
  rw [sampledPosition_eq]
  by_cases h : senseOf s.port.bench.polarity (s.position p).pin = (s.position p).raw
  · rw [sample_same h, if_pos h]
  · rw [sample_changed h, if_neg h, State.moveTo_eq,
      State.position_positionBecomes_same _ (still_shaped (still_updPosition s p _) hs) hp,
      State.position_updPosition_eq _ hs hp]

theorem position_sample_other {q : Nat} (hq : q ≠ p) : (s.sample p).position q = s.position q := by
  by_cases h : senseOf s.port.bench.polarity (s.position p).pin = (s.position p).raw
  · rw [sample_same h]
  · rw [sample_changed h, State.moveTo_eq, State.position_positionBecomes_other _ hq,
      State.position_updPosition_other _ _ hq]

theorem SamePlant.bench (h : SamePlant s t) : t.port.bench = s.port.bench := by
  unfold SamePlant at h
  rw [h]

theorem eachPosition_sample (b : Bench) :
    EachPosition (fun t p => t.sample p) (fun t => t.Shaped ∧ t.port.bench = b) (sampledPosition b) where
  own _ _ ht hp := ht.2 ▸ position_sample ht.1 hp
  other _ _ _ hq := position_sample_other hq
  good t p ht := ⟨still_shaped (still_sample t p) ht.1, (samePlant_sample t p).bench.trans ht.2⟩

theorem position_sampleAll (hs : s.Shaped) (hp : isPosition p = true) :
    s.sampleAll.position p = sampledPosition s.port.bench (s.position p) :=
  (eachPosition_sample s.port.bench).all ⟨hs, rfl⟩ hp

/-! ### A stored slot treated by the load (R49) -/

section
variable {f : FlashSlot} {held : Nat → Bool} {raw : RawProfile} {pf : Profile}

theorem storedOutcome_empty (h : readStored f = .empty) : storedOutcome held f = .ok none := by
  simp only [storedOutcome, h]

theorem storedOutcome_fault (h : readStored f = .loadFault) : storedOutcome held f = .error () := by
  simp only [storedOutcome, h]

theorem storedOutcome_invalid {i : Nat} (h : readStored f = .candidate raw) (hv : validate raw = .error i) :
    storedOutcome held f = .error () := by
  simp only [storedOutcome, h, hv]

theorem storedOutcome_valid (h : readStored f = .candidate raw) (hv : validate raw = .ok pf) :
    storedOutcome held f = if held pf.typeCode = true then .error () else .ok (some pf) := by
  simp only [storedOutcome, h, hv]

end

/-- R49: the part with the code of the slot in hand emptied. -/
def State.slotCleared (n : Nat) (s : State) : State := { s with profiles := setPlace s.profiles n none }

/-- R49: the slot's outcome. -/
def State.slotOutcome (n : Nat) (s : State) : Except Unit (Option Profile) :=
  storedOutcome (fun tc => ((s.slotCleared n).codeOfType tc).isSome) ((place s.flash n).getD FlashSlot.erased)

theorem loadStored_empty (h : s.slotOutcome n = .ok none) : s.loadStored n = s.slotCleared n := by
  unfold State.loadStored
  dsimp only
  split
  next => rfl
  next pf ho => exact absurd (ho.symm.trans h) (by simp)
  next ho => exact absurd (ho.symm.trans h) (by simp)

theorem loadStored_profile {pf : Profile} (h : s.slotOutcome n = .ok (some pf)) : s.loadStored n =
    { s.slotCleared n with profiles := setPlace (s.slotCleared n).profiles n (some ⟨pf, 0⟩) } := by
  unfold State.loadStored
  dsimp only
  split
  next ho => exact absurd (ho.symm.trans h) (by simp)
  next pf' ho =>
    cases ho.symm.trans h
    rfl
  next ho => exact absurd (ho.symm.trans h) (by simp)

theorem loadStored_fault (h : s.slotOutcome n = .error ()) : s.loadStored n =
    { s.slotCleared n with store := { s.store with faults := s.store.faults + 1 } } := by
  unfold State.loadStored
  dsimp only
  split
  next ho => exact absurd (ho.symm.trans h) (by simp)
  next pf ho => exact absurd (ho.symm.trans h) (by simp)
  next => rfl

/-- R49: what the treatment of a slot leaves. -/
theorem loadStored_frame (s : State) (n : Nat) : s.loadStored n = { s with
    profiles := (s.loadStored n).profiles, store := { s.store with faults := (s.loadStored n).store.faults } } := by
  unfold State.loadStored
  dsimp only
  split <;> rfl

theorem place_slotCleared {m : Nat} (hm : m ≠ n) : place (s.slotCleared n).profiles m = place s.profiles m :=
  place_setPlace_other s.profiles none hm

theorem place_loadStored_other {m : Nat} (hm : m ≠ n) : place (s.loadStored n).profiles m = place s.profiles m := by
  unfold State.loadStored
  dsimp only
  split
  · exact place_setPlace_other s.profiles none hm
  · exact (place_setPlace_other _ _ hm).trans (place_setPlace_other s.profiles none hm)
  · exact place_setPlace_other s.profiles none hm

/-- R49: a type code held by another code. -/
theorem codeOfType_slotCleared (hs : s.Shaped) (h1 : 1 ≤ n) (h16 : n ≤ 16) (typeCode : Nat) :
    ((s.slotCleared n).codeOfType typeCode).isSome = true ↔
      ∃ c q, within 16 c = true ∧ c ≠ n ∧ s.profileAt c = some q ∧ q.typeCode = typeCode := by
  have hown : (s.slotCleared n).profileAt n = none := by
    have hplace : place (s.slotCleared n).profiles n = some none :=
      place_setPlace_same s.profiles none h1 (hs.2.2.2.2.1.symm ▸ h16)
    simp only [State.profileAt, State.profileSlot, hplace]
    rfl
  have hother {c : Nat} (hc : c ≠ n) : (s.slotCleared n).profileAt c = s.profileAt c := by
    simp only [State.profileAt, State.profileSlot, place_slotCleared hc]
  rw [State.codeOfType, List.find?_isSome]
  simp only [mem_places, Option.any_eq_true, beq_iff_eq]
  constructor
  · rintro ⟨c, hc, q, hq, ht⟩
    have hne : c ≠ n := by
      rintro rfl
      rw [hown] at hq
      cases hq
    exact ⟨c, q, hc, hne, hother hne ▸ hq, ht⟩
  · rintro ⟨c, q, hc, hne, hq, ht⟩
    exact ⟨c, hc, q, (hother hne).trans hq, ht⟩

/-! ### The steps of the load and the save (R49, R50) -/

theorem loadSlot_next (hl : s.store.activity = .loading) (hn : s.store.slot < 16) : s.loadSlot =
    { s.loadStored s.store.slot with store := { (s.loadStored s.store.slot).store with slot := s.store.slot + 1 } } := by
  simp only [State.loadSlot, hl]
  exact if_pos hn

theorem loadSlot_last (hl : s.store.activity = .loading) (hn : ¬ s.store.slot < 16) : s.loadSlot =
    ({ s.loadStored s.store.slot with
      store := { (s.loadStored s.store.slot).store with activity := .idle, slot := 1 } } : State).sampleAll := by
  simp only [State.loadSlot, hl]
  exact if_neg hn

/-- R49: what a step of the load makes of the rest. -/
theorem loadSlot_rest (hl : s.store.activity = .loading) :
    s.loadSlot.profiles = (s.loadStored s.store.slot).profiles ∧
    s.loadSlot.store.faults = (s.loadStored s.store.slot).store.faults ∧ s.loadSlot.flash = s.flash ∧
    s.loadSlot.records = s.records ∧ s.loadSlot.lanes = s.lanes ∧ s.loadSlot.ref = s.ref ∧ s.loadSlot.seq = s.seq ∧
    s.loadSlot.seals = s.seals := by
  by_cases hn : s.store.slot < 16
  · rw [loadSlot_next hl hn, loadStored_frame]
    exact ⟨rfl, rfl, rfl, rfl, rfl, rfl, rfl, rfl⟩
  · rw [loadSlot_last hl hn]
    have hplant := samePlant_sampleAll ({ s.loadStored s.store.slot with
      store := { (s.loadStored s.store.slot).store with activity := .idle, slot := 1 } } : State)
    unfold SamePlant at hplant
    rw [hplant, loadStored_frame]
    exact ⟨rfl, rfl, rfl, rfl, rfl, rfl, rfl, rfl⟩

theorem shaped_loadStored (n : Nat) (hs : s.Shaped) : (s.loadStored n).Shaped := by
  unfold State.loadStored
  dsimp only
  split <;> simpa [State.Shaped] using hs

theorem slot_fault (hs : s.Shaped) (h1 : 1 ≤ n) (h16 : n ≤ 16) (h : s.slotOutcome n = .error ()) :
    place (s.loadStored n).profiles n = some none ∧ (s.loadStored n).store.faults = s.store.faults + 1 := by
  rw [loadStored_fault h]
  exact ⟨place_setPlace_same s.profiles none h1 (hs.2.2.2.2.1.symm ▸ h16), rfl⟩

theorem slot_empty (hs : s.Shaped) (h1 : 1 ≤ n) (h16 : n ≤ 16) (h : s.slotOutcome n = .ok none) :
    place (s.loadStored n).profiles n = some none ∧ (s.loadStored n).store.faults = s.store.faults := by
  rw [loadStored_empty h]
  exact ⟨place_setPlace_same s.profiles none h1 (hs.2.2.2.2.1.symm ▸ h16), rfl⟩

theorem slot_profile {pf : Profile} (hs : s.Shaped) (h1 : 1 ≤ n) (h16 : n ≤ 16) (h : s.slotOutcome n = .ok (some pf)) :
    place (s.loadStored n).profiles n = some (some ⟨pf, 0⟩) ∧ (s.loadStored n).store.faults = s.store.faults := by
  have hlen : n ≤ (s.slotCleared n).profiles.length := by
    show n ≤ (setPlace s.profiles n none).length
    rw [length_setPlace, hs.2.2.2.2.1]
    exact h16
  rw [loadStored_profile h]
  exact ⟨place_setPlace_same _ _ h1 hlen, rfl⟩

theorem saveSlot_next (hl : s.store.activity = .saving) (hn : s.store.slot < 16) : s.saveSlot = { s with
    flash := setPlace s.flash s.store.slot (storedSlot (s.profileSlot s.store.slot))
    store := { s.store with slot := s.store.slot + 1 } } := by
  simp only [State.saveSlot, hl]
  exact if_pos hn

theorem saveSlot_last (hl : s.store.activity = .saving) (hn : ¬ s.store.slot < 16) : s.saveSlot =
    ({ s with
      flash := setPlace s.flash s.store.slot (storedSlot (s.profileSlot s.store.slot))
      store := { s.store with activity := .idle, slot := 1 } } : State).raise .profileStoreDone := by
  simp only [State.saveSlot, hl]
  exact if_neg hn

theorem readStored_stored (bytes : List Byte) : readStored (.stored bytes) =
    if uField bytes 222 2 ≠ (check (bytes.take 222)).toNat then .loadFault
    else if uField bytes 0 1 = 0x3C then .empty
    else if uField bytes 0 1 = 0xA5 then .candidate (rawProfile (bytes.drop 1))
    else .loadFault := rfl

/-- Settles O19. -/
theorem flashIsLoadedAndSavedBySlots : Obligations.FlashIsLoadedAndSavedBySlots := by
  refine ⟨fun s c => by cases c <;> rfl, fun bytes => ?read, fun s n hs hl hslot h1 h16 => ?load,
    fun s n hl hslot => ?save⟩
  case read =>
    intro sum mark matching
    have hread := readStored_stored bytes
    refine ⟨fun h => ?_, fun h hm => ?_, fun h hm => ?_⟩
    · by_cases hmatch : matching
      · obtain ⟨h3, hA⟩ := h.resolve_left (not_not.mpr hmatch)
        exact hread.trans ((if_neg (not_not.mpr hmatch)).trans ((if_neg h3).trans (if_neg hA)))
      · exact hread.trans (if_pos hmatch)
    · exact hread.trans ((if_neg (not_not.mpr h)).trans (if_pos hm))
    · have h3 : uField bytes 0 1 ≠ 0x3C := by
        rw [show uField bytes 0 1 = 0xA5 from hm]
        decide
      exact hread.trans ((if_neg (not_not.mpr h)).trans ((if_neg h3).trans (if_pos hm)))
  case load =>
    subst hslot
    obtain ⟨hprofiles, hfaults, hflash, hrecords, hlanes, href, hseq, hseals⟩ := loadSlot_rest hl
    refine ⟨s.loadSlot, rfl, fun hn => ?_, fun hn => ?_, ?outcome, fun m hm => ?_, fun p hp => ?position, hflash,
      hrecords, hlanes, href, hseq, hseals⟩
    · rw [loadSlot_next hl hn, loadStored_frame]
      exact ⟨hl, rfl⟩
    · rw [loadSlot_last hl (by omega)]
      have hplant := samePlant_sampleAll ({ s.loadStored s.store.slot with
        store := { (s.loadStored s.store.slot).store with activity := .idle, slot := 1 } } : State)
      unfold SamePlant at hplant
      rw [hplant]
    case outcome =>
      rw [hprofiles, hfaults]
      intro read held empty fault
      refine ⟨fun h => slot_empty hs h1 h16 (storedOutcome_empty h), fun h => slot_fault hs h1 h16 (storedOutcome_fault h),
        fun raw h => ⟨fun idx hv => slot_fault hs h1 h16 (storedOutcome_invalid h hv), fun pf hv => ⟨fun hh => ?_,
          fun hh => ?_⟩⟩⟩
      · exact slot_fault hs h1 h16 ((storedOutcome_valid h hv).trans
          (if_pos ((codeOfType_slotCleared hs h1 h16 _).mpr hh)))
      · exact slot_profile hs h1 h16 ((storedOutcome_valid h hv).trans
          (if_neg fun hc => hh ((codeOfType_slotCleared hs h1 h16 _).mp hc)))
    · rw [hprofiles]
      exact place_loadStored_other hm
    case position =>
      split
      next hn =>
        rw [loadSlot_last hl (by omega)]
        have hv : ({ s.loadStored s.store.slot with
            store := { (s.loadStored s.store.slot).store with activity := .idle, slot := 1 } } : State).Shaped :=
          shaped_loadStored s.store.slot hs
        rw [position_sampleAll hv hp, loadStored_frame]
        rfl
      next hn =>
        rw [loadSlot_next hl (by omega), loadStored_frame]
        rfl
  case save =>
    subst hslot
    exact ⟨fun hn => congrArg Host.Outcome.next (saveSlot_next hl hn),
      fun hn => congrArg Host.Outcome.next (saveSlot_last hl (by omega))⟩

end Sys2Proof.Machine
end

section
/-! The records at a warm restart (R30): each record is settled once. -/

namespace Sys2Proof.Machine

variable {s t : State} {n m : Nat} {r : Record} {ph : Option AbandonPhase}

/-! ### A record settled (R10, R30, R191) -/

theorem recordAt_reject (cause : RejectCause) (h : s.recordAt n = some r) :
    (s.reject n cause).recordAt n = some { r with state := .rejected, cause := some cause } :=
  State.recordAt_rejected cause h

theorem recordAt_withdrawWrite (r : Record) (n : Nat) : (s.withdrawWrite r).recordAt n = s.recordAt n :=
  State.recordAt_congr (State.withdrawWrite_records r) n

theorem recordAt_reject_other (cause : RejectCause) (h : n ≠ m) : (s.reject m cause).recordAt n = s.recordAt n := by
  cases hm : s.recordAt m with
  | none =>
    simp only [State.reject, hm]
    exact recordAt_updRecord_other (fun x => { x with state := .rejected, cause := some cause }) (fun _ => rfl) h
  | some r =>
    rw [reject_eq cause hm]
    exact (recordAt_updRecord_other (s := s.withdrawWrite r)
      (fun x => { x with state := .rejected, cause := some cause }) (fun _ => rfl) h).trans (recordAt_withdrawWrite r n)

/-- R22: the record of a slot that returns to PASSED. -/
theorem recordAt_returnToPassed (h : s.recordAt n = some r) :
    ((s.moveRecord n .passed).evaluate n).recordAt n = some { r with state := s.stateOnReturn r } := by
  have hat := State.recordAt_moved .passed h
  have hcond : (s.moveRecord n .passed).passedCondition { r with state := .passed } = s.passedCondition r := rfl
  rw [evaluate_passed hat rfl, hcond]
  unfold State.stateOnReturn
  split
  · exact hat
  · exact State.recordAt_moved (r := { r with state := .passed }) .measuring hat

theorem recordAt_returnToPassed_other (h : n ≠ m) :
    ((s.moveRecord m .passed).evaluate m).recordAt n = s.recordAt n :=
  (recordAt_evaluate_other h).trans (recordAt_moveRecord_other .passed h)

/-- R10, R30: the record of a slot whose work is cut off. -/
def State.settled (s : State) (ph : Option AbandonPhase) (r : Record) : Record :=
  match r.state with
  | .writing =>
    if ph = some .commitSent then { r with state := .rejected, cause := some .commitUnknown }
    else { r with state := .writePending }
  | .sealing =>
    match r.sealNumber with
    | none => { r with state := s.stateOnReturn r }
    | some number =>
      if 2 ≤ r.sealAttempts + 1 then { r.numberSpoiled number with state := .rejected, cause := some .sealFailed }
      else { r.numberSpoiled number with state := s.stateOnReturn r }
  | .measuring | .writePending | .passed | .sealed | .rejected => r

/-- Is a record's work cut off by a restart? -/
def Record.Unsettled (r : Record) : Prop := r.state = .writing ∨ r.state = .sealing

theorem settled_settled (ph : Option AbandonPhase) (r : Record) : ¬ (s.settled ph r).Unsettled := by
  unfold Record.Unsettled
  have hreturn (x : Record) : ¬ (s.stateOnReturn x = .writing ∨ s.stateOnReturn x = .sealing) := by
    unfold State.stateOnReturn
    split <;> simp
  cases hst : r.state with
  | writing =>
    simp only [State.settled, hst]
    split <;> simp
  | sealing =>
    cases hnum : r.sealNumber with
    | none =>
      simp only [State.settled, hst, hnum]
      exact hreturn r
    | some number =>
      simp only [State.settled, hst, hnum]
      split
      · simp
      · exact hreturn r
  | measuring | writePending | passed | sealed | rejected => simp [State.settled, hst]

theorem settled_of_settled (h : ¬ r.Unsettled) : s.settled ph r = r := by
  unfold State.settled
  split
  next hst => exact absurd (.inl hst) h
  next hst => exact absurd (.inr hst) h
  all_goals rfl

theorem spoilAttempt_cases {number : Nat} (h : s.recordAt n = some r) (hnum : r.sealNumber = some number) :
    ∃ u : State, u.recordAt n = some (r.numberSpoiled number) ∧ u.aside = s.aside ∧ u.port = s.port ∧
      (∀ m, m ≠ n → u.recordAt m = s.recordAt m) ∧ s.spoilAttempt n =
        if 2 ≤ r.sealAttempts + 1 then u.reject n .sealFailed else (u.moveRecord n .passed).evaluate n := by
  let u := s.updRecord n (fun r => { r.spoil with sealAttempts := r.sealAttempts + 1 })
  have hat : u.recordAt n = some (r.numberSpoiled number) := by
    have := State.recordAt_updated (fun r => { r.spoil with sealAttempts := r.sealAttempts + 1 }) (fun _ => rfl) h
    rw [this]
    simp only [Record.spoil, Record.numberSpoiled, hnum, Option.toList_some]
  refine ⟨u, hat, aside_updRecord s n _, rfl,
    fun m hm => recordAt_updRecord_other (fun r => { r.spoil with sealAttempts := r.sealAttempts + 1 }) (fun _ => rfl) hm,
    ?_⟩
  unfold State.spoilAttempt
  show (match u.recordAt n with | none => u | some r => _) = _
  rw [hat]
  rfl

theorem stateOnReturn_of_aside (h : t.aside = s.aside) (r : Record) : t.stateOnReturn r = s.stateOnReturn r := by
  have hplan := plan_of_aside h
  have hprofiles := profiles_of_aside h
  unfold State.stateOnReturn
  rw [passedCondition_congr hplan hprofiles]

theorem settleRecord_none (h : s.recordAt n = none) : s.settleRecord n ph = s := by
  simp only [State.settleRecord, h]

theorem settleRecord_unnumbered (h : s.recordAt n = some r) (hst : r.state = .sealing) (hnum : r.sealNumber = none) :
    s.settleRecord n ph = (s.moveRecord n .passed).evaluate n :=
  (settleRecord_sealing h hst).trans (if_neg (by simp [hnum]))

theorem settleRecord_numbered {number : Nat} (h : s.recordAt n = some r) (hst : r.state = .sealing)
    (hnum : r.sealNumber = some number) : s.settleRecord n ph = s.spoilAttempt n :=
  (settleRecord_sealing h hst).trans (if_pos (by simp [hnum]))

theorem recordAt_settleRecord (h : s.recordAt n = some r) :
    (s.settleRecord n ph).recordAt n = some (s.settled ph r) := by
  cases hst : r.state with
  | writing =>
    rw [settleRecord_writing h hst]
    simp only [State.settled, hst]
    split
    · exact State.recordAt_rejected .commitUnknown h
    · exact State.recordAt_moved .writePending h
  | sealing =>
    cases hnum : r.sealNumber with
    | none =>
      rw [settleRecord_unnumbered h hst hnum, recordAt_returnToPassed h]
      simp only [State.settled, hst, hnum]
    | some number =>
      obtain ⟨u, hat, haside, -, -, hspoil⟩ := spoilAttempt_cases h hnum
      have hreturn : u.stateOnReturn (r.numberSpoiled number) = s.stateOnReturn r :=
        stateOnReturn_of_aside haside (r.numberSpoiled number)
      rw [settleRecord_numbered h hst hnum, hspoil]
      simp only [State.settled, hst, hnum]
      split
      · exact State.recordAt_rejected .sealFailed hat
      · rw [recordAt_returnToPassed hat, hreturn]
  | measuring | writePending | passed | sealed | rejected =>
    have hs : ¬ r.Unsettled := by simp [Record.Unsettled, hst]
    rw [settled_of_settled hs, settleRecord_kept h (by simp [hst]) (by simp [hst]), h]

theorem recordAt_settleRecord_other (h : n ≠ m) : (s.settleRecord m ph).recordAt n = s.recordAt n := by
  cases hm : s.recordAt m with
  | none => rw [settleRecord_none hm]
  | some r =>
    by_cases h1 : r.state = .writing
    · rw [settleRecord_writing hm h1]
      split
      · exact recordAt_reject_other _ h
      · exact recordAt_moveRecord_other _ h
    · by_cases h2 : r.state = .sealing
      · cases hnum : r.sealNumber with
        | none => rw [settleRecord_unnumbered hm h2 hnum, recordAt_returnToPassed_other h]
        | some number =>
          obtain ⟨u, -, -, -, hother, hspoil⟩ := spoilAttempt_cases hm hnum
          rw [settleRecord_numbered hm h2 hnum, hspoil]
          split
          · rw [recordAt_reject_other _ h, hother n h]
          · rw [recordAt_returnToPassed_other h, hother n h]
      · rw [settleRecord_kept hm h1 h2]

/-! ### What a settlement raises (R20, R202) -/

theorem port_withdrawWrite (r : Record) : (s.withdrawWrite r).port = s.port := by
  unfold State.withdrawWrite State.giveGone
  split
  · split <;> rfl
  · rfl

/-- R20: RECORDS_CHANGED joins the pending set. -/
def Port.recordsChanged (q : Port) : Port := { q with pendingSet := q.pendingSet ||| 0x02#8 }

theorem recordsChanged_twice (q : Port) : q.recordsChanged.recordsChanged = q.recordsChanged := by
  unfold Port.recordsChanged
  simp only [BitVec.or_assoc, BitVec.or_self]

theorem port_reject (cause : RejectCause) : (s.reject n cause).port = s.port.recordsChanged := by
  cases hn : s.recordAt n with
  | none =>
    simp only [State.reject, hn]
    rfl
  | some r =>
    rw [reject_eq cause hn]
    exact congrArg Port.recordsChanged (port_withdrawWrite r)

theorem port_returnToPassed (h : s.recordAt n = some r) :
    ((s.moveRecord n .passed).evaluate n).port = s.port.recordsChanged := by
  rw [evaluate_passed (State.recordAt_moved .passed h) rfl]
  split
  · rfl
  · exact recordsChanged_twice s.port

theorem port_settleRecord_unsettled (h : s.recordAt n = some r) (hu : r.Unsettled) :
    (s.settleRecord n ph).port = s.port.recordsChanged := by
  rcases hu with hst | hst
  · rw [settleRecord_writing h hst]
    split
    · exact port_reject _
    · rfl
  · cases hnum : r.sealNumber with
    | none => rw [settleRecord_unnumbered h hst hnum, port_returnToPassed h]
    | some number =>
      obtain ⟨u, hat, -, hport, -, hspoil⟩ := spoilAttempt_cases h hnum
      rw [settleRecord_numbered h hst hnum, hspoil]
      split
      · rw [port_reject, hport]
      · rw [port_returnToPassed hat, hport]

theorem settleRecord_settled (h : ∀ r, s.recordAt n = some r → ¬ r.Unsettled) : s.settleRecord n ph = s := by
  cases hn : s.recordAt n with
  | none => exact settleRecord_none hn
  | some r =>
    have hr := h r hn
    exact settleRecord_kept hn (fun h1 => hr (.inl h1)) fun h2 => hr (.inr h2)

/-! ### Every record settled (R30) -/

section
variable {before : State} {l : List Record}

theorem aside_settleAll (before : State) (l : List Record) (s : State) :
    (l.foldl (settleAtRestart before) s).aside = s.aside :=
  aside_foldl (settleAtRestart before) (fun v x => aside_settleRecord v x.slot (before.transferPhase x)) l s

/-- R30: a record whose work is not cut off stays as it is. -/
theorem recordAt_settleAll_settled (hr : s.recordAt n = some r) (hs : ¬ r.Unsettled) :
    (l.foldl (settleAtRestart before) s).recordAt n = some r := by
  induction l generalizing s with
  | nil => exact hr
  | cons x l ih =>
    rw [List.foldl_cons]
    refine ih ?_
    by_cases hx : n = x.slot
    · subst hx
      have hkept : settleAtRestart before s x = s := settleRecord_settled fun y hy => by
        cases hr.symm.trans hy
        exact hs
      rw [hkept, hr]
    · exact (recordAt_settleRecord_other hx).trans hr

/-- R30: a record whose work is cut off is settled once, by the phase of its own work. -/
theorem recordAt_settleAll (hr : s.recordAt n = some r) (hl : l.find? (fun x => x.slot == n) = some r) :
    (l.foldl (settleAtRestart before) s).recordAt n = some (s.settled (before.transferPhase r) r) := by
  induction l generalizing s with
  | nil => cases hl
  | cons x l ih =>
    rw [List.foldl_cons]
    by_cases hx : x.slot = n
    · rw [List.find?_cons_of_pos (by simp [hx])] at hl
      cases hl
      subst hx
      exact recordAt_settleAll_settled (recordAt_settleRecord hr) (settled_settled _ _)
    · rw [List.find?_cons_of_neg (by simp [hx])] at hl
      have hat : (settleAtRestart before s x).recordAt n = some r :=
        (recordAt_settleRecord_other fun h => hx h.symm).trans hr
      have haside : (settleAtRestart before s x).aside = s.aside := aside_settleRecord s x.slot _
      have hsettled : (settleAtRestart before s x).settled (before.transferPhase r) r =
          s.settled (before.transferPhase r) r := by
        simp only [State.settled, stateOnReturn_of_aside haside]
      rw [ih hat hl, hsettled]

/-- R20, R30: RECORDS_CHANGED is raised where a record's work is cut off, and nothing else. -/
theorem settleAll_still (h : ∀ x ∈ l, ∀ r, s.recordAt x.slot = some r → ¬ r.Unsettled) :
    l.foldl (settleAtRestart before) s = s := by
  induction l with
  | nil => rfl
  | cons x l ih =>
    obtain ⟨hx, hl⟩ := List.forall_mem_cons.mp h
    have hkept : settleAtRestart before s x = s := settleRecord_settled hx
    rw [List.foldl_cons, hkept, ih hl]

theorem port_settleAll_cases : (l.foldl (settleAtRestart before) s).port = s.port ∨
    (l.foldl (settleAtRestart before) s).port = s.port.recordsChanged := by
  induction l generalizing s with
  | nil => exact .inl rfl
  | cons x l ih =>
    rw [List.foldl_cons]
    have hstep : (settleAtRestart before s x).port = s.port ∨
        (settleAtRestart before s x).port = s.port.recordsChanged := by
      by_cases hx : ∃ r, s.recordAt x.slot = some r ∧ r.Unsettled
      · obtain ⟨r, hr, hu⟩ := hx
        exact .inr (port_settleRecord_unsettled hr hu)
      · have hkept : settleAtRestart before s x = s :=
          settleRecord_settled fun r hr hu => hx ⟨r, hr, hu⟩
        rw [hkept]
        exact .inl rfl
    rcases hstep with h1 | h1 <;> rcases ih (s := settleAtRestart before s x) with h2 | h2 <;> rw [h2, h1]
    · exact .inl rfl
    · exact .inr rfl
    · exact .inr rfl
    · exact .inr (recordsChanged_twice s.port)

theorem port_settleAll_changed (h : ∃ x ∈ l, ∃ r, s.recordAt x.slot = some r ∧ r.Unsettled) :
    (l.foldl (settleAtRestart before) s).port = s.port.recordsChanged := by
  induction l generalizing s with
  | nil =>
    obtain ⟨x, hx, -⟩ := h
    cases hx
  | cons x l ih =>
    rw [List.foldl_cons]
    by_cases hx : ∃ r, s.recordAt x.slot = some r ∧ r.Unsettled
    · obtain ⟨r, hr, hu⟩ := hx
      have hport : (settleAtRestart before s x).port = s.port.recordsChanged := port_settleRecord_unsettled hr hu
      rcases port_settleAll_cases (before := before) (l := l) (s := settleAtRestart before s x) with h2 | h2
      · rw [h2, hport]
      · rw [h2, hport, recordsChanged_twice]
    · have hkept : settleAtRestart before s x = s := settleRecord_settled fun r hr hu => hx ⟨r, hr, hu⟩
      rw [hkept]
      obtain ⟨y, hy, hyr⟩ := h
      rcases List.mem_cons.mp hy with rfl | hy
      · exact absurd hyr hx
      · exact ih ⟨y, hy, hyr⟩

end

end Sys2Proof.Machine
end

section
/-! Proof of O18: the warm restart (R30, R51, R72, R94, R175, R211, R212). -/

namespace Sys2Proof.Machine

variable {s t : State} {n p q l : Nat} {cause : WarmCause}

/-! ### A position at a restart (R72) -/

/-- R20: POSITIONS_CHANGED joins the pending set. -/
def Port.positionsChanged (q : Port) : Port := { q with pendingSet := q.pendingSet ||| 0x04#8 }

theorem positionsChanged_twice (q : Port) : q.positionsChanged.positionsChanged = q.positionsChanged := by
  unfold Port.positionsChanged
  simp only [BitVec.or_assoc, BitVec.or_self]

theorem port_moveTo (st : PositionState) :
    (s.moveTo p st).port = if (s.position p).state ≠ st then s.port.positionsChanged else s.port := by
  unfold State.moveTo State.raiseIf
  simp only [decide_eq_true_eq]
  split <;> rfl

theorem position_moveTo (st : PositionState) (hs : s.Shaped) (hp : isPosition p = true) :
    (s.moveTo p st).position p = { s.position p with state := st } := by
  rw [State.moveTo_eq, State.position_positionBecomes_same _ hs hp]

theorem position_moveTo_other (st : PositionState) (hq : q ≠ p) : (s.moveTo p st).position q = s.position q := by
  rw [State.moveTo_eq, State.position_positionBecomes_other _ hq]

/-- R72: a position after a warm restart. -/
def Position.atRestart (time : Nat) (x : Position) : Position := { x.restarted time with state := stateAfterRestart x }

/-- R20, R72: does a position's restart raise POSITIONS_CHANGED? -/
def Position.MovesAtRestart (x : Position) : Prop := stateAfterRestart x ≠ x.state ∨ x.state = .settling

theorem stateAfterRestart_settles {x : Position} (h : restartedState x.state = .empty ∧ x.raw = true) :
    stateAfterRestart x = .settling := by
  obtain ⟨hst, hraw⟩ := h
  cases hx : x.state <;> simp_all [stateAfterRestart, restartedState]

theorem stateAfterRestart_stays {x : Position} (h : ¬ (restartedState x.state = .empty ∧ x.raw = true)) :
    stateAfterRestart x = restartedState x.state := by
  cases hx : x.state <;> simp_all [stateAfterRestart, restartedState]

theorem movesAtRestart_of_settles {x : Position} (h : restartedState x.state = .empty) (hraw : x.raw = true) :
    x.MovesAtRestart := by
  cases hx : x.state <;> simp_all [Position.MovesAtRestart, stateAfterRestart, restartedState]

theorem movesAtRestart_of_stays {x : Position} (h : ¬ (restartedState x.state = .empty ∧ x.raw = true)) :
    x.MovesAtRestart ↔ x.state ≠ restartedState x.state := by
  cases hx : x.state <;> simp_all [Position.MovesAtRestart, stateAfterRestart, restartedState]

/-- R72: the restart's effects at a position, its first change of state with them. -/
def State.restartMoved (p : Nat) (s : State) : State :=
  (s.updPosition p (Position.restarted s.port.bench.debounce)).moveTo p (restartedState (s.position p).state)

theorem restartPosition_settles (h : restartedState (s.position p).state = .empty ∧ (s.position p).raw = true) :
    s.restartPosition p = (s.restartMoved p).moveTo p .settling := if_pos h

theorem restartPosition_stays (h : ¬ (restartedState (s.position p).state = .empty ∧ (s.position p).raw = true)) :
    s.restartPosition p = s.restartMoved p := if_neg h

theorem position_restartMoved (hs : s.Shaped) (hp : isPosition p = true) : (s.restartMoved p).position p =
    { (s.position p).restarted s.port.bench.debounce with state := restartedState (s.position p).state } := by
  rw [State.restartMoved, position_moveTo _ (still_shaped (still_updPosition s p _) hs) hp,
    State.position_updPosition_eq _ hs hp]

theorem samePlant_restartMoved (s : State) (p : Nat) : SamePlant s (s.restartMoved p) :=
  SamePlant.trans (t := s.updPosition p (Position.restarted s.port.bench.debounce)) rfl (samePlant_moveTo p _)

theorem samePlant_restartPosition (s : State) (p : Nat) : SamePlant s (s.restartPosition p) := by
  by_cases h : restartedState (s.position p).state = .empty ∧ (s.position p).raw = true
  · rw [restartPosition_settles h]
    exact (samePlant_restartMoved s p).trans (samePlant_moveTo p _)
  · rw [restartPosition_stays h]
    exact samePlant_restartMoved s p

theorem shaped_restartMoved (p : Nat) (hs : s.Shaped) : (s.restartMoved p).Shaped :=
  still_shaped (by simp [State.restartMoved]) hs

/-- R72: a position takes its restart effects. -/
theorem position_restartPosition (hs : s.Shaped) (hp : isPosition p = true) :
    (s.restartPosition p).position p = (s.position p).atRestart s.port.bench.debounce := by
  unfold Position.atRestart
  by_cases h : restartedState (s.position p).state = .empty ∧ (s.position p).raw = true
  · rw [restartPosition_settles h, position_moveTo _ (shaped_restartMoved p hs) hp, position_restartMoved hs hp,
      stateAfterRestart_settles h]
  · rw [restartPosition_stays h, position_restartMoved hs hp, stateAfterRestart_stays h]

theorem position_restartPosition_other (hq : q ≠ p) : (s.restartPosition p).position q = s.position q := by
  have hmoved : (s.restartMoved p).position q = s.position q := by
    rw [State.restartMoved, position_moveTo_other _ hq, State.position_updPosition_other _ _ hq]
  by_cases h : restartedState (s.position p).state = .empty ∧ (s.position p).raw = true
  · rw [restartPosition_settles h, position_moveTo_other _ hq, hmoved]
  · rw [restartPosition_stays h, hmoved]

theorem port_restartMoved (hs : s.Shaped) (hp : isPosition p = true) : (s.restartMoved p).port =
    if (s.position p).state ≠ restartedState (s.position p).state then s.port.positionsChanged else s.port := by
  rw [State.restartMoved, port_moveTo, State.position_updPosition_eq _ hs hp]
  rfl

/-- R20, R72: a position's restart raises POSITIONS_CHANGED where its state changes on the way. -/
theorem port_restartPosition_moves (hs : s.Shaped) (hp : isPosition p = true) (hm : (s.position p).MovesAtRestart) :
    (s.restartPosition p).port = s.port.positionsChanged := by
  by_cases h : restartedState (s.position p).state = .empty ∧ (s.position p).raw = true
  · have hst : restartedState (s.position p).state ≠ .settling := by
      rw [h.1]
      decide
    rw [restartPosition_settles h, port_moveTo, position_restartMoved hs hp, if_pos hst, port_restartMoved hs hp]
    split
    · exact positionsChanged_twice _
    · rfl
  · rw [restartPosition_stays h, port_restartMoved hs hp, if_pos ((movesAtRestart_of_stays h).mp hm)]

theorem port_restartPosition_stays (hs : s.Shaped) (hp : isPosition p = true) (hm : ¬ (s.position p).MovesAtRestart) :
    (s.restartPosition p).port = s.port := by
  have h : ¬ (restartedState (s.position p).state = .empty ∧ (s.position p).raw = true) :=
    fun h => hm (movesAtRestart_of_settles h.1 h.2)
  rw [restartPosition_stays h, port_restartMoved hs hp, if_neg fun hc => hm ((movesAtRestart_of_stays h).mpr hc)]

/-! ### Every position at a restart -/

theorem eachPosition_restart (b : Bench) :
    EachPosition (fun t p => t.restartPosition p) (fun t => t.Shaped ∧ t.port.bench = b) (Position.atRestart b.debounce)
    where
  own _ _ ht hp := ht.2 ▸ position_restartPosition ht.1 hp
  other _ _ _ hq := position_restartPosition_other hq
  good t p ht := ⟨still_shaped (still_restartPosition t p) ht.1, (samePlant_restartPosition t p).bench.trans ht.2⟩

/-- A pass over positions that raises POSITIONS_CHANGED at the positions that a property holds of. -/
structure RaisesWhere (step : State → Nat → State) (good : State → Prop) (moves : Position → Prop) : Prop where
  moved : ∀ t p, good t → isPosition p = true → moves (t.position p) → (step t p).port = t.port.positionsChanged
  stays : ∀ t p, good t → isPosition p = true → ¬ moves (t.position p) → (step t p).port = t.port
  other : ∀ t p q, q ≠ p → (step t p).position q = t.position q
  good : ∀ t p, good t → good (step t p)

namespace RaisesWhere

variable {step : State → Nat → State} {good : State → Prop} {moves : Position → Prop} {ps : List Nat}

theorem foldl_stays (hr : RaisesWhere step good moves) (hs : good s) (hps : ∀ p ∈ ps, isPosition p = true)
    (hn : ps.Nodup) (h : ∀ p ∈ ps, ¬ moves (s.position p)) : (ps.foldl step s).port = s.port := by
  induction ps generalizing s with
  | nil => rfl
  | cons p ps ih =>
    obtain ⟨hp, hrest⟩ := List.forall_mem_cons.mp hps
    obtain ⟨hnot, hn⟩ := List.nodup_cons.mp hn
    obtain ⟨hm, hms⟩ := List.forall_mem_cons.mp h
    rw [List.foldl_cons, ih (hr.good s p hs) hrest hn fun q hq => ?_, hr.stays s p hs hp hm]
    rw [hr.other s p q fun (he : q = p) => hnot (he ▸ hq)]
    exact hms q hq

theorem foldl_cases (hr : RaisesWhere step good moves) (hs : good s) (hps : ∀ p ∈ ps, isPosition p = true) :
    (ps.foldl step s).port = s.port ∨ (ps.foldl step s).port = s.port.positionsChanged := by
  induction ps generalizing s with
  | nil => exact .inl rfl
  | cons p ps ih =>
    obtain ⟨hp, hrest⟩ := List.forall_mem_cons.mp hps
    have hstep : (step s p).port = s.port ∨ (step s p).port = s.port.positionsChanged := by
      by_cases hm : moves (s.position p)
      · exact .inr (hr.moved s p hs hp hm)
      · exact .inl (hr.stays s p hs hp hm)
    rw [List.foldl_cons]
    rcases ih (hr.good s p hs) hrest with h | h <;> rcases hstep with h1 | h1 <;> rw [h, h1]
    · exact .inl rfl
    · exact .inr rfl
    · exact .inr rfl
    · exact .inr (positionsChanged_twice s.port)

theorem foldl_moved (hr : RaisesWhere step good moves) (hs : good s) (hps : ∀ p ∈ ps, isPosition p = true)
    (h : ∃ p ∈ ps, moves (s.position p)) : (ps.foldl step s).port = s.port.positionsChanged := by
  induction ps generalizing s with
  | nil =>
    obtain ⟨p, hp, -⟩ := h
    cases hp
  | cons p ps ih =>
    obtain ⟨hp, hrest⟩ := List.forall_mem_cons.mp hps
    have hs' := hr.good s p hs
    rw [List.foldl_cons]
    by_cases hm : moves (s.position p)
    · have hport := hr.moved s p hs hp hm
      rcases hr.foldl_cases hs' hrest with h1 | h1 <;> rw [h1, hport]
      exact positionsChanged_twice s.port
    · obtain ⟨q, hq, hqm⟩ := h
      rcases List.mem_cons.mp hq with rfl | hq
      · exact absurd hqm hm
      · rw [ih hs' hrest ⟨q, hq, ?_⟩, hr.stays s p hs hp hm]
        rw [hr.other s p q fun (he : q = p) => hm (he ▸ hqm)]
        exact hqm

end RaisesWhere

theorem raisesWhere_restart :
    RaisesWhere (fun t p => t.restartPosition p) State.Shaped Position.MovesAtRestart where
  moved _ _ := port_restartPosition_moves
  stays _ _ := port_restartPosition_stays
  other _ _ _ := position_restartPosition_other
  good t p ht := still_shaped (still_restartPosition t p) ht

/-! ### Arbitration of IDENT work alone sends no claim (R154, R155) -/

/-- The only work that positions hold is IDENT. -/
def State.OnlyIdent (s : State) : Prop := ∀ q, (s.position q).item = none ∨ exchangeOf (s.position q).item = some .ident

theorem startClaim_ident {x : Position} (h : exchangeOf x.item = some .ident) : startClaim p x = none := by
  cases hi : x.item with
  | none => simp only [startClaim, hi]
  | some i =>
    rw [hi] at h
    cases hw : i.work <;> cases hb : x.bound <;> simp_all [startClaim, exchangeOf, Work.exchange]

theorem inFlight_arbitrate_ident (hi : s.OnlyIdent) (l : Nat) : (s.arbitrate l).inFlight = s.inFlight := by
  obtain h | ⟨q, hq, -, h⟩ := arbitrate_cases s l
  · rw [h]
  · have hident : exchangeOf (s.position q).item = some .ident := (hi q).resolve_left fun hn => by
      rw [requesting_of_no_item hn] at hq
      cases hq
    rw [h, State.grant]
    simp only [startClaim_ident hident]
    exact inFlight_sendTurn _ l q

theorem onlyIdent_arbitrate (hi : s.OnlyIdent) (l : Nat) : (s.arbitrate l).OnlyIdent := fun q => by
  rcases hi q with hn | he
  · rw [position_arbitrate_of_no_item hn]
    exact .inl hn
  · right
    rw [← he]
    exact congrArg PositionKey.exchange (position_of_book (book_arbitrate s l) q)

theorem inFlight_settle_ident (hi : s.OnlyIdent) : s.settle.inFlight = s.inFlight := by
  have h1 := onlyIdent_arbitrate hi 1
  have h2 := onlyIdent_arbitrate h1 2
  have h3 := onlyIdent_arbitrate h2 3
  have h4 := onlyIdent_arbitrate h3 4
  have h5 := onlyIdent_arbitrate h4 5
  rw [State.settle, inFlight_arbitrate_ident h5, inFlight_arbitrate_ident h4, inFlight_arbitrate_ident h3,
    inFlight_arbitrate_ident h2, inFlight_arbitrate_ident h1, inFlight_arbitrate_ident hi]

/-! ### The stages of a restart -/

/-- R30: the records settled, under the port of the restart. -/
def State.restartRecords (cause : WarmCause) (s : State) : State :=
  s.records.foldl (settleAtRestart s) { s with port := s.port.restarted cause }

/-- R30, R51, R94, R175: all but the positions restarted. -/
def State.restartTables (cause : WarmCause) (s : State) : State :=
  { s.restartRecords cause with
    inFlight := s.inFlight.filter isOrphan
    seq := s.seq.restarted
    ref := { s.ref with lossReported := false }
    lanes := s.lanes.mapIdx (fun i x => x.restarted (i + 1))
    store := s.store.restarted
    flash := s.cutFlash
    fresh := s.freshAfterCut }

/-- R72: the positions restarted, before the lanes arbitrate. -/
def State.restartPlant (cause : WarmCause) (s : State) : State :=
  (places 48).foldl (fun t p => t.restartPosition p) (s.restartTables cause)

theorem aside_restartRecords (cause : WarmCause) (s : State) :
    (s.restartRecords cause).aside = ({ s with port := s.port.restarted cause } : State).aside :=
  aside_settleAll s s.records _

theorem restartRecords_frame (cause : WarmCause) (s : State) : s.restartRecords cause = { s with
    records := (s.restartRecords cause).records, positions := (s.restartRecords cause).positions
    port := { s.port.restarted cause with pendingSet := (s.restartRecords cause).port.pendingSet } } :=
  frame_of_aside (aside_restartRecords cause s)

theorem warmRestart_eq (cause : WarmCause) (s : State) : s.warmRestart cause = (s.restartPlant cause).settle := by
  have hframe := restartRecords_frame cause s
  have htables : ({ s.restartRecords cause with
      inFlight := (s.restartRecords cause).inFlight.filter isOrphan
      seq := (s.restartRecords cause).seq.restarted
      ref := { (s.restartRecords cause).ref with lossReported := false }
      lanes := (s.restartRecords cause).lanes.mapIdx (fun i x => x.restarted (i + 1))
      store := (s.restartRecords cause).store.restarted
      flash := s.cutFlash
      fresh := s.freshAfterCut } : State) = s.restartTables cause := by
    rw [State.restartTables, hframe]
  rw [State.restartPlant, ← htables]
  rfl

theorem restartTables_frame (cause : WarmCause) (s : State) : s.restartTables cause = { s with
    records := (s.restartRecords cause).records, positions := (s.restartRecords cause).positions
    port := { s.port.restarted cause with pendingSet := (s.restartRecords cause).port.pendingSet }
    inFlight := s.inFlight.filter isOrphan
    seq := s.seq.restarted
    ref := { s.ref with lossReported := false }
    lanes := s.lanes.mapIdx (fun i x => x.restarted (i + 1))
    store := s.store.restarted
    flash := s.cutFlash
    fresh := s.freshAfterCut } := by
  rw [State.restartTables, restartRecords_frame]

theorem samePlant_restartPlant (cause : WarmCause) (s : State) : SamePlant (s.restartTables cause) (s.restartPlant cause) :=
  samePlant_foldl samePlant_restartPosition (places 48) _

/-- What a restart makes of all but the records, the positions, the lanes and the claims on their way. -/
theorem warmRestart_frame (cause : WarmCause) (s : State) : s.warmRestart cause = { s with
    records := (s.restartRecords cause).records, positions := (s.warmRestart cause).positions
    port := { s.port.restarted cause with pendingSet := (s.restartPlant cause).port.pendingSet }
    inFlight := (s.warmRestart cause).inFlight
    seq := s.seq.restarted
    ref := { s.ref with lossReported := false }
    lanes := (s.warmRestart cause).lanes
    store := s.store.restarted
    flash := s.cutFlash
    fresh := s.freshAfterCut } := by
  have hplant := samePlant_restartPlant cause s
  unfold SamePlant at hplant
  rw [warmRestart_eq, settle_frame, hplant, restartTables_frame]

theorem shaped_restartTables (cause : WarmCause) (hs : s.Shaped) : (s.restartTables cause).Shaped := by
  have hpos : (s.restartRecords cause).positions.length = s.positions.length := by
    have h := congrArg (fun t : State => t.positions.length) (aside_restartRecords cause s)
    simpa [State.aside] using h
  obtain ⟨h1, h2, h3, h4, h5, h6⟩ := hs
  rw [restartTables_frame]
  refine ⟨hpos.trans h1, (List.length_mapIdx ..).trans h2, h3, h4, h5, ?_⟩
  show s.cutFlash.length = 16
  unfold State.cutFlash
  split
  · rw [length_setPlace, h6]
  · exact h6

theorem standing_restartTables (cause : WarmCause) (s : State) (p : Nat) :
    ((s.restartTables cause).position p).standing = (s.position p).standing :=
  position_of_aside (aside_restartRecords cause s) p

theorem position_restartPlant (cause : WarmCause) (hs : s.Shaped) (hp : isPosition p = true) :
    (s.restartPlant cause).position p = (s.position p).atRestart s.port.bench.debounce := by
  have hbench : (s.restartTables cause).port.bench = s.port.bench := by rw [restartTables_frame]; rfl
  have hstand (x : Position) (b : Nat) : x.atRestart b = x.standing.atRestart b := rfl
  have hall := (eachPosition_restart s.port.bench).all ⟨shaped_restartTables cause hs, hbench⟩ hp
  rw [State.restartPlant, hall, hstand, standing_restartTables, ← hstand]

theorem shaped_restartPlant (cause : WarmCause) (hs : s.Shaped) : (s.restartPlant cause).Shaped := by
  have key (ps : List Nat) {t : State} (ht : t.Shaped) : (ps.foldl (fun t p => t.restartPosition p) t).Shaped := by
    induction ps generalizing t with
    | nil => exact ht
    | cons p ps ih => exact ih (still_shaped (still_restartPosition t p) ht)
  exact key (places 48) (shaped_restartTables cause hs)

theorem item_atRestart (x : Position) (b : Nat) : (x.atRestart b).item =
    if stateAfterRestart x = .identifying then some ⟨.ident, true, false, 0⟩ else none := by
  cases hst : x.state <;> cases hraw : x.raw <;>
    simp [Position.atRestart, Position.restarted, restartedState, stateAfterRestart, Item.fresh, hst, hraw]

theorem onlyIdent_restartPlant (cause : WarmCause) (hs : s.Shaped) : (s.restartPlant cause).OnlyIdent := fun q => by
  by_cases hq : isPosition q = true
  · rw [position_restartPlant cause hs hq, item_atRestart]
    split
    · exact .inr rfl
    · exact .inl rfl
  · left
    have hlen := (shaped_restartPlant cause hs).1
    rw [isPosition_iff] at hq
    have hnone : place (s.restartPlant cause).positions q = none := by
      cases q with
      | zero => rfl
      | succ q =>
        show (s.restartPlant cause).positions[q]? = none
        rw [List.getElem?_eq_none_iff]
        omega
    rw [State.position, hnone]
    rfl

theorem inFlight_warmRestart (cause : WarmCause) (hs : s.Shaped) :
    (s.warmRestart cause).inFlight = s.inFlight.filter isOrphan := by
  have hplant := samePlant_restartPlant cause s
  unfold SamePlant at hplant
  rw [warmRestart_eq, inFlight_settle_ident (onlyIdent_restartPlant cause hs), hplant]
  rfl

/-- R151, R175: a lane before the lanes arbitrate. -/
theorem lane_restartPlant (cause : WarmCause) (hs : s.Shaped) (hl : isLane l = true) :
    (s.restartPlant cause).lane l = (s.lane l).restarted l := by
  have hplant := samePlant_restartPlant cause s
  unfold SamePlant at hplant
  have hlanes : (s.restartPlant cause).lanes = s.lanes.mapIdx (fun i x => x.restarted (i + 1)) := by
    rw [hplant, restartTables_frame]
  obtain ⟨h1, h6⟩ := isLane_iff.mp hl
  obtain ⟨k, rfl⟩ := Nat.exists_eq_add_of_le' h1
  have hk : k < s.lanes.length := by
    rw [hs.2.1]
    omega
  simp only [State.lane, hlanes, place, List.getElem?_mapIdx, List.getElem?_eq_getElem hk, Option.map_some,
    Option.getD_some]

/-! ### The records of a restart (R30) -/

theorem recordAt_warmRestart {r : Record} (cause : WarmCause) (hr : s.recordAt n = some r) :
    (s.warmRestart cause).recordAt n = some (s.settled (s.transferPhase r) r) := by
  have hrecords : (s.warmRestart cause).records = (s.restartRecords cause).records := by rw [warmRestart_frame]
  have hat : (s.restartRecords cause).recordAt n = some
      (({ s with port := s.port.restarted cause } : State).settled (s.transferPhase r) r) :=
    recordAt_settleAll (s := { s with port := s.port.restarted cause }) hr hr
  simp only [State.recordAt] at hat ⊢
  rw [hrecords, hat]
  rfl

/-- R20, R202: the pending set of a restart: RESTARTED, and what the restart itself raises. -/
theorem pendingSet_warmRestart (cause : WarmCause) (hs : s.Shaped) : ∃ records positions : Byte,
    (s.restartPlant cause).port.pendingSet = 0x80#8 ||| records ||| positions ∧
    (let moved : Prop := ∃ n r, s.recordAt n = some r ∧ (r.state = .writing ∨ r.state = .sealing)
     (moved → records = 0x02#8) ∧ (¬ moved → records = 0#8)) ∧
    (let moved : Prop := ∃ p, isPosition p = true ∧
       (stateAfterRestart (s.position p) ≠ (s.position p).state ∨ (s.position p).state = .settling)
     (moved → positions = 0x04#8) ∧ (¬ moved → positions = 0#8)) := by
  have hrecords : ∃ records : Byte, (s.restartRecords cause).port.pendingSet = 0x80#8 ||| records ∧
      ((∃ n r, s.recordAt n = some r ∧ (r.state = .writing ∨ r.state = .sealing)) → records = 0x02#8) ∧
      ((¬ ∃ n r, s.recordAt n = some r ∧ (r.state = .writing ∨ r.state = .sealing)) → records = 0#8) := by
    by_cases h : ∃ n r, s.recordAt n = some r ∧ (r.state = .writing ∨ r.state = .sealing)
    · refine ⟨0x02#8, ?_, fun _ => rfl, fun hn => absurd h hn⟩
      obtain ⟨n, r, hr, hu⟩ := h
      have hx : r ∈ s.records := List.mem_of_find?_eq_some hr
      have hslot : r.slot = n := by simpa using List.find?_some hr
      rw [State.restartRecords, port_settleAll_changed ⟨r, hx, r, by rw [hslot]; exact hr, hu⟩]
      rfl
    · refine ⟨0#8, ?_, fun hy => absurd hy h, fun _ => rfl⟩
      rw [State.restartRecords, settleAll_still (s := { s with port := s.port.restarted cause })
        fun x _ r hr hu => h ⟨x.slot, r, hr, hu⟩]
      exact BitVec.or_zero.symm
  obtain ⟨records, hpending, hmoved, hstill⟩ := hrecords
  have hs' := shaped_restartTables cause hs
  have hps : ∀ p ∈ places 48, isPosition p = true := fun p hp => mem_places_48.mp hp
  have hmoves (p : Nat) : ((s.restartTables cause).position p).MovesAtRestart ↔
      (stateAfterRestart (s.position p) ≠ (s.position p).state ∨ (s.position p).state = .settling) := by
    have hstand (x : Position) : x.MovesAtRestart ↔ x.standing.MovesAtRestart := Iff.rfl
    rw [hstand, standing_restartTables, ← hstand]
    rfl
  by_cases h : ∃ p, isPosition p = true ∧
      (stateAfterRestart (s.position p) ≠ (s.position p).state ∨ (s.position p).state = .settling)
  · refine ⟨records, 0x04#8, ?_, ⟨hmoved, hstill⟩, fun _ => rfl, fun hn => absurd h hn⟩
    obtain ⟨p, hp, hm⟩ := h
    rw [State.restartPlant, raisesWhere_restart.foldl_moved hs' hps ⟨p, mem_places_48.mpr hp, (hmoves p).mpr hm⟩]
    show (s.restartRecords cause).port.pendingSet ||| 0x04#8 = _
    rw [hpending]
  · refine ⟨records, 0#8, ?_, ⟨hmoved, hstill⟩, fun hy => absurd hy h, fun _ => rfl⟩
    rw [State.restartPlant, raisesWhere_restart.foldl_stays hs' hps (nodup_places 48)
      fun p hp hm => h ⟨p, mem_places_48.mp hp, (hmoves p).mp hm⟩, BitVec.or_zero]
    exact hpending

/-! ### The whole of a restart -/

theorem place_cutFlash_slot (s : State) : place s.cutFlash s.store.slot = place s.flash s.store.slot ∨
    place s.cutFlash s.store.slot = some .interrupted := by
  unfold State.cutFlash
  split
  · by_cases h : 1 ≤ s.store.slot ∧ s.store.slot ≤ s.flash.length
    · exact .inr (place_setPlace_same s.flash _ h.1 h.2)
    · left
      have hnone {l : List FlashSlot} (hl : l.length = s.flash.length) : place l s.store.slot = none := by
        cases hslot : s.store.slot with
        | zero => rfl
        | succ k =>
          show l[k]? = none
          rw [List.getElem?_eq_none_iff]
          omega
      rw [hnone (length_setPlace ..), hnone rfl]
  · exact .inl rfl

theorem restartedFrom_warmRestart (cause : WarmCause) (hs : s.Shaped) : RestartedFrom cause s (s.warmRestart cause) := by
  have hframe := warmRestart_frame cause s
  have hport : (s.warmRestart cause).port =
      { s.port.restarted cause with pendingSet := (s.restartPlant cause).port.pendingSet } := by rw [hframe]
  have hseq : (s.warmRestart cause).seq = s.seq.restarted := by rw [hframe]
  have hstore : (s.warmRestart cause).store = s.store.restarted := by rw [hframe]
  have hflash : (s.warmRestart cause).flash = s.cutFlash := by rw [hframe]
  constructor
  case queues =>
    rw [hport]
    exact ⟨rfl, rfl, rfl⟩
  case start =>
    rw [hport]
    exact ⟨rfl, rfl⟩
  case kept =>
    rw [hport]
    exact ⟨rfl, rfl, rfl⟩
  case pending =>
    have hset : (s.warmRestart cause).port.pendingSet = (s.restartPlant cause).port.pendingSet := by rw [hport]
    obtain ⟨records, positions, hpending, hrecords, hpositions⟩ := pendingSet_warmRestart cause hs
    exact ⟨records, positions, hset.trans hpending, hrecords, hpositions⟩
  case sequencer =>
    rw [hseq]
    exact ⟨rfl, rfl, rfl, rfl⟩
  case lastClose =>
    rw [hseq]
    cases hrun : s.seq.running with
    | none => simp only [Sequencer.restarted, hrun]
    | some k => simp only [Sequencer.restarted, hrun]
  case reference => rw [hframe]
  case tables =>
    rw [hframe]
    exact ⟨rfl, rfl, rfl, rfl, rfl⟩
  case store =>
    rw [hstore]
    cases hact : s.store.activity <;> simp [ProfileStore.restarted, hact]
  case flash =>
    rw [hflash]
    refine ⟨fun n hn => ?_, place_cutFlash_slot s⟩
    by_cases hsaving : s.store.activity = .saving
    · exact place_cutFlash_other (hn.resolve_right (not_not.mpr hsaving))
    · rw [cutFlash_of_not_saving hsaving]
  case positions =>
    intro p hp
    have hpos := position_restartPlant cause hs hp
    have hitem := item_atRestart (s.position p) s.port.bench.debounce
    have hset := position_settle (s.restartPlant cause) p
    rw [← warmRestart_eq, hpos] at hset
    have hstate := congrArg Position.state hset
    have hphase := congrArg Position.phase hset
    have hheld := congrArg Position.held hset
    have hrestarted : restartedState (s.position p).state = .identifying ↔
        stateAfterRestart (s.position p) = .identifying := by
      cases hst : (s.position p).state <;> cases hraw : (s.position p).raw <;>
        simp [restartedState, stateAfterRestart, hst, hraw]
    have htaken := congrArg Position.taken hset
    have hbound := congrArg Position.bound hset
    have hpin := congrArg Position.pin hset
    have hraw := congrArg Position.raw hset
    refine ⟨hstate, congrArg Position.cmp hset, htaken, hbound, congrArg Position.identity hset, hpin, hraw,
      congrArg Position.debounce hset, congrArg Position.given hset, ?held, fun hid => ⟨?_, ?_⟩, fun hid => ⟨?_, ?_⟩⟩
    case held =>
      have hval : ((s.warmRestart cause).position p).held = (decide ((s.position p).state = .bound) ||
        (decide ((s.position p).state = .identifying) && (s.position p).held)) := hheld
      rw [hval]
      simp only [Bool.or_eq_true, Bool.and_eq_true, decide_eq_true_eq]
    · refine hphase.trans ?_
      simp only [Position.atRestart, Position.restarted, hrestarted.mpr hid, decide_true, if_true]
    · rw [warmRestart_eq]
      refine item_settle_ident ?_
      rw [hpos, hitem, if_pos hid]
      rfl
    · refine hphase.trans ?_
      simp only [Position.atRestart, Position.restarted, mt hrestarted.mp hid, decide_false, Bool.false_eq_true,
        if_false]
    · have hnone : ((s.restartPlant cause).position p).item = none := by
        rw [hpos, hitem, if_neg hid]
      rw [warmRestart_eq, position_settle_of_no_item hnone, hnone]
  case claims => exact inFlight_warmRestart cause hs
  case lanes =>
    refine ⟨s.restartPlant cause, warmRestart_eq cause s, fun l hl => lane_restartPlant cause hs hl, fun p hp => ?_⟩
    rw [position_restartPlant cause hs hp, item_atRestart]
  case records =>
    intro n r hr h1 h2
    rw [recordAt_warmRestart cause hr, settled_of_settled fun h => h.elim h1 h2]
  case writing =>
    intro n r hr hst
    have hat := recordAt_warmRestart cause hr
    refine ⟨fun hph => hat.trans ?_, fun hph => hat.trans ?_⟩
    · simp only [State.settled, hst, hph, if_true]
    · simp only [State.settled, hst, hph, if_false]
  case sealing =>
    intro n r hr hst
    have hat := recordAt_warmRestart cause hr
    refine ⟨fun hnum => hat.trans ?_, fun number hnum h2 => hat.trans ?_, fun number hnum h2 => hat.trans ?_⟩
    · simp only [State.settled, hst, hnum]
    · simp only [State.settled, hst, hnum, if_pos h2]
    · simp only [State.settled, hst, hnum, if_neg (Nat.not_le_of_lt h2)]

/-- A port's queues, transfers and wires alone do not show in what a restart makes. -/
theorem restartedFrom_of_pipes {q : Port} (hkept : q.enableSet = s.port.enableSet ∧
    q.alwaysReport = s.port.alwaysReport ∧ q.bench = s.port.bench)
    (h : RestartedFrom cause { s with port := q } t) : RestartedFrom cause s t := by
  obtain ⟨h1, h2, h3⟩ := hkept
  exact { h with
    kept := ⟨h.kept.1.trans h1, h.kept.2.1.trans h2, h.kept.2.2.trans h3⟩
    positions := fun p hp => by
      have := h.positions p hp
      simp only [h3] at this
      exact this }

/-- Settles O18. -/
theorem warmRestartsByLineAndRequest : Obligations.WarmRestartsByLineAndRequest := by
  refine ⟨fun s r => ⟨fun p hp => by simp only [State.transferPhase, hp], fun hp => ?orphan⟩, fun s hs =>
    ⟨⟨_, rfl, restartedFrom_warmRestart .resetLine hs⟩, fun hpend => ?reset, fun a rest hpend ha hk hc => ?delivered⟩⟩
  case orphan =>
    have hphase : s.transferPhase r = (s.orphanOnWay (s.handleOf r)).bind (·.2) := by
      simp only [State.transferPhase, hp]
    rw [hphase]
    refine ⟨fun p ph hc => ?_, fun hnone => ?_⟩
    · rw [show s.orphanOnWay (s.handleOf r) = some (p, ph) from orphanOnWay_iff.mpr hc]
      rfl
    · rw [show s.orphanOnWay (s.handleOf r) = none from State.orphanOnWay_none hnone]
      rfl
  case reset =>
    have hbus : s.busReset = ({ s with port := s.port.busReset } : State).warmRestart .restartRequest := if_pos hpend
    exact ⟨_, congrArg Host.Outcome.next hbus, restartedFrom_of_pipes (s := s) (q := s.port.busReset) ⟨rfl, rfl, rfl⟩
      (restartedFrom_warmRestart (s := { s with port := s.port.busReset }) .restartRequest hs)⟩
  case delivered =>
    let v : State := { s with port := { s.port with answers := rest, answerWire := .data a.wire } }
    have hdeliver : s.deliverAnswer = v.warmRestart .restartRequest :=
      deliverAnswer_restart ha hpend (Answer.isRestartOk_iff.mpr ⟨hk, hc⟩)
    refine ⟨_, congrArg Host.Outcome.next hdeliver, restartedFrom_of_pipes (s := s) (q := v.port) ⟨rfl, rfl, rfl⟩
      (restartedFrom_warmRestart (s := v) .restartRequest hs), ?_⟩
    rw [warmRestart_frame .restartRequest v]
    rfl

end Sys2Proof.Machine
end

section
/-! Proof of O11: the state right after power is applied (R210). -/

namespace Sys2Proof.Machine

theorem position_reset (p : Nat) : State.reset.position p = Position.powerOn true := by
  show (place (List.replicate 48 (Position.powerOn true)) p).getD (Position.powerOn true) = _
  cases p with
  | zero => rfl
  | succ p =>
    show ((List.replicate 48 (Position.powerOn true))[p]?).getD (Position.powerOn true) = _
    rw [List.getElem?_replicate]
    split <;> rfl

theorem requesting_reset (p : Nat) : State.reset.requesting p = false := by
  rw [State.requesting, position_reset]
  rfl

theorem pointersOwn_reset : State.reset.PointersOwn := fun l hl => by
  rw [lane_reset hl]
  obtain ⟨h1, h6⟩ := isLane_iff.mp hl
  have hpointer : (Lane.powerOn l).pointer = 8 * (l - 1) + 1 := rfl
  rw [hpointer, isPosition_iff]
  refine ⟨⟨by omega, by omega⟩, ?_⟩
  show (8 * (l - 1) + 1 - 1) / 8 + 1 = l
  omega

theorem bindingsSound_reset : State.reset.BindingsSound where
  bound p h _ hb := by
    rw [position_reset] at hb
    cases hb
  position _ _ hr := by cases hr
  holder p _ := by
    rw [position_reset]
    simp [Position.powerOn]
  held p _ hh := by
    rw [position_reset] at hh
    cases hh
  identifies p _ hi := by
    rw [position_reset] at hi
    cases hi
  claims p _ := by
    refine ⟨[], [], rfl, Nat.zero_le 1, Nat.zero_le 1, fun c hc => ?_, fun c hc => ?_, fun _ => ⟨rfl, rfl⟩⟩ <;> cases hc

theorem pinsCounted_reset : State.reset.PinsCounted := by
  unfold State.PinsCounted
  refine ⟨fun r hr => (List.not_mem_nil hr).elim, fun c ps hc hp => ?_⟩
  obtain ⟨h1, h16⟩ := within_iff.mp hc
  obtain ⟨k, rfl⟩ := Nat.exists_eq_add_of_le' h1
  have hempty : State.reset.profileSlot (k + 1) = none := by
    show ((List.replicate 16 (none : Option ProfileSlot))[k]?).join = none
    rw [List.getElem?_replicate]
    split <;> rfl
  rw [hempty] at hp
  cases hp

/-- Settles O11. -/
theorem resetIsPowerOnState : Obligations.ResetIsPowerOnState := by
  refine ⟨?shaped, ?queues, ?served, ?seals, ?table, ?rested, ?bounded, ?timeout, ?quiet, pinsCounted_reset, ?counts,
    bindingsSound_reset, pointersOwn_reset, rfl, rfl, rfl, rfl, rfl, rfl, rfl, rfl, rfl, rfl, rfl,
    fun p _ => position_reset p, fun l hl => lane_reset hl, rfl, rfl, rfl⟩
  case shaped => exact ⟨rfl, rfl, rfl, rfl, rfl, rfl⟩
  case queues => exact ⟨Nat.zero_le _, Nat.zero_le _⟩
  case served => exact fun _ _ _ p _ _ => requesting_reset p
  case seals => exact ⟨fun _ => ⟨rfl, rfl, rfl⟩, fun h => absurd rfl h⟩
  case table => exact ⟨List.nodup_nil, List.nodup_nil, fun r hr => (List.not_mem_nil hr).elim⟩
  case rested => exact fun _ => ⟨rfl, rfl⟩
  case bounded => exact Nat.zero_le _
  case timeout => decide
  case quiet =>
    refine fun _ => ⟨rfl, rfl, rfl, rfl, fun p _ => ?_, fun l hl => ?_⟩
    · rw [position_reset]
      rfl
    · rw [lane_reset hl]
      rfl
  case counts => exact fun r hr => by cases hr

end Sys2Proof.Machine
end

section
/-! SUPPORT. What the commands leave of the lanes' pointers (R151): all but a grant and a restart leaves them. -/

namespace Sys2Proof.Machine

/-- R151: the pointers of the lanes. -/
def State.pointers (s : State) : List Nat := s.lanes.map Lane.pointer

variable (s : State)

/-! ### Updates -/

@[simp] theorem pointers_raise (c : Condition) : (s.raise c).pointers = s.pointers := rfl

@[simp] theorem pointers_raiseIf (b : Bool) (c : Condition) :
    (s.raiseIf b c).pointers = s.pointers := by cases b <;> rfl

@[simp] theorem pointers_updPosition (p : Nat) (f : Position → Position) :
    (s.updPosition p f).pointers = s.pointers := rfl

@[simp] theorem pointers_updCmp (p : Nat) (f : Comparator → Comparator) : (s.updCmp p f).pointers = s.pointers := rfl

@[simp] theorem pointers_updLane (l : Nat) (f : Lane → Lane) (hf : ∀ x, (f x).pointer = x.pointer) :
    (s.updLane l f).pointers = s.pointers := by
  simp [State.pointers, map_updPlace _ _ _ _ hf]

@[simp] theorem pointers_updRecord (n : Nat) (f : Record → Record) : (s.updRecord n f).pointers = s.pointers := rfl

@[simp] theorem pointers_updPins (c : Nat) (f : Nat → Nat) : (s.updPins c f).pointers = s.pointers := rfl

@[simp] theorem pointers_send (c : Claim) : (s.send c).pointers = s.pointers := rfl

@[simp] theorem pointers_inFlight (cs : List Claim) : State.pointers { s with inFlight := cs } = s.pointers := rfl

@[simp] theorem pointers_claimTaken (f : Claim → Bool) : (s.claimTaken f).pointers = s.pointers := rfl

@[simp] theorem pointers_moveRecord (n : Nat) (st : RecordState) : (s.moveRecord n st).pointers = s.pointers := rfl

@[simp] theorem pointers_queueItem (p : Nat) (w : Work) : (s.queueItem p w).pointers = s.pointers := by
  simp [State.queueItem]

@[simp] theorem pointers_endItem (p : Nat) : (s.endItem p).pointers = s.pointers := by simp [State.endItem]

@[simp] theorem pointers_keepItem (p : Nat) (i : Item) :
    (s.keepItem p i).pointers = s.pointers := by simp [State.keepItem]

@[simp] theorem pointers_setWork (p : Nat) (w : Work) :
    (s.setWork p w).pointers = s.pointers := pointers_updPosition s _ _

@[simp] theorem pointers_endTurn (l : Nat) : (s.endTurn l).pointers = s.pointers := by simp [State.endTurn]

@[simp] theorem pointers_moveTo (p : Nat) (st : PositionState) : (s.moveTo p st).pointers = s.pointers := by
  simp [State.moveTo]

@[simp] theorem pointers_mapCmps (f : Nat → Comparator → Comparator) : (s.mapCmps f).pointers = s.pointers := rfl

@[simp] theorem pointers_markGiven (p : Nat) (b : Bool) :
    (s.markGiven p b).pointers = s.pointers := by simp [State.markGiven]

@[simp] theorem pointers_withdrawUngranted (p : Nat) (w : Work → Bool) :
    (s.withdrawUngranted p w).pointers = s.pointers := by
  simp [State.withdrawUngranted]

@[simp] theorem pointers_withdrawWork (p : Nat) : (s.withdrawWork p).pointers = s.pointers := by
  simp [State.withdrawWork]

/-! ### Records and verdicts -/

theorem pointers_of_aside {s t : State} (h : t.aside = s.aside) : t.pointers = s.pointers := by
  unfold State.pointers
  rw [lanes_of_aside h]

@[simp] theorem pointers_giveItem (r : Record) (w : Work) : (s.giveItem r w).pointers = s.pointers :=
  pointers_of_aside (aside_giveItem s r w)

@[simp] theorem pointers_giveGone (r : Record) (b : Bool) : (s.giveGone r b).pointers = s.pointers :=
  pointers_of_aside (aside_giveGone s r b)

@[simp] theorem pointers_withdrawWrite (r : Record) : (s.withdrawWrite r).pointers = s.pointers :=
  pointers_of_aside (aside_withdrawWrite s r)

@[simp] theorem pointers_reject (n : Nat) (c : RejectCause) : (s.reject n c).pointers = s.pointers :=
  pointers_of_aside (aside_reject s n c)

@[simp] theorem pointers_enterSealing (n : Nat) : (s.enterSealing n).pointers = s.pointers :=
  pointers_of_aside (aside_enterSealing s n)

@[simp] theorem pointers_enterWritePending (n : Nat) : (s.enterWritePending n).pointers = s.pointers :=
  pointers_of_aside (aside_enterWritePending s n)

@[simp] theorem pointers_autoSealTest (n : Nat) : (s.autoSealTest n).pointers = s.pointers :=
  pointers_of_aside (aside_autoSealTest s n)

@[simp] theorem pointers_evaluate (n : Nat) : (s.evaluate n).pointers = s.pointers :=
  pointers_of_aside (aside_evaluate s n)

@[simp] theorem pointers_spoilAttempt (n : Nat) : (s.spoilAttempt n).pointers = s.pointers :=
  pointers_of_aside (aside_spoilAttempt s n)

@[simp] theorem pointers_settleRecord (n : Nat) (ph : Option AbandonPhase) :
    (s.settleRecord n ph).pointers = s.pointers :=
  pointers_of_aside (aside_settleRecord s n ph)

@[simp] theorem pointers_takeResult (h : Handle) (k : Nat) (res : Result) :
    (s.takeResult h k res).pointers = s.pointers :=
  pointers_of_aside (aside_takeResult s h k res)

@[simp] theorem pointers_takeFlag (h : Handle) (f : ClaimFlag) : (s.takeFlag h f).pointers = s.pointers :=
  pointers_of_aside (aside_takeFlag s h f)

@[simp] theorem pointers_takeAll (cs : List Claim) : (takeAll cs s).pointers = s.pointers :=
  pointers_of_aside (aside_takeAll s cs)

@[simp] theorem pointers_resetClaim (k : Nat) : (s.resetClaim k).pointers = s.pointers :=
  pointers_of_aside (aside_resetClaim s k)

@[simp] theorem pointers_confirmWrite (n : Nat) (r : Record) : (s.confirmWrite n r).pointers = s.pointers := by
  simp only [State.confirmWrite]; (repeat' split) <;> simp

@[simp] theorem pointers_spoilReject (n : Nat) (c : RejectCause) : (s.spoilReject n c).pointers = s.pointers := by
  unfold State.spoilReject; simp

@[simp] theorem pointers_resumeWrite (n : Nat) : (s.resumeWrite n).pointers = s.pointers := by
  simp only [State.resumeWrite]; (repeat' split) <;> simp

/-! ### Lanes -/

@[simp] theorem pointers_sendTurn (l p : Nat) : (s.sendTurn l p).pointers = s.pointers := by
  simp only [State.sendTurn]; (repeat' split) <;> simp

@[simp] theorem pointers_dropItem (p : Nat) : (s.dropItem p).pointers = s.pointers := by
  simp only [State.dropItem]; (repeat' split) <;> simp

@[simp] theorem pointers_voidGrant (p : Nat) : (s.voidGrant p).pointers = s.pointers := by
  simp [State.voidGrant]

@[simp] theorem pointers_sendDone (l : Nat) : (s.sendDone l).pointers = s.pointers := by
  simp only [State.sendDone]; (repeat' split) <;> simp

/-! ### Bindings and positions -/

@[simp] theorem pointers_unbind (n p : Nat) : (s.unbind n p).pointers = s.pointers := by
  simp [State.unbind]

@[simp] theorem pointers_bind (h : Handle) (p : Nat) : (s.bind h p).pointers = s.pointers := by
  simp [State.bind]

@[simp] theorem pointers_discardOutcomes (p : Nat) : (s.discardOutcomes p).pointers = s.pointers := rfl

@[simp] theorem pointers_takeOrphan (p : Nat) (h : Handle) (ph : Option AbandonPhase) :
    (s.takeOrphan p h ph).pointers = s.pointers := by
  simp only [State.takeOrphan]; (repeat' split) <;> simp

@[simp] theorem pointers_settleOrphan (h : Handle) : (s.settleOrphan h).pointers = s.pointers := by
  simp only [State.settleOrphan]; (repeat' split) <;> simp

@[simp] theorem pointers_enterIdentifying (p : Nat) : (s.enterIdentifying p).pointers = s.pointers := by
  simp [State.enterIdentifying]

@[simp] theorem pointers_enterImage (p : Nat) : (s.enterImage p).pointers = s.pointers := by
  simp [State.enterImage]

@[simp] theorem pointers_toConflict (p : Nat) : (s.toConflict p).pointers = s.pointers := by
  simp [State.toConflict]

@[simp] theorem pointers_toBound (p : Nat) : (s.toBound p).pointers = s.pointers := by
  simp [State.toBound]

@[simp] theorem pointers_toWaiting (p : Nat) : (s.toWaiting p).pointers = s.pointers := by
  simp [State.toWaiting]

@[simp] theorem pointers_takeRebind (p : Nat) (h : Handle) : (s.takeRebind p h).pointers = s.pointers := by
  simp only [State.takeRebind]; (repeat' split) <;> simp

@[simp] theorem pointers_createRecord (n c p : Nat) (d : Identity) (im : Unpacked) :
    (s.createRecord n c p d im).pointers = s.pointers := by
  simp only [State.createRecord, pointers_raise, pointers_toBound, pointers_bind, pointers_updPins]; rfl

@[simp] theorem pointers_takeCreation (n : Option Nat) (p : Nat) (d : Identity) (im : Unpacked) :
    ((s.takeCreation n p d im).state).pointers = s.pointers := by
  simp only [State.takeCreation]; (repeat' split) <;> simp

/-- A fold of changes that leave the pointers leaves them. -/
theorem pointers_foldl {α : Type} (f : State → α → State) (h : ∀ t a, (f t a).pointers = t.pointers) (l : List α) :
    (l.foldl f s).pointers = s.pointers := by
  induction l generalizing s with
  | nil => rfl
  | cons a l ih => rw [List.foldl_cons, ih, h]

@[simp] theorem pointers_handSlot (n : Nat) (ps : List Nat) : (handSlot n ps s).pointers = s.pointers := by
  induction ps generalizing s with
  | nil => rfl
  | cons p ps ih =>
    unfold handSlot
    dsimp only
    (repeat' split) <;> simp [ih]

/-! ### Replies -/

@[simp] theorem pointers_decideIdent (p : Nat) (d : Identity) : (s.decideIdent p d).pointers = s.pointers := by
  simp only [State.decideIdent]; (repeat' split) <;> simp

@[simp] theorem pointers_releaseHeld (p : Nat) (h : Handle) : (s.releaseHeld p h).pointers = s.pointers := by
  simp [State.releaseHeld]

@[simp] theorem pointers_identReplied (p : Nat) (d : Identity) : (s.identReplied p d).pointers = s.pointers := by
  simp only [State.identReplied]; (repeat' split) <;> simp

@[simp] theorem pointers_imageRead (p : Nat) (ws : List Word) : (s.imageRead p ws).pointers = s.pointers := by
  simp only [State.imageRead]; (repeat' split) <;> simp

@[simp] theorem pointers_identFault (p : Nat) : (s.identFault p).pointers = s.pointers := by
  simp only [State.identFault]; (repeat' split) <;> simp

@[simp] theorem pointers_failItem (p : Nat) (w : Work) : (s.failItem p w).pointers = s.pointers := by
  simp only [State.failItem]; (repeat' split) <;> simp

@[simp] theorem pointers_countAttempt (p : Nat) (i : Item) : (s.countAttempt p i).pointers = s.pointers := by
  simp only [State.countAttempt]; (repeat' split) <;> simp

@[simp] theorem pointers_miss (p : Nat) (i : Item) : (s.miss p i).pointers = s.pointers := by
  simp [State.miss]

@[simp] theorem pointers_wordsRead (p : Nat) (i : Item) (off : Nat) (got new : List Word) (n : Nat) :
    (s.wordsRead p i off got new n).pointers = s.pointers := by
  simp only [State.wordsRead]; (repeat' split) <;> simp

@[simp] theorem pointers_stagedReply (p : Nat) (i : Item) (t : Transfer) (h : Nat) :
    (s.stagedReply p i t h).pointers = s.pointers := by
  simp only [State.stagedReply]; (repeat' split) <;> simp

@[simp] theorem pointers_takeReply (p : Nat) (i : Item) (r : Reply) : (s.takeReply p i r).pointers = s.pointers := by
  simp only [State.takeReply]; (repeat' split) <;> simp

/-! ### Presence and comparators -/

@[simp] theorem pointers_sample (p : Nat) : (s.sample p).pointers = s.pointers := by
  simp only [State.sample]; (repeat' split) <;> simp

@[simp] theorem pointers_orphanBound (p : Nat) : (s.orphanBound p).pointers = s.pointers := by
  simp only [State.orphanBound]; (repeat' split) <;> simp

@[simp] theorem pointers_removal (p : Nat) : (s.removal p).pointers = s.pointers := by
  simp [State.removal]

@[simp] theorem pointers_presence (p : Nat) (high : Bool) : (s.presence p high).pointers = s.pointers := by
  unfold State.presence; dsimp only; split <;> simp

@[simp] theorem pointers_idleComparators : (s.idleComparators).pointers = s.pointers :=
  (pointers_inFlight _ _).trans (pointers_mapCmps s _)

@[simp] theorem pointers_count (p : Nat) (f : Comparator → Counted) : (s.count p f).pointers = s.pointers := by
  unfold State.count; rw [pointers_inFlight, pointers_updCmp]

end Sys2Proof.Machine
end

section
/-! SUPPORT. Every step keeps each lane's pointer a position of the lane (R151, R154). -/

namespace Sys2Proof.Machine

variable {s t u : State} {l m p q : Nat}

/-! ### The pointer of a lane -/

theorem lane_pointer (s : State) (l : Nat) : (s.lane l).pointer = (place s.pointers l).getD (laneFirst l) := by
  unfold State.lane State.pointers
  rw [place_map]
  cases place s.lanes l <;> rfl

theorem own_laneFirst (hl : isLane l = true) : isPosition (laneFirst l) = true ∧ laneOf (laneFirst l) = l := by
  obtain ⟨h1, h6⟩ := isLane_iff.mp hl
  rw [isPosition_iff]
  unfold laneFirst laneOf
  omega

/-- R154: an arbitration looks at positions of its lane alone. -/
theorem own_of_mem_searchOrder {pointer : Nat} (hl : isLane l = true) (hp : p ∈ searchOrder l pointer) :
    isPosition p = true ∧ laneOf p = l := by
  obtain ⟨h1, h6⟩ := isLane_iff.mp hl
  obtain ⟨i, -, rfl⟩ := List.mem_map.mp hp
  have hmod := Nat.mod_lt (pointer - laneFirst l + i) (show 0 < 8 by decide)
  rw [isPosition_iff]
  unfold laneFirst at hmod ⊢
  unfold laneOf
  omega

theorem lane_grant_pointer (s : State) (l p : Nat) :
    ((s.grant l p).lane l).pointer = p ∨ ((s.grant l p).lane l).pointer = (s.lane l).pointer := by
  have hpointers : (s.grant l p).pointers = (s.updLane l (fun x => { x with
      state := .granted p, pointer := p, mark := x.mark + 1#8, budget := 0, cap := s.port.bench.burstCap
      frames := [] })).pointers := by
    unfold State.grant
    dsimp only
    split <;> simp
  rw [lane_pointer, hpointers, ← lane_pointer]
  by_cases h : 1 ≤ l ∧ l ≤ s.lanes.length
  · left
    rw [State.lane_updLane_same s _ h.1 h.2]
  · right
    have hnone : place s.lanes l = none := by
      cases l with
      | zero => rfl
      | succ l =>
        show s.lanes[l]? = none
        rw [List.getElem?_eq_none_iff]
        omega
    simp only [State.lane, State.updLane_lanes, place_updPlace_same, hnone, Option.map_none]

theorem pointersOwn_grant (hs : s.PointersOwn) (hp : isPosition p = true) (hpl : laneOf p = l) :
    (s.grant l p).PointersOwn := by
  intro m hm
  by_cases he : m = l
  · subst he
    obtain h | h := lane_grant_pointer s m p <;> rw [h]
    · exact ⟨hp, hpl⟩
    · exact hs m hm
  · rw [lane_grant_other s p he]
    exact hs m hm

theorem pointersOwn_arbitrate (hs : s.PointersOwn) (hl : isLane l = true) : (s.arbitrate l).PointersOwn := by
  unfold State.arbitrate
  split
  · split
    · exact hs
    next p hp =>
      obtain ⟨hpos, hlane⟩ := own_of_mem_searchOrder hl (List.mem_of_find?_eq_some hp)
      exact pointersOwn_grant hs hpos hlane
  all_goals exact hs

theorem pointersOwn_settle (hs : s.PointersOwn) : s.settle.PointersOwn :=
  pointersOwn_arbitrate (pointersOwn_arbitrate (pointersOwn_arbitrate (pointersOwn_arbitrate (pointersOwn_arbitrate
    (pointersOwn_arbitrate hs rfl) rfl) rfl) rfl) rfl) rfl

/-! ### What keeps the pointers their lanes' own -/

/-- A change that keeps each lane's pointer a position of the lane. -/
structure Pointed (s t : State) : Prop where
  own : s.PointersOwn → t.PointersOwn

theorem Pointed.same (h : t.pointers = s.pointers) : Pointed s t := ⟨fun hs l hl => by
  rw [lane_pointer, h, ← lane_pointer]
  exact hs l hl⟩

theorem Pointed.refl (s : State) : Pointed s s := ⟨id⟩

theorem Pointed.trans (h : Pointed s t) (h' : Pointed t u) : Pointed s u := ⟨fun hs => h'.own (h.own hs)⟩

theorem Pointed.settled (h : t.pointers = s.pointers) : Pointed s t.settle :=
  ⟨fun hs => pointersOwn_settle ((Pointed.same h).own hs)⟩

theorem pointersOwn_powerOn (h : ∀ l, isLane l = true → (t.lane l).pointer = laneFirst l) : t.PointersOwn := fun l hl => by
  rw [h l hl]
  exact own_laneFirst hl

theorem pointed_poweredOn (s : State) : Pointed s s.poweredOn := .mk fun _ => pointersOwn_powerOn fun l hl => by
  have hlane : s.poweredOn.lane l = State.reset.lane l := rfl
  rw [hlane, lane_reset hl]
  rfl

/-- R175: a restart sets each pointer to the lane's first position. -/
theorem pointersOwn_warmRestart (cause : WarmCause) (s : State) : (s.warmRestart cause).PointersOwn := by
  rw [warmRestart_eq]
  refine pointersOwn_settle (pointersOwn_powerOn fun l hl => ?_)
  have hplant := samePlant_restartPlant cause s
  unfold SamePlant at hplant
  have hlanes : (s.restartPlant cause).lanes = s.lanes.mapIdx (fun i x => x.restarted (i + 1)) := by
    rw [hplant, restartTables_frame]
  obtain ⟨k, rfl⟩ := Nat.exists_eq_add_of_le' (isLane_iff.mp hl).1
  simp only [State.lane, hlanes, place, List.getElem?_mapIdx]
  cases s.lanes[k]? <;> rfl

theorem pointed_warmRestart (cause : WarmCause) (s u : State) : Pointed s (u.warmRestart cause) :=
  ⟨fun _ => pointersOwn_warmRestart cause u⟩

/-! ### The commands -/

section
variable (s)

theorem pointers_sampleAll : s.sampleAll.pointers = s.pointers :=
  pointers_foldl s _ (fun t p => pointers_sample t p) _

theorem pointers_compareWatchdog : s.compareWatchdog.pointers = s.pointers := by
  unfold State.compareWatchdog
  split <;> rfl

theorem pointers_assigns (as : List (Nat × Nat)) : (as.foldl (fun t a => t.assign a) s).pointers = s.pointers :=
  pointers_foldl s _ (fun t a => by
    unfold State.assign
    dsimp only
    split <;> rfl) as

theorem pointers_benchEffects (b : Bench) : (s.benchEffects b).pointers = s.pointers := by
  have hloss : (if s.port.bench.refTimeout = b.refTimeout then s else s.compareWatchdog).pointers = s.pointers := by
    split
    · rfl
    · exact pointers_compareWatchdog s
  unfold State.benchEffects
  generalize (if s.port.bench.refTimeout = b.refTimeout then s else s.compareWatchdog) = v at hloss
  dsimp only
  split
  · rw [pointers_sampleAll, hloss]
  · exact hloss

theorem pointers_announce (typeCode : Nat) : (s.announce typeCode).pointers = s.pointers :=
  pointers_foldl s _ (fun t p => by split <;> simp) _

theorem pointers_retire (r : Record) :
    ((((s.withdrawWrite r).retirePosition r).removeRecord r).handFreed r.slot).pointers = s.pointers := by
  have hposition (v : State) : (v.retirePosition r).pointers = v.pointers := by
    unfold State.retirePosition State.toSpent
    dsimp only
    (repeat' split) <;> simp
  have hremove (v : State) : (v.removeRecord r).pointers = v.pointers := rfl
  have hhand (v : State) : (v.handFreed r.slot).pointers = v.pointers := by
    unfold State.handFreed
    split <;> simp
  rw [hhand, hremove, hposition, pointers_withdrawWrite]

theorem pointers_takeSentClaims : s.takeSentClaims.pointers = s.pointers := by
  unfold State.takeSentClaims
  rw [pointers_takeAll, pointers_inFlight]

theorem pointers_endPoint (k : Nat) (c : EndCause) (f : Comparator → Option Result) :
    (s.endPoint k c f).pointers = s.pointers := by
  have h : ((takeAll (s.takeSentClaims.closingOf f) s.takeSentClaims).idleComparators).pointers = s.pointers := by
    rw [pointers_idleComparators, pointers_takeAll, pointers_takeSentClaims]
  exact h

theorem pointers_abortPoint (k : Nat) : (s.abortPoint k).pointers = s.pointers := by
  have h : s.takeSentClaims.idleComparators.pointers = s.pointers := by
    rw [pointers_idleComparators, pointers_takeSentClaims]
  exact h

end

theorem request_pointed (hr : RequestEffect s u) : Pointed s u := by
  cases hr with
  | nothing => exact .refl s
  | port | dropProfile | saveProfiles => exact .same rfl
  | setBench as => exact .same ((pointers_benchEffects _ _).trans (pointers_assigns s as))
  | loadProfile code pf => exact .settled (pointers_announce _ _)
  | editPlan k pt => exact .settled (pointers_resetClaim _ _)
  | startPoint k pt => exact .same (pointers_compareWatchdog _)
  | endPoint k => exact .settled (pointers_endPoint s k _ _)
  | abortPoint k => exact .settled (pointers_abortPoint s k)
  | amendTrim h r t v =>
    unfold State.amendTrim
    dsimp only
    split
    · exact .settled (pointers_enterWritePending _ _)
    · exact .same rfl
  | reject h r c => exact .same (pointers_reject s _ c)
  | retire h r => exact .settled (pointers_retire s r)
  | clearFlags h r =>
    unfold State.clearFlags
    dsimp only
    split
    · exact .settled (pointers_autoSealTest _ _)
    · exact .same rfl
  | enterSealing h r => exact .settled (pointers_enterSealing s _)
  | sealAll => exact .settled (pointers_foldl s _ (fun t (r : Record) => pointers_enterSealing t r.slot) _)
  | retryPosition p => exact .settled (pointers_enterIdentifying s p)
  | setSealRange a b low => exact .same (pointers_raiseIf _ _ _)

theorem pointed_onWriting {h : Handle} {f : Record → State → State} (hf : ∀ r t, (f r t).pointers = t.pointers) :
    Pointed s (s.onWriting p h f) := by
  unfold State.onWriting
  (repeat' split) <;> first
    | exact .settled (by simp [hf])
    | exact .same rfl

theorem pointed_onLock {h : Handle} {f : State → State} (hf : ∀ t, (f t).pointers = t.pointers) :
    Pointed s (s.onLock p h f) := by
  unfold State.onLock
  (repeat' split) <;> first
    | exact .settled (by simp [hf])
    | exact .same rfl

theorem pointed_writeStartTaken {h : Handle} : Pointed s (s.writeStartTaken p h) := by
  unfold State.writeStartTaken
  dsimp only
  (repeat' split) <;> first
    | exact .settled (by simp)
    | exact .same (by simp)

theorem pointed_sealStartTaken {h : Handle} : Pointed s (s.sealStartTaken p h) := by
  have hreturn (v : State) (n : Nat) : (v.returnToPassed n).pointers = v.pointers := pointers_evaluate _ n
  have hissue : s.issueSeal.pointers = s.pointers := by
    unfold State.issueSeal
    simp only [pointers_raiseIf]
    rfl
  have hstart (n : Nat) (pf : Profile) (r : Record) : (s.startLock p n pf r).pointers = s.pointers := by
    unfold State.startLock
    simp only [pointers_sendTurn, pointers_setWork, pointers_updRecord, hissue]
  unfold State.sealStartTaken
  dsimp only
  (repeat' split) <;> first
    | exact .settled (by simp [hreturn])
    | exact .same (hstart _ _ _)

/-- R151: every command keeps each lane's pointer a position of the lane. -/
theorem effect_pointed {i : Instr} (he : Effect s i t) : Pointed s t := by
  cases he with
  | nothing => exact .refl s
  | pollAttention | malformed | refEdge => exact .same rfl
  | powerOn => exact pointed_poweredOn s
  | warmRestart => exact pointed_warmRestart _ s s
  | loadSlot =>
    have hstored : (s.loadStored s.store.slot).pointers = s.pointers := by rw [loadStored_frame]; rfl
    unfold State.loadSlot
    split
    · dsimp only
      split
      · exact .same hstored
      · exact .same ((pointers_sampleAll _).trans hstored)
    all_goals exact .refl s
  | saveSlot =>
    unfold State.saveSlot
    dsimp only
    (repeat' split) <;> exact .same rfl
  | busReset =>
    unfold State.busReset
    dsimp only
    split
    · exact pointed_warmRestart _ s _
    · exact .same rfl
  | acceptMessage =>
    unfold State.acceptMessage
    split <;> exact .same rfl
  | deliverAnswer =>
    unfold State.deliverAnswer
    split
    · exact .same rfl
    · dsimp only
      split
      · exact pointed_warmRestart _ s _
      · exact .same rfl
  | request k tag args rest u c body ho hu =>
    exact Pointed.trans (t := s.dequeued rest) (.same rfl) ((request_pointed hu).trans (.same rfl))
  | presence p high => exact .same (pointers_presence s p high)
  | debounced p =>
    unfold State.debounced
    dsimp only
    (repeat' split) <;> first
      | exact .settled (by simp)
      | exact .same rfl
  | sendDone l => exact .same (pointers_sendDone s l)
  | receive l bs =>
    unfold State.receive
    dsimp only
    (repeat' split) <;> first
      | exact .settled (by simp)
      | exact .same rfl
  | replyTimeout l =>
    unfold State.replyTimeout
    (repeat' split) <;> first
      | exact .settled (by simp)
      | exact .same rfl
  | creation p d im => exact .settled (pointers_takeCreation _ _ _ _ _)
  | rebind p h => exact .settled (pointers_takeRebind _ _ _)
  | result p h k res => exact .settled (pointers_takeResult _ _ _ _)
  | orphan p h ph => exact .same (pointers_takeOrphan _ _ _ _)
  | flag p h f => exact .same (pointers_takeFlag _ _ _)
  | writeStart p h => exact Pointed.trans (t := s.claimTaken _) (.same rfl) pointed_writeStartTaken
  | sealStart p h => exact Pointed.trans (t := s.claimTaken _) (.same rfl) pointed_sealStartTaken
  | commitMatch p h =>
    exact Pointed.trans (t := s.claimTaken _) (.same rfl) (pointed_onWriting fun r t => pointers_confirmWrite t _ r)
  | stageFailed p h =>
    refine Pointed.trans (t := s.claimTaken _) (.same rfl) (pointed_onWriting fun r t => ?_)
    unfold State.failStage
    dsimp only
    split <;> simp
  | commitFail p h c =>
    exact Pointed.trans (t := s.claimTaken _) (.same rfl) (pointed_onWriting fun _ t => pointers_reject t _ _)
  | locked p h a b =>
    refine Pointed.trans (t := s.claimTaken _) (.same rfl) (pointed_onLock fun t => ?_)
    unfold State.sealRecord
    split <;> simp
  | refused p h =>
    exact Pointed.trans (t := s.claimTaken _) (.same rfl) (pointed_onLock fun t => pointers_spoilReject t _ _)
  | noReply p h =>
    exact Pointed.trans (t := s.claimTaken _) (.same rfl) (pointed_onLock fun t => pointers_spoilAttempt t _)
  | watchdogTimeout =>
    unfold State.watchdogTimeout
    split
    · exact .same (pointers_compareWatchdog _)
    · exact .refl s
  | refLoss =>
    unfold State.lossTaken
    split
    next => exact .same rfl
    next k _ => exact .settled (pointers_endPoint (s.claimTaken isRefLoss) k .refLost lossResult)
  | timerExpired =>
    unfold State.timerExpired
    split
    · exact .settled (pointers_endPoint _ _ _ _)
    · exact .refl s
  | finishing p =>
    unfold State.finishingTaken
    split
    next => exact .same rfl
    next k _ =>
      split
      next => exact .same rfl
      next n _ =>
        dsimp only
        split
        · exact .settled (pointers_endPoint _ k .complete closingResult)
        · exact .same rfl
  | meterActive p tr time => exact .same (pointers_updCmp s p _)
  | meterOpposite p tr time => exact .same (pointers_count s p _)
  | glitchTestEnd p => exact .same (pointers_count s p _)

theorem pointers_tick (s : State) : s.tick.pointers = s.pointers := by
  refine (pointers_compareWatchdog _).trans ?_
  simp [State.pointers, Function.comp_def]

/-- R151: every step keeps each lane's pointer a position of the lane. -/
theorem step_pointersOwn (hs : s.PointersOwn) (h : step s = .next t) : t.PointersOwn := by
  obtain ⟨-, rfl⟩ | ⟨i, rest, -, he⟩ := step_cases h
  · exact (Pointed.same (pointers_tick s)).own hs
  · exact (effect_pointed he).own hs

end Sys2Proof.Machine
end

section
/-! Proof of O12: the arbitration of a lane (R151, R152, R154, R155). -/

namespace Sys2Proof.Machine

variable {s : State} {l m p q : Nat}

/-! ### The order of the search (R154) -/

/-- R154: how far a position stands behind the pointer, the pointer's own position last. -/
def searchDistance (pointer q : Nat) : Nat := if pointer < q then q - pointer else q + 8 - pointer

theorem searchOrder_at_distance {pointer : Nat} (hpointer : isPosition pointer = true ∧ laneOf pointer = l)
    (hq : isPosition q = true ∧ laneOf q = l) : within 8 (searchDistance pointer q) = true ∧
      laneFirst l + (pointer - laneFirst l + searchDistance pointer q) % 8 = q := by
  rw [isPosition_iff] at hpointer hq
  unfold laneOf at hpointer hq
  rw [within_iff]
  unfold searchDistance laneFirst
  split <;> omega

theorem searchDistance_at {pointer i : Nat} (hpointer : isPosition pointer = true ∧ laneOf pointer = l)
    (hi : within 8 i = true) : searchDistance pointer (laneFirst l + (pointer - laneFirst l + i) % 8) = i := by
  rw [isPosition_iff] at hpointer
  rw [within_iff] at hi
  unfold laneOf at hpointer
  unfold searchDistance laneFirst
  split <;> omega

/-- R154: the search finds the requesting position nearest behind the pointer. -/
theorem find?_searchOrder {pointer : Nat} {f : Nat → Bool} (hl : isLane l = true)
    (hpointer : isPosition pointer = true ∧ laneOf pointer = l) (hp : isPosition p = true ∧ laneOf p = l)
    (hf : f p = true) (hnear : ∀ q, isPosition q = true → laneOf q = l → f q = true →
      searchDistance pointer p ≤ searchDistance pointer q) : (searchOrder l pointer).find? f = some p := by
  obtain ⟨hwithin, hat⟩ := searchOrder_at_distance hpointer hp
  rw [searchOrder, List.find?_map, Option.map_eq_some_iff]
  refine ⟨searchDistance pointer p, find?_places.mpr ⟨?_, hwithin, fun i hi hlt => ?_⟩, hat⟩
  · rw [Function.comp_apply, hat, hf]
  · rw [Function.comp_apply, Bool.eq_false_iff]
    intro hreq
    have hmem : laneFirst l + (pointer - laneFirst l + i) % 8 ∈ searchOrder l pointer :=
      List.mem_map_of_mem (mem_places.mpr hi)
    obtain ⟨hpos, hlane⟩ := own_of_mem_searchOrder hl hmem
    have hle := hnear _ hpos hlane hreq
    rw [searchDistance_at hpointer hi] at hle
    omega

theorem arbitrate_busy (h : (s.lane l).state ≠ .idle) : s.arbitrate l = s := by
  unfold State.arbitrate
  split
  · contradiction
  all_goals rfl

theorem arbitrate_quiet (hl : isLane l = true)
    (h : ∀ q, isPosition q = true → laneOf q = l → s.requesting q = false) : s.arbitrate l = s := by
  have hnone : (searchOrder l (s.lane l).pointer).find? s.requesting = none := by
    rw [List.find?_eq_none]
    intro q hq
    obtain ⟨hpos, hlane⟩ := own_of_mem_searchOrder hl hq
    rw [h q hpos hlane]
    exact Bool.false_ne_true
  unfold State.arbitrate
  split
  · rw [hnone]
  all_goals rfl

theorem arbitrate_grants (hidle : (s.lane l).state = .idle)
    (hp : (searchOrder l (s.lane l).pointer).find? s.requesting = some p) : s.arbitrate l = s.grant l p := by
  simp only [State.arbitrate, hidle, hp]

/-! ### A grant (R154, R155) -/

/-- R154: the turn granted, before its start claim or its frames are sent. -/
def State.turnGranted (l p : Nat) (s : State) : State :=
  (s.updLane l (fun x => { x with
    state := .granted p, pointer := p, mark := x.mark + 1#8, budget := 0, cap := s.port.bench.burstCap
    frames := [] })).updPosition p (fun x =>
      { x with item := x.item.map (fun i => { i with requesting := false, granted := true }) })

theorem grant_sends_claim {c : Claim} (h : startClaim p (s.position p) = some c) :
    s.grant l p = (s.turnGranted l p).send c := by
  simp only [State.grant, h]
  rfl

theorem grant_sends_turn (h : startClaim p (s.position p) = none) : s.grant l p = (s.turnGranted l p).sendTurn l p := by
  simp only [State.grant, h]
  rfl

theorem position_updLane (s : State) (l p : Nat) (f : Lane → Lane) : (s.updLane l f).position p = s.position p := rfl

section
variable {i : Item}

theorem startClaim_write {h : Handle} (hi : (s.position p).item = some i) (hw : i.work = .write none)
    (hb : (s.position p).bound = some h) : startClaim p (s.position p) = some (.writeStart p h) := by
  simp only [startClaim, hi, hb, hw]

theorem startClaim_seal {h : Handle} (hi : (s.position p).item = some i) (hw : i.work = .sealLock none)
    (hb : (s.position p).bound = some h) : startClaim p (s.position p) = some (.sealStart p h) := by
  simp only [startClaim, hi, hb, hw]

theorem startClaim_other (hi : (s.position p).item = some i) (h1 : i.work ≠ .write none) (h2 : i.work ≠ .sealLock none) :
    startClaim p (s.position p) = none := by
  unfold startClaim
  rw [hi]
  cases hb : (s.position p).bound with
  | none => rfl
  | some h =>
    dsimp only
    split
    next hw => exact absurd hw h1
    next hw => exact absurd hw h2
    all_goals rfl

theorem lane_turnGranted (hs : s.Shaped) (hl : isLane l = true) : (s.turnGranted l p).lane l = { s.lane l with
    state := .granted p, pointer := p, mark := (s.lane l).mark + 1#8, budget := 0, cap := s.port.bench.burstCap
    frames := [] } := lane_updLane_eq (s := s) _ hs.2.1 hl

theorem position_turnGranted (hs : s.Shaped) (hp : isPosition p = true) (hi : (s.position p).item = some i) :
    (s.turnGranted l p).position p =
      { s.position p with item := some { i with requesting := false, granted := true } } := by
  have hlen := hs.1
  obtain ⟨h1, h48⟩ := isPosition_iff.mp hp
  refine (State.position_updPosition_same (s.updLane l _) _ h1 (hlen.symm ▸ h48)).trans ?_
  rw [position_updLane, hi]
  rfl

theorem shaped_turnGranted (hs : s.Shaped) : (s.turnGranted l p).Shaped :=
  still_shaped (by simp [State.turnGranted]) hs

end

theorem laneOf_probeAddress (hpl : laneOf p = l) : probeAddress p = p - 8 * (l - 1) := by
  rw [probeAddress, hpl]

/-- Settles O12. -/
theorem arbitrationIsRoundRobin : Obligations.ArbitrationIsRoundRobin := by
  refine ⟨fun s l hs hl => ⟨withoutLaneWork_settle s, served_settle hs, arbitrate_busy, arbitrate_quiet hl,
    fun p i hown hidle hp hpl hi hreq => ?_⟩, fun s t hs h => step_pointersOwn hs h⟩
  intro distance hnear t mark cap turn granted
  have hrequesting : s.requesting p = true := by
    simp only [State.requesting, hi, hreq]
  have hgrant : t = s.grant l p :=
    arbitrate_grants hidle (find?_searchOrder hl (hown l hl) ⟨hp, hpl⟩ hrequesting hnear)
  clear_value t
  have hs' : (s.turnGranted l p).Shaped := shaped_turnGranted hs
  have hlane := lane_turnGranted (p := p) hs hl
  have hpos := position_turnGranted (l := l) hs hp hi
  refine ⟨fun m _ hm => ?_, fun q _ hq => ?_, fun h hb => ⟨fun hw => ?_, fun hw => ?_⟩, fun h1 h2 => ?_⟩
  · rw [hgrant, lane_grant_other s p hm]
  · rw [hgrant, position_grant_other hq]
  · obtain rfl : t = (s.turnGranted l p).send (.writeStart p h) :=
      hgrant.trans (grant_sends_claim (startClaim_write hi hw hb))
    exact ⟨⟨hlane, hpos⟩, rfl⟩
  · obtain rfl : t = (s.turnGranted l p).send (.sealStart p h) :=
      hgrant.trans (grant_sends_claim (startClaim_seal hi hw hb))
    exact ⟨⟨hlane, hpos⟩, rfl⟩
  · have hitem : ((s.turnGranted l p).position p).item = some { i with requesting := false, granted := true } := by
      rw [hpos]
    have hsent : t = (s.turnGranted l p).sendTurn l p := hgrant.trans (grant_sends_turn (startClaim_other hi h1 h2))
    rw [sendTurn_some l hitem, hlane, hpos, laneOf_probeAddress hpl] at hsent
    subst hsent
    refine ⟨⟨?_, ?_⟩, rfl⟩
    · refine (lane_updLane_eq (s := s.turnGranted l p) _ hs'.2.1 hl).trans ?_
      rw [hlane]
      rfl
    · obtain ⟨h1, h48⟩ := isPosition_iff.mp hp
      refine (State.position_updPosition_same ((s.turnGranted l p).updLane l _) _ h1 (hs'.1.symm ▸ h48)).trans ?_
      rw [position_updLane, hpos]
      rfl

end Sys2Proof.Machine
end

section
/-! Proof of O13: the image codec (R37..R39, R139..R142). -/

namespace Sys2Proof.Machine

variable {fs : List LayoutField} {j i x : Nat} {b : Band} {ph : Phase} {w : Nat}

/-! ### Fields that validation passed (R38) -/

/-- The trim a layout field names. -/
def LayoutField.named : LayoutField → Option (Band × Phase)
  | .trim b p _ => some (b, p)
  | .fixed _ _ => none

/-- R38: the ranges of a layout field. -/
def LayoutField.Sound : LayoutField → Prop
  | .trim _ _ w => 4 ≤ w ∧ w ≤ 24
  | .fixed w v => 1 ≤ w ∧ w ≤ 24 ∧ v < 2 ^ w

/-- R38: a layout of sound fields that names no trim twice. -/
structure LayoutSound (fs : List LayoutField) : Prop where
  once : (fs.filterMap LayoutField.named).Nodup
  fields : ∀ f ∈ fs, f.Sound

theorem LayoutSound.tail {f : LayoutField} (h : LayoutSound (f :: fs)) : LayoutSound fs :=
  ⟨h.once.sublist ((List.sublist_cons_self f fs).filterMap _), (List.forall_mem_cons.mp h.fields).2⟩

theorem LayoutSound.head_once (h : LayoutSound (.trim b ph w :: fs)) {w' : Nat} : .trim b ph w' ∉ fs := fun hm =>
  (List.nodup_cons.mp h.once).1 (List.mem_filterMap.mpr ⟨_, hm, rfl⟩)

theorem checkField_sound {bands : List Band} {phases : List Phase} {seen : List (Band × Phase)} {f : RawField}
    {g : LayoutField} (h : checkField bands phases seen f = some g) : g.Sound ∧ ∀ bp, g.named = some bp → bp ∉ seen := by
  unfold checkField at h
  split at h
  · split at h
    · rw [Option.ite_none_right_eq_some] at h
      obtain ⟨⟨h4, h24, -, -, hnew⟩, h⟩ := h
      cases h
      exact ⟨⟨h4, h24⟩, fun bp hbp => Option.some.inj hbp ▸ hnew⟩
    · cases h
  · rw [Option.ite_none_right_eq_some, Option.ite_none_right_eq_some] at h
    obtain ⟨-, hc, h⟩ := h
    cases h
    exact ⟨hc, fun bp hbp => by cases hbp⟩

theorem mem_seenWith {g : LayoutField} {seen : List (Band × Phase)} {bp : Band × Phase} :
    bp ∈ seenWith g seen ↔ g.named = some bp ∨ bp ∈ seen := by
  cases g with
  | trim b p w =>
    simp only [seenWith, LayoutField.named, List.mem_cons, Option.some.injEq]
    exact or_congr_left eq_comm
  | fixed w v => simp [seenWith, LayoutField.named]

theorem checkLayout_sound {bands : List Band} {phases : List Phase} {seen : List (Band × Phase)} {total idx : Nat}
    {rs : List RawField} (h : checkLayout bands phases seen total idx rs = .ok fs) :
    LayoutSound fs ∧ ∀ bp ∈ fs.filterMap LayoutField.named, bp ∉ seen := by
  induction rs generalizing seen total idx fs with
  | nil =>
    cases h
    exact ⟨⟨List.nodup_nil, fun f hf => absurd hf List.not_mem_nil⟩, fun bp hbp => absurd hbp List.not_mem_nil⟩
  | cons r rs ih =>
    unfold checkLayout at h
    split at h
    · cases h
    next g hg =>
      split at h
      · cases h
      · split at h
        next gs hgs =>
          cases h
          obtain ⟨hsound, hnew⟩ := checkField_sound hg
          obtain ⟨hrest, hapart⟩ := ih hgs
          have hfields := List.forall_mem_cons.mpr ⟨hsound, hrest.fields⟩
          cases hn : g.named with
          | none =>
            rw [List.filterMap_cons_none hn]
            exact ⟨⟨by rw [List.filterMap_cons_none hn]; exact hrest.once, hfields⟩,
              fun bp hbp hs => hapart bp hbp (mem_seenWith.mpr (.inr hs))⟩
          | some bp =>
            rw [List.filterMap_cons_some hn]
            refine ⟨⟨?_, hfields⟩, fun bp' hbp' hs => ?_⟩
            · rw [List.filterMap_cons_some hn, List.nodup_cons]
              exact ⟨fun hm => hapart bp hm (mem_seenWith.mpr (.inl hn)), hrest.once⟩
            · rcases List.mem_cons.mp hbp' with rfl | hm
              · exact hnew bp' hn hs
              · exact hapart bp' hm (mem_seenWith.mpr (.inr hs))
        · cases h

/-- R37: the width found for a trim is that of the field which names it. -/
theorem trimWidth_eq_some (h : LayoutSound fs) : trimWidth b ph fs = some w ↔ .trim b ph w ∈ fs := by
  induction fs with
  | nil => simp [trimWidth]
  | cons f fs ih =>
    cases f with
    | fixed w' v => simp [trimWidth, ih h.tail]
    | trim b' ph' w' =>
      unfold trimWidth
      split
      next heq =>
        obtain ⟨rfl, rfl⟩ := heq
        simp only [List.mem_cons, LayoutField.trim.injEq, true_and, h.head_once, or_false, Option.some.injEq]
        exact eq_comm
      next hne =>
        rw [ih h.tail, List.mem_cons, LayoutField.trim.injEq]
        refine (or_iff_right fun he => hne ⟨he.1.symm, he.2.1.symm⟩).symm

/-! ### The stream of words (R139) -/

theorem wordsStream_lt (words : List Word) : wordsStream words < 2 ^ (32 * words.length) := by
  induction words with
  | nil => decide
  | cons v words ih =>
    have hv := v.isLt
    rw [wordsStream, List.length_cons, Nat.mul_succ, Nat.pow_add, Nat.mul_comm (2 ^ (32 * words.length))]
    calc v.toNat + 2 ^ 32 * wordsStream words < 2 ^ 32 * (wordsStream words + 1) := by omega
      _ ≤ 2 ^ 32 * 2 ^ (32 * words.length) := Nat.mul_le_mul_left _ ih

/-- R139: stream bit b stands at bit b mod 32 of word b / 32. -/
theorem testBit_wordsStream (words : List Word) (n : Nat) :
    (wordsStream words).testBit n = ((words[n / 32]?).getD 0#32).getLsbD (n % 32) := by
  induction words generalizing n with
  | nil => simp [wordsStream]
  | cons v words ih =>
    rw [wordsStream, Nat.add_comm, Nat.testBit_two_pow_mul_add _ v.isLt]
    split
    next h => rw [Nat.div_eq_of_lt h, Nat.mod_eq_of_lt h, BitVec.testBit_toNat]; rfl
    next h =>
      obtain ⟨m, rfl⟩ := Nat.exists_eq_add_of_le' (Nat.le_of_not_lt h)
      rw [ih, Nat.add_sub_cancel, Nat.add_div_right m (by decide), Nat.add_mod_right]
      rfl

theorem streamWords_length (n x : Nat) : (streamWords n x).length = n := by
  induction n generalizing x with
  | zero => rfl
  | succ n ih => rw [streamWords, List.length_cons, ih]

theorem wordsStream_streamWords (n x : Nat) (hx : x < 2 ^ (32 * n)) : wordsStream (streamWords n x) = x := by
  induction n generalizing x with
  | zero =>
    have h0 : x = 0 := by simpa using hx
    rw [h0]
    rfl
  | succ n ih =>
    have hdiv : x / 2 ^ 32 < 2 ^ (32 * n) := by
      rw [Nat.div_lt_iff_lt_mul (by decide), ← Nat.pow_add]
      exact hx
    rw [streamWords, wordsStream, ih _ hdiv, BitVec.toNat_ofNat]
    exact Nat.mod_add_div x (2 ^ 32)

/-! ### The stream of a layout (R139, R140) -/

/-- R139: the stream bit at which field j of a layout begins. -/
def fieldOffset (fs : List LayoutField) (j : Nat) : Nat := ((fs.take j).map LayoutField.width).sum

theorem fieldOffset_succ (f : LayoutField) (fs : List LayoutField) (j : Nat) :
    fieldOffset (f :: fs) (j + 1) = f.width + fieldOffset fs j := rfl

theorem fieldOffset_length (fs : List LayoutField) : fieldOffset fs fs.length = layoutWidth fs := by
  rw [fieldOffset, List.take_length, layoutWidth_eq]

section
variable (value : Band → Phase → Int)

theorem twosBits_lt (w : Nat) (v : Int) : twosBits w v < 2 ^ w := by
  have hpos : (0 : Int) < (2 ^ w : Nat) := by exact_mod_cast Nat.two_pow_pos w
  have h0 := Int.emod_nonneg v hpos.ne'
  have hlt := Int.emod_lt_of_pos v hpos
  unfold twosBits
  omega

theorem bits_lt (f : LayoutField) : f.bits value < 2 ^ f.width := by
  cases f with
  | trim b p w => exact twosBits_lt w _
  | fixed w v => exact Nat.mod_lt v (Nat.two_pow_pos w)

theorem packStream_lt (fs : List LayoutField) : packStream value fs < 2 ^ layoutWidth fs := by
  induction fs with
  | nil => exact Nat.one_pos
  | cons f fs ih =>
    have hf := bits_lt value f
    rw [packStream, layoutWidth, Nat.pow_add]
    calc f.bits value + 2 ^ f.width * packStream value fs < 2 ^ f.width * (packStream value fs + 1) := by
          rw [Nat.mul_succ]
          omega
      _ ≤ 2 ^ f.width * 2 ^ layoutWidth fs := Nat.mul_le_mul_left _ ih

/-- R140: the bits of a field stand from its offset. -/
theorem testBit_packStream {f : LayoutField} (hf : fs[j]? = some f) (hi : i < f.width) :
    (packStream value fs).testBit (fieldOffset fs j + i) = (f.bits value).testBit i := by
  induction fs generalizing j with
  | nil => cases hf
  | cons g fs ih =>
    rw [packStream, Nat.add_comm (g.bits value), Nat.testBit_two_pow_mul_add _ (bits_lt value g)]
    cases j with
    | zero =>
      cases hf
      have hzero : fieldOffset (f :: fs) 0 + i = i := Nat.zero_add i
      rw [hzero, if_pos hi]
    | succ j =>
      rw [fieldOffset_succ, Nat.add_assoc, if_neg (by omega), Nat.add_sub_cancel_left]
      exact ih hf

/-- R140: a trim's w-bit form is two's complement. -/
theorem testBit_twosBits (w : Nat) (v : Int) (i : Nat) : (twosBits w v).testBit i = (BitVec.ofInt w v).getLsbD i := by
  rw [← BitVec.testBit_toNat, BitVec.toNat_ofInt, twosBits]

theorem wordsStream_pack {pf : Profile} (h : pf.imageLength = ceilDiv (layoutWidth pf.layout) 32) :
    wordsStream (pack pf value) = packStream value pf.layout := by
  refine wordsStream_streamWords _ _ (Nat.lt_of_lt_of_le (packStream_lt value pf.layout)
    (Nat.pow_le_pow_right (by decide) ?_))
  rw [h, ceilDiv]
  omega

end

/-! ### The fields read from a stream (R141) -/

theorem readFields_at (fs : List LayoutField) (x j : Nat) :
    (readFields fs x)[j]? = (fs[j]?).map (fun f => (f, x / 2 ^ fieldOffset fs j % 2 ^ f.width)) := by
  induction fs generalizing x j with
  | nil => rfl
  | cons f fs ih =>
    cases j with
    | zero =>
      have hzero : fieldOffset (f :: fs) 0 = 0 := rfl
      rw [hzero, Nat.pow_zero, Nat.div_one]
      rfl
    | succ j =>
      rw [readFields, List.getElem?_cons_succ, ih, List.getElem?_cons_succ, fieldOffset_succ, Nat.pow_add,
        Nat.div_div_eq_div_mul]

/-- R141: the bits of a field are those of the stream from its offset. -/
theorem testBit_field (hi : i < w) : (x / 2 ^ j % 2 ^ w).testBit i = x.testBit (j + i) := by
  rw [Nat.testBit_mod_two_pow, Nat.testBit_div_two_pow, Nat.add_comm i j]
  simp only [hi, decide_true, Bool.true_and]

theorem readFields_packStream (value : Band → Phase → Int) (fs : List LayoutField) :
    readFields fs (packStream value fs) = fs.map (fun f => (f, f.bits value)) := by
  induction fs with
  | nil => rfl
  | cons f fs ih =>
    have hf := bits_lt value f
    rw [packStream, readFields, Nat.add_mul_mod_self_left, Nat.mod_eq_of_lt hf,
      Nat.add_mul_div_left _ _ (Nat.two_pow_pos _), Nat.div_eq_of_lt hf, Nat.zero_add, ih]
    rfl

/-- R141: the value of a trim is that of the field which names it. -/
theorem trimRead_of_mem {fields : List (LayoutField × Nat)} {n : Nat} (h : LayoutSound (fields.map (·.1)))
    (hm : (.trim b ph w, n) ∈ fields) : trimRead fields b ph = signedBits w n := by
  induction fields with
  | nil => cases hm
  | cons f fields ih =>
    obtain ⟨g, k⟩ := f
    rw [List.map_cons] at h
    rcases List.mem_cons.mp hm with he | hrest
    · cases he
      unfold trimRead
      exact if_pos ⟨rfl, rfl⟩
    · cases g with
      | fixed w' v => exact ih h.tail hrest
      | trim b' ph' w' =>
        unfold trimRead
        rw [if_neg, ih h.tail hrest]
        rintro ⟨rfl, rfl⟩
        exact h.head_once (List.mem_map_of_mem hrest)

theorem map_readFields (fs : List LayoutField) (x : Nat) : (readFields fs x).map (·.1) = fs := by
  induction fs generalizing x with
  | nil => rfl
  | cons f fs ih => rw [readFields, List.map_cons, ih]

theorem signedBits_twosBits (hw : 1 ≤ w) {v : Int} (hlo : trimMin w ≤ v) (hhi : v ≤ trimMax w) :
    signedBits w (twosBits w v) = v := by
  obtain ⟨k, rfl⟩ := Nat.exists_eq_add_of_le' hw
  have hpow : (2 ^ (k + 1) : Nat) = 2 * 2 ^ k := by rw [Nat.pow_succ, Nat.mul_comm]
  unfold trimMin at hlo
  unfold trimMax at hhi
  rw [Nat.add_sub_cancel] at hlo hhi
  have hpos := Nat.two_pow_pos k
  unfold signedBits twosBits
  rw [hpow]
  generalize 2 ^ k = m at *
  by_cases hv : 0 ≤ v
  · rw [Int.emod_eq_of_lt hv (by omega)]
    rw [if_pos (by omega)]
    omega
  · have hmod : v % ((2 * m : Nat) : Int) = v + (2 * m : Nat) := by
      rw [← Int.add_emod_right, Int.emod_eq_of_lt (by omega) (by omega)]
    rw [hmod, if_neg (by omega)]
    omega

/-- R141: what reads as a trim is in its range. -/
theorem signedBits_range {n : Nat} (hw : 1 ≤ w) (hn : n < 2 ^ w) :
    -(2 ^ (w - 1) : Nat) ≤ signedBits w n ∧ signedBits w n ≤ (2 ^ (w - 1) : Nat) - 1 := by
  obtain ⟨k, rfl⟩ := Nat.exists_eq_add_of_le' hw
  have hpow : (2 ^ (k + 1) : Nat) = 2 * 2 ^ k := by rw [Nat.pow_succ, Nat.mul_comm]
  rw [Nat.add_sub_cancel]
  unfold signedBits
  rw [hpow] at hn ⊢
  generalize 2 ^ k = m at *
  split <;> omega

theorem twosBits_signedBits {n : Nat} (hn : n < 2 ^ w) : twosBits w (signedBits w n) = n := by
  have hmod : signedBits w n % ((2 ^ w : Nat) : Int) = n := by
    unfold signedBits
    split
    · exact Int.emod_eq_of_lt (by omega) (by exact_mod_cast hn)
    · rw [Int.sub_emod_right]
      exact Int.emod_eq_of_lt (by omega) (by exact_mod_cast hn)
  rw [twosBits, hmod, Int.toNat_natCast]

theorem fieldMismatch_fixed {v n : Nat} : fieldMismatch (.fixed w v, n) = true ↔ n ≠ v := by
  simp [fieldMismatch]

theorem ne_iff_testBit {n v : Nat} (hn : n < 2 ^ w) (hv : v < 2 ^ w) : n ≠ v ↔ ∃ i, i < w ∧ n.testBit i ≠ v.testBit i := by
  constructor
  · intro hne
    by_contra hall
    refine hne (Nat.eq_of_testBit_eq fun i => ?_)
    by_cases hi : i < w
    · by_contra hd
      exact hall ⟨i, hi, hd⟩
    · have hle : 2 ^ w ≤ 2 ^ i := Nat.pow_le_pow_right (by decide) (Nat.le_of_not_lt hi)
      rw [Nat.testBit_lt_two_pow (Nat.lt_of_lt_of_le hn hle), Nat.testBit_lt_two_pow (Nat.lt_of_lt_of_le hv hle)]
  · rintro ⟨i, -, hd⟩ rfl
    exact hd rfl

/-! ### A validated profile -/

theorem validated_layout {r : RawProfile} {pf : Profile} (h : validate r = .ok pf) : LayoutSound pf.layout ∧
    pf.imageLength = ceilDiv (layoutWidth pf.layout) 32 ∧ namesAll pf.trimSet pf.layout = true := by
  obtain ⟨-, layout, hl, hn, rfl⟩ := validate_eq_ok h
  exact ⟨(checkLayout_sound hl).1, rfl, hn⟩

/-- Settles O13. -/
theorem unpackOfPackIsIdentity : Obligations.UnpackOfPackIsIdentity := by
  intro r pf h width offset streamBit
  obtain ⟨hsound, hlength, hnames⟩ := validated_layout h
  have hwidth : width = LayoutField.width := by
    funext f
    cases f <;> rfl
  have hoffset (j : Nat) : offset j = fieldOffset pf.layout j := by
    simp only [offset, fieldOffset, hwidth]
  have hbit (words : List Word) (n : Nat) : streamBit words n = (wordsStream words).testBit n :=
    (testBit_wordsStream words n).symm
  have hread (words : List Word) : LayoutSound ((readFields pf.layout (wordsStream words)).map (·.1)) := by
    rw [map_readFields]
    exact hsound
  refine ⟨fun value => ?pack, fun words => ?unpack, fun b ph w => trimWidth_eq_some hsound, fun w => ⟨rfl, rfl⟩, rfl⟩
  case pack =>
    have hstream : wordsStream (pack pf value) = packStream value pf.layout := wordsStream_pack value hlength
    refine ⟨streamWords_length _ _, fun j b ph w i hf hi => ?_, fun j w v i hf hi => ?_, fun n hn => ?_, fun hrange => ?_⟩
    · rw [hbit, hstream, hoffset, testBit_packStream value hf hi]
      exact testBit_twosBits w (value b ph) i
    · rw [hbit, hstream, hoffset, testBit_packStream value hf hi]
      show (v % 2 ^ w).testBit i = _
      rw [Nat.testBit_mod_two_pow]
      simp only [hi, decide_true, Bool.true_and]
    · rw [hoffset, fieldOffset_length] at hn
      rw [hbit, hstream]
      exact Nat.testBit_lt_two_pow (Nat.lt_of_lt_of_le (packStream_lt value pf.layout)
        (Nat.pow_le_pow_right (by decide) hn))
    · have hfields := readFields_packStream value pf.layout
      have hvalue : ∀ bp ∈ pf.trimSet,
          trimRead (pf.layout.map (fun f => (f, f.bits value))) bp.1 bp.2 = value bp.1 bp.2 := by
        intro bp hbp
        obtain ⟨w, hw⟩ := Option.isSome_iff_exists.mp (List.all_eq_true.mp hnames bp hbp)
        have hmem := (trimWidth_eq_some hsound).mp hw
        obtain ⟨hlo, hhi⟩ := hrange bp.1 bp.2 w hw
        have hw4 : 4 ≤ w := (hsound.fields _ hmem).1
        have hfirst : (pf.layout.map (fun f => (f, f.bits value))).map (·.1) = pf.layout := by
          rw [List.map_map]
          exact List.map_id _
        have hfield : (LayoutField.trim bp.1 bp.2 w, twosBits w (value bp.1 bp.2)) ∈
            pf.layout.map (fun f => (f, f.bits value)) := List.mem_map.mpr ⟨_, hmem, rfl⟩
        rw [trimRead_of_mem (hfirst.symm ▸ hsound) hfield]
        exact signedBits_twosBits (by omega) hlo hhi
      have hmismatch : (pf.layout.map (fun f => (f, f.bits value))).any fieldMismatch = false := by
        rw [List.any_eq_false]
        intro x hx
        obtain ⟨f, hf, rfl⟩ := List.mem_map.mp hx
        cases f with
        | trim b ph w => exact Bool.false_ne_true
        | fixed w v =>
          obtain ⟨-, -, hv⟩ := hsound.fields _ hf
          rw [fieldMismatch_fixed, not_not]
          exact Nat.mod_eq_of_lt hv
      unfold unpack
      rw [hstream, hfields]
      dsimp only
      rw [hmismatch, List.map_congr_left fun bp hbp => by rw [hvalue bp hbp]]
  case unpack =>
    intro image
    have hat {j : Nat} {f : LayoutField} (hf : pf.layout[j]? = some f) :
        (f, wordsStream words / 2 ^ fieldOffset pf.layout j % 2 ^ f.width) ∈ readFields pf.layout (wordsStream words) := by
      refine List.mem_of_getElem? (i := j) ?_
      rw [readFields_at, hf]
      rfl
    refine ⟨?_, fun j w u hu hf => ?_, ?_⟩
    · show (pf.trimSet.map _).map _ = _
      rw [List.map_map]
      exact List.map_id _
    · obtain ⟨bp, -, rfl⟩ := List.mem_map.mp hu
      have hvalue : trimRead (readFields pf.layout (wordsStream words)) bp.1 bp.2 =
          signedBits w (wordsStream words / 2 ^ fieldOffset pf.layout j % 2 ^ w) :=
        trimRead_of_mem (hread words) (hat hf)
      have hw4 : 4 ≤ w := (hsound.fields _ (List.mem_of_getElem? hf)).1
      have hlt := Nat.mod_lt (wordsStream words / 2 ^ fieldOffset pf.layout j) (Nat.two_pow_pos w)
      obtain ⟨hlo, hhi⟩ := signedBits_range (by omega) hlt
      dsimp only
      rw [hvalue]
      refine ⟨hlo, hhi, fun i hi => ?_⟩
      rw [← testBit_twosBits, twosBits_signedBits hlt, hbit, hoffset]
      exact testBit_field hi
    · have himage : image.mismatch = true ↔ ∃ f ∈ readFields pf.layout (wordsStream words), fieldMismatch f = true :=
        List.any_eq_true
      rw [himage]
      have hdiff {j w v : Nat} (hf : pf.layout[j]? = some (.fixed w v)) :
          wordsStream words / 2 ^ fieldOffset pf.layout j % 2 ^ w ≠ v ↔
            ∃ i, i < w ∧ streamBit words (offset j + i) ≠ v.testBit i := by
        obtain ⟨-, -, hv⟩ := hsound.fields _ (List.mem_of_getElem? hf)
        rw [ne_iff_testBit (Nat.mod_lt _ (Nat.two_pow_pos w)) hv]
        refine exists_congr fun i => and_congr_right fun hi => ?_
        rw [testBit_field hi, hbit, hoffset]
      constructor
      · rintro ⟨x, hx, hm⟩
        obtain ⟨j, hj⟩ := List.mem_iff_getElem?.mp hx
        rw [readFields_at, Option.map_eq_some_iff] at hj
        obtain ⟨f, hf, rfl⟩ := hj
        cases f with
        | trim b ph w => cases hm
        | fixed w v =>
          obtain ⟨i, hi, hd⟩ := (hdiff hf).mp (fieldMismatch_fixed.mp hm)
          exact ⟨j, w, v, i, hf, hi, hd⟩
      · rintro ⟨j, w, v, i, hf, hi, hd⟩
        exact ⟨_, hat hf, fieldMismatch_fixed.mpr ((hdiff hf).mpr ⟨i, hi, hd⟩)⟩

end Sys2Proof.Machine
end

section
/-! SUPPORT. What the validation of a profile checks, in which order, and what it holds (R38..R40). -/

namespace Sys2Proof.Machine

variable {r : RawProfile} {f : RawField} {pre fs : List RawField} {seen : List (Band × Phase)} {total i j : Nat}

/-! ### The indices 1..14 (R38) -/

/-- R38: the check of an index below the layout. -/
def RawProfile.RangeAt (r : RawProfile) : Nat → Prop
  | 1 => 1 ≤ r.typeCode ∧ r.typeCode ≤ 0xFFFE
  | 2 => r.elementCount = 1 ∨ r.elementCount = 3
  | 3 => 1 ≤ r.kmeter ∧ r.kmeter ≤ 1000000
  | 4 => r.pulseEdge ≤ 1
  | 5 => 1 ≤ r.minWidth ∧ r.minWidth ≤ 10000
  | 6 => r.glitchPolicy ≤ 1
  | 7 => r.bandCount = 1 ∨ r.bandCount = 2 ∨ r.bandCount = 3
  | 8 => (r.bandCount = 2 → 1 ≤ r.t1 ∧ r.t1 ≤ 200000) ∧ (r.bandCount = 3 → 1 ≤ r.t1 ∧ r.t1 ≤ 199999)
  | 9 => r.bandCount = 3 → r.t1 + 1 ≤ r.t2 ∧ r.t2 ≤ 200000
  | 10 => r.accuracyClass ≤ 3
  | 11 => 1 ≤ r.trimUnit ∧ r.trimUnit ≤ 100
  | 12 => 1 ≤ r.adjustLimit ∧ r.adjustLimit ≤ 200000
  | 13 => 1 ≤ r.maxRounds ∧ r.maxRounds ≤ 4
  | 14 => 1 ≤ r.fieldCount ∧ r.fieldCount ≤ 24
  | _ => True

theorem inRange_of_rangeAt (h : ∀ i, 1 ≤ i → i ≤ 14 → r.RangeAt i) : r.InRange := by
  have h7 : r.bandCount = 1 ∨ r.bandCount = 2 ∨ r.bandCount = 3 := h 7 (by decide) (by decide)
  obtain ⟨h8, h8'⟩ : (r.bandCount = 2 → 1 ≤ r.t1 ∧ r.t1 ≤ 200000) ∧ (r.bandCount = 3 → 1 ≤ r.t1 ∧ r.t1 ≤ 199999) :=
    h 8 (by decide) (by decide)
  have h9 : r.bandCount = 3 → r.t1 + 1 ≤ r.t2 ∧ r.t2 ≤ 200000 := h 9 (by decide) (by decide)
  exact {
    typeCode := h 1 (by decide) (by decide)
    elementCount := h 2 (by decide) (by decide)
    kmeter := h 3 (by decide) (by decide)
    pulseEdge := h 4 (by decide) (by decide)
    minWidth := h 5 (by decide) (by decide)
    glitchPolicy := h 6 (by decide) (by decide)
    bandCount := by omega
    two := h8
    three := by omega
    accuracyClass := h 10 (by decide) (by decide)
    trimUnit := h 11 (by decide) (by decide)
    adjustLimit := h 12 (by decide) (by decide)
    maxRounds := h 13 (by decide) (by decide)
    fieldCount := h 14 (by decide) (by decide) }

/-- A check of index k before the rest reports index i. -/
theorem reported {c : Prop} [Decidable c] {k i : Nat} {rest : Option Nat} (hi : k ≤ i) (hc : i = k → c)
    (hn : k < i → ¬ c) (hrest : k + 1 ≤ i → rest = some i) : (if c then some k else rest) = some i := by
  rcases Nat.lt_or_eq_of_le hi with hlt | rfl
  · rw [if_neg (hn hlt), hrest hlt]
  · rw [if_pos (hc rfl)]

/-- R38: the first index that fails is the one reported. -/
theorem firstBadIndex_eq_some (h1 : 1 ≤ i) (h14 : i ≤ 14) (hbad : ¬ r.RangeAt i)
    (hgood : ∀ j, 1 ≤ j → j < i → r.RangeAt j) : firstBadIndex r = some i := by
  have bad (k : Nat) (hk : i = k) : ¬ r.RangeAt k := hk ▸ hbad
  have good (k : Nat) (hk : 1 ≤ k) (hki : k < i) : r.RangeAt k := hgood k hk hki
  have good7 (h : 7 < i) : r.bandCount = 1 ∨ r.bandCount = 2 ∨ r.bandCount = 3 := good 7 (by decide) h
  have bad7 (h : i = 7) : ¬ (r.bandCount = 1 ∨ r.bandCount = 2 ∨ r.bandCount = 3) := bad 7 h
  have good8 (h : 8 < i) : (r.bandCount = 2 → 1 ≤ r.t1 ∧ r.t1 ≤ 200000) ∧ (r.bandCount = 3 → 1 ≤ r.t1 ∧ r.t1 ≤ 199999) :=
    good 8 (by decide) h
  have bad8 (h : i = 8) :
      ¬ ((r.bandCount = 2 → 1 ≤ r.t1 ∧ r.t1 ≤ 200000) ∧ (r.bandCount = 3 → 1 ≤ r.t1 ∧ r.t1 ≤ 199999)) := bad 8 h
  have good9 (h : 9 < i) : r.bandCount = 3 → r.t1 + 1 ≤ r.t2 ∧ r.t2 ≤ 200000 := good 9 (by decide) h
  have bad9 (h : i = 9) : ¬ (r.bandCount = 3 → r.t1 + 1 ≤ r.t2 ∧ r.t2 ≤ 200000) := bad 9 h
  unfold firstBadIndex
  refine reported h1 (bad 1) (fun h => not_not.mpr (good 1 (by decide) h)) fun h2 => ?_
  refine reported h2 (bad 2) (fun h => not_not.mpr (good 2 (by decide) h)) fun h3 => ?_
  refine reported h3 (bad 3) (fun h => not_not.mpr (good 3 (by decide) h)) fun h4 => ?_
  refine reported h4 (fun h => Nat.lt_of_not_le (bad 4 h)) (fun h => Nat.not_lt.mpr (good 4 (by decide) h)) fun h5 => ?_
  refine reported h5 (bad 5) (fun h => not_not.mpr (good 5 (by decide) h)) fun h6 => ?_
  refine reported h6 (fun h => Nat.lt_of_not_le (bad 6 h)) (fun h => Nat.not_lt.mpr (good 6 (by decide) h)) fun h7 => ?_
  refine reported h7 (fun h => by have := bad7 h; omega) (fun h => by have := good7 h; omega) fun h8 => ?_
  clear bad7 good7
  by_cases hsecond : r.bandCount = 2 ∧ ¬ (1 ≤ r.t1 ∧ r.t1 ≤ 200000)
  · have hi : i = 8 := by
      by_contra hne
      have := good8 (Nat.lt_of_le_of_ne h8 fun h => hne h.symm)
      omega
    rw [if_pos hsecond, hi]
  rw [if_neg hsecond]
  refine reported h8 (fun h => by have := bad8 h; omega) (fun h => by have := good8 h; omega) fun h9 => ?_
  clear bad8 good8
  refine reported h9 (fun h => by have := bad9 h; omega) (fun h => by have := good9 h; omega) fun h10 => ?_
  refine reported h10 (fun h => Nat.lt_of_not_le (bad 10 h)) (fun h => Nat.not_lt.mpr (good 10 (by decide) h))
    fun h11 => ?_
  refine reported h11 (bad 11) (fun h => not_not.mpr (good 11 (by decide) h)) fun h12 => ?_
  refine reported h12 (bad 12) (fun h => not_not.mpr (good 12 (by decide) h)) fun h13 => ?_
  refine reported h13 (bad 13) (fun h => not_not.mpr (good 13 (by decide) h)) fun h14' => ?_
  exact reported h14' (bad 14) (fun h => absurd h (Nat.not_lt.mpr h14)) fun h => absurd h (Nat.not_lt.mpr h14)

/-! ### The layout (R38, R39) -/

/-- R38: is a trim of these codes of the profile's set? -/
def RawProfile.Present (r : RawProfile) (band phase : Nat) : Prop :=
  (band = 1 ∨ (band = 0 ∧ 2 ≤ r.bandCount) ∨ (band = 2 ∧ r.bandCount = 3)) ∧
  (phase = 0 ∨ (r.elementCount = 3 ∧ (phase = 1 ∨ phase = 2)))

theorem mem_bandsOf (hr : r.InRange) {b : Band} : b ∈ bandsOf r.bandCount ↔
    b.code = 1 ∨ (b.code = 0 ∧ 2 ≤ r.bandCount) ∨ (b.code = 2 ∧ r.bandCount = 3) := by
  have h := hr.bandCount
  unfold bandsOf
  split
  · cases b <;> simp [Band.code] <;> omega
  · split
    · cases b <;> simp [Band.code] <;> omega
    · cases b <;> simp [Band.code] <;> omega

theorem mem_phasesOf {p : Phase} : p ∈ phasesOf r.elementCount ↔
    p.code = 0 ∨ (r.elementCount = 3 ∧ (p.code = 1 ∨ p.code = 2)) := by
  unfold phasesOf
  split <;> cases p <;> simp [Phase.code, *]

theorem present_iff (hr : r.InRange) {band phase : Nat} : r.Present band phase ↔
    ∃ b p, bandOfCode band = some b ∧ phaseOfCode phase = some p ∧ b ∈ bandsOf r.bandCount ∧ p ∈ phasesOf r.elementCount := by
  simp only [bandOfCode_eq_some, phaseOfCode_eq_some, mem_bandsOf hr, mem_phasesOf]
  unfold RawProfile.Present
  constructor
  · rintro ⟨hb, hp⟩
    have hband : ∃ b : Band, b.code = band := by
      rcases hb with rfl | ⟨rfl, -⟩ | ⟨rfl, -⟩
      exacts [⟨.nominal, rfl⟩, ⟨.low, rfl⟩, ⟨.high, rfl⟩]
    have hphase : ∃ p : Phase, p.code = phase := by
      rcases hp with rfl | ⟨-, rfl | rfl⟩
      exacts [⟨.a, rfl⟩, ⟨.b, rfl⟩, ⟨.c, rfl⟩]
    obtain ⟨b, rfl⟩ := hband
    obtain ⟨p, rfl⟩ := hphase
    exact ⟨b, p, rfl, rfl, hb, hp⟩
  · rintro ⟨b, p, rfl, rfl, hb, hp⟩
    exact ⟨hb, hp⟩

/-- R40: a validated layout field as it is held. -/
def RawField.held (f : RawField) : LayoutField :=
  if f.kind = 1 then
    .trim (if f.band = 0 then .low else if f.band = 1 then .nominal else .high)
      (if f.phase = 0 then .a else if f.phase = 1 then .b else .c) f.width
  else .fixed f.width f.value

theorem width_held (f : RawField) : f.held.width = f.width := by
  unfold RawField.held
  split <;> rfl

/-- R38: the check of a layout field but for the total width. -/
def RawProfile.FieldOk (r : RawProfile) (pre : List RawField) (f : RawField) : Prop :=
  (f.kind = 1 ∧ 4 ≤ f.width ∧ f.width ≤ 24 ∧ r.Present f.band f.phase ∧
      ∀ g ∈ pre, g.kind = 1 → ¬ (g.band = f.band ∧ g.phase = f.phase)) ∨
    (f.kind = 2 ∧ 1 ≤ f.width ∧ f.width ≤ 24 ∧ f.value < 2 ^ f.width)

/-- The trims seen are those that the fields before name. -/
def SeenBy (seen : List (Band × Phase)) (pre : List RawField) : Prop :=
  ∀ b p, (b, p) ∈ seen ↔ ∃ g ∈ pre, g.kind = 1 ∧ g.band = b.code ∧ g.phase = p.code

theorem held_trim {b : Band} {p : Phase} (hk : f.kind = 1) (hb : bandOfCode f.band = some b)
    (hp : phaseOfCode f.phase = some p) : f.held = .trim b p f.width := by
  rw [bandOfCode_eq_some] at hb
  rw [phaseOfCode_eq_some] at hp
  unfold RawField.held
  rw [if_pos hk, ← hb, ← hp]
  cases b <;> cases p <;> rfl

theorem held_fixed (hk : f.kind = 2) : f.held = .fixed f.width f.value := if_neg (by omega)

theorem checkField_ok (hr : r.InRange) (hseen : SeenBy seen pre) (hf : r.FieldOk pre f) :
    checkField (bandsOf r.bandCount) (phasesOf r.elementCount) seen f = some f.held := by
  rcases hf with ⟨hk, h4, h24, hpresent, hnew⟩ | ⟨hk, hw⟩
  · obtain ⟨b, p, hb, hp, hbs, hps⟩ := (present_iff hr).mp hpresent
    have hnot : (b, p) ∉ seen := fun hm => by
      obtain ⟨g, hg, hgk, hgb, hgp⟩ := (hseen b p).mp hm
      exact hnew g hg hgk ⟨hgb.trans (bandOfCode_eq_some.mp hb), hgp.trans (phaseOfCode_eq_some.mp hp)⟩
    simp only [checkField, hk, hb, hp, if_true]
    rw [if_pos ⟨h4, h24, hbs, hps, hnot⟩, held_trim hk hb hp]
  · have h1 : f.kind ≠ 1 := by omega
    simp only [checkField, if_neg h1, if_pos hk, held_fixed hk]
    exact if_pos hw

theorem checkField_bad (hr : r.InRange) (hseen : SeenBy seen pre) (hf : ¬ r.FieldOk pre f) :
    checkField (bandsOf r.bandCount) (phasesOf r.elementCount) seen f = none := by
  cases hc : checkField (bandsOf r.bandCount) (phasesOf r.elementCount) seen f with
  | none => rfl
  | some g =>
    refine absurd ?_ hf
    unfold checkField at hc
    split at hc
    next hk =>
      split at hc
      next b p hb hp =>
        rw [Option.ite_none_right_eq_some] at hc
        obtain ⟨⟨h4, h24, hbs, hps, hnot⟩, -⟩ := hc
        refine .inl ⟨hk, h4, h24, (present_iff hr).mpr ⟨b, p, hb, hp, hbs, hps⟩, fun g hg hgk hgf => hnot ?_⟩
        exact (hseen b p).mpr ⟨g, hg, hgk, hgf.1.trans (bandOfCode_eq_some.mp hb).symm,
          hgf.2.trans (phaseOfCode_eq_some.mp hp).symm⟩
      next => cases hc
    next =>
      rw [Option.ite_none_right_eq_some, Option.ite_none_right_eq_some] at hc
      exact .inr ⟨hc.1, hc.2.1⟩

theorem SeenBy.snoc (hr : r.InRange) (hseen : SeenBy seen pre) (hf : r.FieldOk pre f) :
    SeenBy (seenWith f.held seen) (pre ++ [f]) := by
  intro b p
  rw [mem_seenWith, hseen b p]
  simp only [List.mem_append, List.mem_singleton, or_and_right, exists_or, exists_eq_left]
  rw [or_comm]
  refine or_congr_right ?_
  rcases hf with ⟨hk, -, -, hpresent, -⟩ | ⟨hk, -⟩
  · obtain ⟨b', p', hb, hp, -, -⟩ := (present_iff hr).mp hpresent
    rw [held_trim hk hb hp, ← bandOfCode_eq_some.mp hb, ← phaseOfCode_eq_some.mp hp, Band.code_inj, Phase.code_inj]
    simp only [LayoutField.named, hk, true_and, Option.some.injEq, Prod.mk.injEq]
  · have h1 : f.kind ≠ 1 := by omega
    simp only [held_fixed hk, LayoutField.named, h1, false_and, reduceCtorEq]

/-- R38: the sum of the widths of raw fields. -/
def widths (fs : List RawField) : Nat := (fs.map (·.width)).sum

theorem widths_snoc (pre : List RawField) (f : RawField) : widths (pre ++ [f]) = widths pre + f.width := by
  simp [widths]

/-- R38: the row 14 + j for the field behind those of `pre`. -/
def RawProfile.Passes (r : RawProfile) (pre : List RawField) (f : RawField) : Prop :=
  r.FieldOk pre f ∧ widths (pre ++ [f]) ≤ 512

theorem checkLayout_passes {idx : Nat} (hr : r.InRange) (hseen : SeenBy seen pre) (hf : r.Passes pre f) :
    checkLayout (bandsOf r.bandCount) (phasesOf r.elementCount) seen (widths pre) idx (f :: fs) =
      (checkLayout (bandsOf r.bandCount) (phasesOf r.elementCount) (seenWith f.held seen) (widths (pre ++ [f])) (idx + 1)
        fs).map (f.held :: ·) := by
  have hw := hf.2
  rw [widths_snoc] at hw
  rw [checkLayout, checkField_ok hr hseen hf.1, widths_snoc]
  simp only [width_held, if_neg (Nat.not_lt.mpr hw)]
  cases checkLayout (bandsOf r.bandCount) (phasesOf r.elementCount) (seenWith f.held seen) (widths pre + f.width)
    (idx + 1) fs <;> rfl

theorem checkLayout_fails {idx : Nat} (hr : r.InRange) (hseen : SeenBy seen pre) (hf : ¬ r.Passes pre f) :
    checkLayout (bandsOf r.bandCount) (phasesOf r.elementCount) seen (widths pre) idx (f :: fs) = .error idx := by
  by_cases hok : r.FieldOk pre f
  · have hw : 512 < widths pre + f.width := by
      rw [← widths_snoc]
      exact Nat.lt_of_not_le fun h => hf ⟨hok, h⟩
    rw [checkLayout, checkField_ok hr hseen hok]
    simp only [width_held, if_pos hw]
  · rw [checkLayout, checkField_bad hr hseen hok]

/-- R38, R39: every row passes: the layout is held. -/
theorem checkLayout_ok {idx : Nat} (hr : r.InRange) (hseen : SeenBy seen pre)
    (h : ∀ pre' f post, fs = pre' ++ f :: post → r.Passes (pre ++ pre') f) :
    checkLayout (bandsOf r.bandCount) (phasesOf r.elementCount) seen (widths pre) idx fs =
      .ok (fs.map RawField.held) := by
  induction fs generalizing pre seen idx with
  | nil => rfl
  | cons f fs ih =>
    have hf : r.Passes pre f := by simpa using h [] f fs rfl
    rw [checkLayout_passes hr hseen hf, ih (hseen.snoc hr hf.1) fun pre' g post he => ?_]
    · rfl
    · simpa using h (f :: pre') g post (by rw [he]; rfl)

/-- R38: the first row that fails is the one reported. -/
theorem checkLayout_error {idx : Nat} {pre' post : List RawField} (hr : r.InRange) (hseen : SeenBy seen pre)
    (hfs : fs = pre' ++ f :: post) (hbad : ¬ r.Passes (pre ++ pre') f)
    (hgood : ∀ a g b, pre' = a ++ g :: b → r.Passes (pre ++ a) g) :
    checkLayout (bandsOf r.bandCount) (phasesOf r.elementCount) seen (widths pre) idx fs =
      .error (idx + pre'.length) := by
  subst hfs
  induction pre' generalizing pre seen idx with
  | nil =>
    rw [List.append_nil] at hbad
    exact checkLayout_fails hr hseen hbad
  | cons g pre' ih =>
    have hg : r.Passes pre g := by simpa using hgood [] g pre' rfl
    have hbad' : ¬ r.Passes (pre ++ [g] ++ pre') f := by rwa [List.append_assoc]
    rw [List.cons_append, checkLayout_passes hr hseen hg, ih (hseen.snoc hr hg.1) hbad' fun a k b he => ?_,
      List.length_cons, Nat.add_assoc, Nat.add_comm 1]
    · rfl
    · have := hgood (g :: a) k b (by rw [he]; rfl)
      rwa [List.append_assoc]

/-! ### The trims named (R38, the last row) -/

theorem trimWidth_isSome {b : Band} {p : Phase} {layout : List LayoutField} :
    (trimWidth b p layout).isSome = true ↔ ∃ w, .trim b p w ∈ layout := by
  induction layout with
  | nil => simp [trimWidth]
  | cons g layout ih =>
    cases g with
    | fixed w v => simp [trimWidth, ih]
    | trim b' p' w =>
      unfold trimWidth
      split
      next he =>
        obtain ⟨rfl, rfl⟩ := he
        exact ⟨fun _ => ⟨w, List.mem_cons_self⟩, fun _ => rfl⟩
      next hne =>
        rw [ih]
        refine exists_congr fun w' => ?_
        rw [List.mem_cons, LayoutField.trim.injEq]
        exact (or_iff_right fun he => hne ⟨he.1.symm, he.2.1.symm⟩).symm

theorem namesAll_held (hr : r.InRange) (hfs : ∀ f ∈ fs, ∃ pre, r.FieldOk pre f) :
    namesAll (trimSetOf r.bandCount r.elementCount) (fs.map RawField.held) = true ↔
      ∀ band phase, r.Present band phase → ∃ f ∈ fs, f.kind = 1 ∧ f.band = band ∧ f.phase = phase := by
  have hnamed (b : Band) (p : Phase) : (∃ w, .trim b p w ∈ fs.map RawField.held) ↔
      ∃ f ∈ fs, f.kind = 1 ∧ f.band = b.code ∧ f.phase = p.code := by
    simp only [List.mem_map]
    rw [exists_comm]
    refine exists_congr fun f => ?_
    rw [exists_and_left]
    refine and_congr_right fun hf => ?_
    obtain ⟨pre, ⟨hk, -, -, hpresent, -⟩ | ⟨hk, -⟩⟩ := hfs f hf
    · obtain ⟨b', p', hb, hp, -, -⟩ := (present_iff hr).mp hpresent
      rw [held_trim hk hb hp, ← bandOfCode_eq_some.mp hb, ← phaseOfCode_eq_some.mp hp, Band.code_inj, Phase.code_inj]
      simp [hk]
    · simp [held_fixed hk, hk]
  rw [namesAll, List.all_eq_true]
  simp only [trimWidth_isSome, hnamed]
  constructor
  · intro h band phase hpresent
    obtain ⟨b, p, hb, hp, hbs, hps⟩ := (present_iff hr).mp hpresent
    rw [← bandOfCode_eq_some.mp hb, ← phaseOfCode_eq_some.mp hp]
    exact h (b, p) (List.mem_flatMap.mpr ⟨b, hbs, List.mem_map_of_mem hps⟩)
  · intro h bp hbp
    obtain ⟨b, hbs, hm⟩ := List.mem_flatMap.mp hbp
    obtain ⟨p, hps, rfl⟩ := List.mem_map.mp hm
    exact h b.code p.code ((present_iff hr).mpr
      ⟨b, p, bandOfCode_eq_some.mpr rfl, phaseOfCode_eq_some.mpr rfl, hbs, hps⟩)

end Sys2Proof.Machine
end

section
/-! Proof of O30: LOAD_PROFILE and the validation of a profile (R38..R40, R43, R44). -/

namespace Sys2Proof.Machine

variable {s t : State} {r : RawProfile} {f : RawField} {fs : List RawField} {i j n p q : Nat} {args : List Byte}

/-! ### The fields of a block ([PORT:FMT:BLK]) -/

theorem rawFields_eq (n : Nat) (bs : List Byte) : rawFields n bs = (List.range n).map (fun j =>
    ⟨uField bs (8 * j) 1, uField bs (1 + 8 * j) 1, uField bs (2 + 8 * j) 1, uField bs (3 + 8 * j) 1,
      uField bs (4 + 8 * j) 4⟩) := by
  induction n generalizing bs with
  | zero => rfl
  | succ n ih =>
    rw [rawFields, ih, List.range_succ_eq_map, List.map_cons, List.map_map]
    refine congrArg (_ :: ·) (List.map_congr_left fun j _ => ?_)
    simp only [uField_drop, Function.comp_apply, Nat.mul_succ]
    congr 1 <;> congr 1 <;> omega

/-! ### Validation (R38..R40) -/

theorem validate_range (h1 : 1 ≤ i) (h14 : i ≤ 14) (hbad : ¬ r.RangeAt i)
    (hgood : ∀ j, 1 ≤ j → j < i → r.RangeAt j) : validate r = .error i := by
  simp only [validate, firstBadIndex_eq_some h1 h14 hbad hgood]

theorem validate_layout_error (hr : r.InRange) {e : Nat}
    (h : checkLayout (bandsOf r.bandCount) (phasesOf r.elementCount) [] 0 15 (r.places.take r.fieldCount) = .error e) :
    validate r = .error e := by
  simp only [validate, (firstBadIndex_eq_none r).mpr hr, h]

theorem validate_unnamed (hr : r.InRange) {layout : List LayoutField}
    (h : checkLayout (bandsOf r.bandCount) (phasesOf r.elementCount) [] 0 15 (r.places.take r.fieldCount) = .ok layout)
    (hn : namesAll (trimSetOf r.bandCount r.elementCount) layout ≠ true) : validate r = .error 14 := by
  simp only [validate, (firstBadIndex_eq_none r).mpr hr, h]
  exact if_neg hn

theorem seenBy_nil : SeenBy [] [] := fun b p => by simp

/-- The fields before and behind the j-th. -/
theorem split_at (hj : 1 ≤ j) (hf : fs[j - 1]? = some f) : fs = fs.take (j - 1) ++ f :: fs.drop j ∧
    (fs.take (j - 1)).length = j - 1 ∧ fs.take j = fs.take (j - 1) ++ [f] := by
  obtain ⟨k, rfl⟩ := Nat.exists_eq_add_of_le' hj
  rw [Nat.add_sub_cancel] at hf ⊢
  obtain ⟨hlt, hat⟩ := List.getElem?_eq_some_iff.mp hf
  refine ⟨?_, List.length_take_of_le (Nat.le_of_lt hlt), by rw [List.take_add_one, hf]; rfl⟩
  rw [← hat, ← List.drop_eq_getElem_cons hlt, List.take_append_drop]

theorem at_split {pre post : List RawField} (h : fs = pre ++ f :: post) :
    fs[pre.length + 1 - 1]? = some f ∧ fs.take (pre.length + 1 - 1) = pre := by
  subst h
  rw [Nat.add_sub_cancel]
  exact ⟨by simp, List.take_left⟩

theorem layoutWidth_held (fs : List RawField) : layoutWidth (fs.map RawField.held) = widths fs := by
  rw [layoutWidth_eq, List.map_map, widths]
  exact congrArg List.sum (List.map_congr_left fun f _ => width_held f)

/-- R38: the row of the j-th layout field. -/
def RawProfile.PassesAt (r : RawProfile) (fs : List RawField) (j : Nat) : Prop :=
  ∀ f, fs[j - 1]? = some f → r.FieldOk (fs.take (j - 1)) f ∧ widths (fs.take j) ≤ 512

theorem passesAt_iff (hj : 1 ≤ j) (hf : fs[j - 1]? = some f) : r.PassesAt fs j ↔ r.Passes (fs.take (j - 1)) f := by
  obtain ⟨-, -, htake⟩ := split_at hj hf
  unfold RawProfile.Passes
  rw [← htake]
  refine ⟨fun h => h f hf, fun h g hg => ?_⟩
  cases hf.symm.trans hg
  exact h

theorem validate_field (hr : r.InRange) (hfs : r.places.take r.fieldCount = fs) (hj : 1 ≤ j) (hbad : ¬ r.PassesAt fs j)
    (hgood : ∀ i, 1 ≤ i → i < j → r.PassesAt fs i) : validate r = .error (14 + j) := by
  have hex : ∃ f, fs[j - 1]? = some f := by
    by_contra hnone
    exact hbad fun f hf => absurd ⟨f, hf⟩ hnone
  obtain ⟨f, hf⟩ := hex
  obtain ⟨hsplit, hlen, -⟩ := split_at hj hf
  have herror := checkLayout_error (idx := 15) hr seenBy_nil hsplit ((passesAt_iff hj hf).not.mp hbad)
    fun a g b he => ?_
  · refine validate_layout_error hr ?_
    rw [hfs, show (14 + j) = 15 + (fs.take (j - 1)).length by omega]
    exact herror
  · have hgs : fs = a ++ g :: (b ++ f :: fs.drop j) := by
      rw [← List.cons_append, ← List.append_assoc, ← he]
      exact hsplit
    obtain ⟨hat, htake⟩ := at_split hgs
    have hlt : a.length + 1 < j + 1 := by
      have := congrArg List.length he
      rw [hlen, List.length_append, List.length_cons] at this
      omega
    have hne : a.length + 1 < j := by
      have := congrArg List.length he
      rw [hlen, List.length_append, List.length_cons] at this
      omega
    have := (passesAt_iff (Nat.le_add_left 1 _) hat).mp (hgood _ (Nat.le_add_left 1 _) hne)
    rwa [htake] at this

theorem passes_all (h : ∀ j, 1 ≤ j → j ≤ fs.length → r.PassesAt fs j) :
    ∀ pre f post, fs = pre ++ f :: post → r.Passes ([] ++ pre) f := by
  intro pre f post he
  obtain ⟨hat, htake⟩ := at_split he
  have hlen : pre.length + 1 ≤ fs.length := by
    rw [he, List.length_append, List.length_cons]
    omega
  have := (passesAt_iff (Nat.le_add_left 1 _) hat).mp (h _ (Nat.le_add_left 1 _) hlen)
  rwa [htake] at this

theorem checkLayout_held (hr : r.InRange) (h : ∀ j, 1 ≤ j → j ≤ fs.length → r.PassesAt fs j) :
    checkLayout (bandsOf r.bandCount) (phasesOf r.elementCount) [] 0 15 fs = .ok (fs.map RawField.held) :=
  checkLayout_ok (pre := []) hr seenBy_nil (passes_all h)

theorem fieldOk_of_passes (h : ∀ j, 1 ≤ j → j ≤ fs.length → r.PassesAt fs j) : ∀ f ∈ fs, ∃ pre, r.FieldOk pre f := by
  intro f hf
  obtain ⟨pre, post, he⟩ := List.append_of_mem hf
  exact ⟨_, (passes_all h pre f post he).1⟩

theorem forcedProfile_held (hr : r.InRange) : forcedProfile r (fs.map RawField.held) =
    { typeCode := r.typeCode, elementCount := r.elementCount, kmeter := r.kmeter
      pulseEdge := if r.pulseEdge = 0 then .rising else .falling
      minWidth := r.minWidth, glitchPolicy := if r.glitchPolicy = 0 then .stall else .ignore
      bandCount := r.bandCount
      t1 := if r.bandCount = 1 then 0 else r.t1
      t2 := if r.bandCount = 3 then r.t2 else 0
      accuracyClass := r.accuracyClass, trimUnit := r.trimUnit, adjustLimit := r.adjustLimit
      maxRounds := r.maxRounds
      layout := fs.map RawField.held
      imageLength := (widths fs + 31) / 32 } := by
  have h2 : (if r.bandCount < 3 then 0 else r.t2) = if r.bandCount = 3 then r.t2 else 0 := by
    have := hr.bandCount
    split <;> split <;> omega
  unfold forcedProfile ceilDiv
  rw [layoutWidth_held, h2]

/-! ### The announcement (R44) -/

/-- R44: a position that the announcement of a type code makes identify again. -/
def Position.Announced (x : Position) (typeCode : Nat) : Prop :=
  x.state = .unknownType ∧ x.identity.map (·.typeCode) = some typeCode

/-- R58: a position that begins to identify. -/
def Position.identifying (x : Position) : Position :=
  { x with state := .identifying, phase := some .ident, identity := none, item := some (newItem .ident) }

/-- R44: one position's announcement. -/
def announceAt (typeCode : Nat) (t : State) (p : Nat) : State :=
  if (t.position p).state = .unknownType ∧ (t.position p).identity.map (·.typeCode) = some typeCode then
    t.enterIdentifying p
  else t

theorem announce_eq (typeCode : Nat) (s : State) : s.announce typeCode = (places 48).foldl (announceAt typeCode) s := rfl

theorem announceAt_pos {typeCode : Nat} (h : (t.position p).Announced typeCode) :
    announceAt typeCode t p = t.enterIdentifying p := if_pos h

theorem announceAt_neg {typeCode : Nat} (h : ¬ (t.position p).Announced typeCode) : announceAt typeCode t p = t := if_neg h

theorem samePlant_positionBecomes (s : State) (p : Nat) (g : Position → Position) : SamePlant s (s.positionBecomes p g) := by
  unfold SamePlant
  rw [State.positionBecomes_eq, State.raiseIf]
  split <;> rfl

theorem samePlant_announce (typeCode : Nat) (s : State) : SamePlant s (s.announce typeCode) := by
  refine samePlant_foldl (step := announceAt typeCode) (fun t p => ?_) (places 48) s
  by_cases h : (t.position p).Announced typeCode
  · rw [announceAt_pos h, State.enterIdentifying_eq]
    exact samePlant_positionBecomes t p _
  · rw [announceAt_neg h]
    rfl

open Classical in
theorem eachPosition_announce (typeCode : Nat) : EachPosition (announceAt typeCode) State.Shaped
    (fun x => if x.Announced typeCode then x.identifying else x) where
  own t p ht hp := by
    split
    next h =>
      rw [announceAt_pos h, State.enterIdentifying_eq, State.position_positionBecomes_same _ ht hp]
      rfl
    next h => rw [announceAt_neg h]
  other t p q hq := by
    by_cases h : (t.position p).Announced typeCode
    · rw [announceAt_pos h, State.enterIdentifying_eq, State.position_positionBecomes_other _ hq]
    · rw [announceAt_neg h]
  good t p ht := by
    by_cases h : (t.position p).Announced typeCode
    · rw [announceAt_pos h]
      exact still_shaped (still_enterIdentifying t p) ht
    · rwa [announceAt_neg h]

theorem position_announce {typeCode : Nat} (hs : s.Shaped) (hp : isPosition p = true) :
    ((s.position p).Announced typeCode → (s.announce typeCode).position p = (s.position p).identifying) ∧
    (¬ (s.position p).Announced typeCode → (s.announce typeCode).position p = s.position p) := by
  have hall := (eachPosition_announce typeCode).all hs hp
  rw [announce_eq, hall]
  exact ⟨fun h => if_pos h, fun h => if_neg h⟩

/-! ### LOAD_PROFILE (R43) -/

theorem doLoadProfile_busy (h : s.store.activity = .saving) : doLoadProfile args s = refuse s .busy := by
  simp only [doLoadProfile, if_pos h]

section
variable (hb : s.store.activity ≠ .saving)
include hb

theorem doLoadProfile_badArgument (hc : within 16 (uField args 0 1) = false) :
    doLoadProfile args s = refuse s .badArgument := by
  simp only [doLoadProfile, if_neg hb, hc]
  exact if_pos Bool.false_ne_true

variable (hc : within 16 (uField args 0 1) = true)
include hc

theorem doLoadProfile_invalid {idx : Nat} (hv : validate (rawProfile (args.drop 1)) = .error idx) :
    doLoadProfile args s = ⟨s, .badProfile, u8 idx⟩ := by
  simp only [doLoadProfile, if_neg hb, hc, hv]
  exact if_neg (not_not.mpr trivial)

variable {pf : Profile} (hv : validate (rawProfile (args.drop 1)) = .ok pf)
include hv

theorem doLoadProfile_valid : doLoadProfile args s =
    if (s.profileSlot (uField args 0 1)).any (fun ps => decide (0 < ps.pins)) then refuse s .pinned
    else if s.typeElsewhere (uField args 0 1) pf.typeCode then refuse s .duplicate
    else taken (s.installProfile (uField args 0 1) pf) (u8 pf.imageLength ++ u16 (layoutWidth pf.layout)) := by
  simp only [doLoadProfile, if_neg hb, hc, hv]
  exact if_neg (not_not.mpr trivial)

end

theorem typeElsewhere_iff {code typeCode : Nat} : s.typeElsewhere code typeCode = true ↔
    ∃ c q, within 16 c = true ∧ c ≠ code ∧ s.profileAt c = some q ∧ q.typeCode = typeCode := by
  simp only [State.typeElsewhere, List.any_eq_true, mem_places, Bool.and_eq_true, decide_eq_true_eq,
    Option.any_eq_true, beq_iff_eq]
  constructor
  · rintro ⟨c, hc, hne, q, hq, ht⟩
    exact ⟨c, q, hc, hne, hq, ht⟩
  · rintro ⟨c, q, hc, hne, hq, ht⟩
    exact ⟨c, hc, hne, q, hq, ht⟩

/-- R44: the profile in its place, before the announcement. -/
def State.withProfile (code : Nat) (pf : Profile) (s : State) : State :=
  { s with profiles := setPlace s.profiles code (some ⟨pf, 0⟩) }

theorem installProfile_eq (code : Nat) (pf : Profile) (s : State) :
    s.installProfile code pf = ((s.withProfile code pf).announce pf.typeCode).settle := rfl

theorem shaped_withProfile (code : Nat) (pf : Profile) (hs : s.Shaped) : (s.withProfile code pf).Shaped := by
  obtain ⟨h1, h2, h3, h4, h5, h6⟩ := hs
  exact ⟨h1, h2, h3, h4, (length_setPlace ..).trans h5, h6⟩

theorem installProfile_frame (code : Nat) (pf : Profile) (s : State) : s.installProfile code pf = { s with
    profiles := setPlace s.profiles code (some ⟨pf, 0⟩)
    positions := (s.installProfile code pf).positions
    lanes := (s.installProfile code pf).lanes
    inFlight := (s.installProfile code pf).inFlight
    port := { s.port with pendingSet := (s.installProfile code pf).port.pendingSet } } := by
  have hplant := samePlant_announce pf.typeCode (s.withProfile code pf)
  unfold SamePlant at hplant
  have hport : (s.installProfile code pf).port = ((s.withProfile code pf).announce pf.typeCode).port := by
    rw [installProfile_eq, settle_port]
  have hset := settle_frame ((s.withProfile code pf).announce pf.typeCode)
  rw [← installProfile_eq, hplant] at hset
  rw [hport]
  exact hset

/-- Settles O30. -/
theorem loadProfileInstallsAndAnnounces : Obligations.LoadProfileInstallsAndAnnounces := by
  refine ⟨fun bs offset width => rfl, fun bs => ?block, fun r => ?validation, fun s tag args rest hs ho => ?load⟩
  case block =>
    intro field
    have hplaces : rawFields 24 (bs.drop 28) = (List.range 24).map (fun j =>
        ⟨field (28 + 8 * j) 1, field (29 + 8 * j) 1, field (30 + 8 * j) 1, field (31 + 8 * j) 1, field (32 + 8 * j) 4⟩) := by
      rw [rawFields_eq]
      simp only [uField_drop, ← Nat.add_assoc, Nat.reduceAdd]
      rfl
    rw [rawProfile, hplaces]
    rfl
  case validation =>
    intro inRange fields present fieldOk passes named
    have hrange {i : Nat} (h1 : 1 ≤ i) (h14 : i ≤ 14) : inRange i ↔ r.RangeAt i := by
      interval_cases i <;> simp [inRange, RawProfile.RangeAt]
    refine ⟨fun i h1 h14 hbad hgood => ?_, fun hall => ?_⟩
    · exact validate_range h1 h14 ((hrange h1 h14).not.mp hbad) fun j hj hji =>
        (hrange hj (by omega)).mp (hgood j hj hji)
    have hr : r.InRange := inRange_of_rangeAt fun i h1 h14 => (hrange h1 h14).mp (hall i h1 h14)
    refine ⟨fun j hj hlen hbad hgood => validate_field hr rfl hj hbad hgood, fun hpass => ⟨fun band phase hp hn => ?_, fun hnamed => ?_⟩⟩
    · refine validate_unnamed hr (checkLayout_held hr hpass) fun hall => hn ?_
      exact (namesAll_held hr (fieldOk_of_passes hpass)).mp hall band phase hp
    · have hok := validate_of_inRange hr (checkLayout_held hr hpass)
        ((namesAll_held hr (fieldOk_of_passes hpass)).mpr hnamed)
      rw [forcedProfile_held hr] at hok
      exact hok
  case load =>
    intro code refused pinned elsewhere
    have hpinned : ((s.dequeued rest).profileSlot code).any (fun ps => decide (0 < ps.pins)) = true ↔ pinned := by
      rw [Option.any_eq_true]
      simp only [decide_eq_true_eq]
      exact Iff.rfl
    refine ⟨fun hb => exec_request (k := .loadProfile) ho (doLoadProfile_busy (s := s.dequeued rest) hb),
      fun hb hc => exec_request (k := .loadProfile) ho (doLoadProfile_badArgument (s := s.dequeued rest) hb hc),
      fun idx hb hc hv => exec_request (k := .loadProfile) ho (doLoadProfile_invalid (s := s.dequeued rest) hb hc hv),
      fun pf hb hc hv => ?_⟩
    have hvalid := doLoadProfile_valid (s := s.dequeued rest) hb hc hv
    refine ⟨fun hp => exec_request (k := .loadProfile) ho (hvalid.trans (if_pos (hpinned.mpr hp))),
      fun hp he => exec_request (k := .loadProfile) ho (hvalid.trans ((if_neg (hpinned.not.mpr hp)).trans
        (if_pos (typeElsewhere_iff.mpr he)))), fun hp he => ?_⟩
    have htaken := hvalid.trans ((if_neg (hpinned.not.mpr hp)).trans (if_neg (typeElsewhere_iff.not.mpr he)))
    have hframe := installProfile_frame code pf (s.dequeued rest)
    have hs' : ((s.dequeued rest).withProfile code pf).Shaped := shaped_withProfile code pf hs
    obtain ⟨h1, h16⟩ := within_iff.mp hc
    refine ⟨(s.dequeued rest).installProfile code pf, exec_request (k := .loadProfile) ho htaken, ?_, fun c hne => ?_,
      fun p hp hu ht => ?_, fun p hp hn => ?_, ?_⟩
    · rw [hframe]
      exact place_setPlace_same s.profiles _ h1 (hs.2.2.2.2.1.symm ▸ h16)
    · rw [hframe]
      exact place_setPlace_other s.profiles _ hne
    · have hpos := (position_announce hs' hp).1 ⟨hu, ht⟩
      have hset := position_settle (((s.dequeued rest).withProfile code pf).announce pf.typeCode) p
      rw [← installProfile_eq, hpos] at hset
      have hstate := congrArg Position.state hset
      have hphase := congrArg Position.phase hset
      have hidentity := congrArg Position.identity hset
      refine ⟨hstate, hphase, hidentity, ?_⟩
      rw [installProfile_eq]
      refine item_settle_ident ?_
      rw [hpos]
      rfl
    · have hpos := (position_announce hs' hp).2 hn
      rw [installProfile_eq, position_settle, hpos]
      rfl
    · rw [hframe]
      exact ⟨rfl, rfl, rfl, rfl, rfl, rfl, rfl⟩

end Sys2Proof.Machine
end

section
/-! Proof of O29: SET_BENCH (R54, R97, R98, R206, R207). -/

namespace Sys2Proof.Machine

variable {s t : State} {p q n : Nat} {args : List Byte} {as : List (Nat × Nat)} {a : Nat × Nat}

/-! ### What the samples of a change of polarity raise (R20, R54) -/

theorem port_sample (hs : s.Shaped) (hp : isPosition p = true) : (s.sample p).port =
    if (s.position p).state ≠ (sampledPosition s.port.bench (s.position p)).state then s.port.positionsChanged
    else s.port := by
  rw [sampledPosition_eq]
  by_cases h : senseOf s.port.bench.polarity (s.position p).pin = (s.position p).raw
  · rw [sample_same h, if_pos h, if_neg (not_not.mpr rfl)]
  · rw [sample_changed h, if_neg h, port_moveTo, State.position_updPosition_eq _ hs hp]
    rfl

theorem raisesWhere_sample (b : Bench) : RaisesWhere (fun t p => t.sample p) (fun t => t.Shaped ∧ t.port.bench = b)
    (fun x => x.state ≠ (sampledPosition b x).state) where
  moved t p ht hp hm := by
    obtain ⟨hs, rfl⟩ := ht
    exact (port_sample hs hp).trans (if_pos hm)
  stays t p ht hp hm := by
    obtain ⟨hs, rfl⟩ := ht
    exact (port_sample hs hp).trans (if_neg hm)
  other _ _ _ := position_sample_other
  good := (eachPosition_sample b).good

theorem pendingSet_sampleAll_moved (hs : s.Shaped)
    (h : ∃ p, isPosition p = true ∧ (s.sampleAll.position p).state ≠ (s.position p).state) :
    s.sampleAll.port.pendingSet = s.port.pendingSet ||| 0x04#8 := by
  obtain ⟨p, hp, hne⟩ := h
  rw [position_sampleAll hs hp] at hne
  have hport := (raisesWhere_sample s.port.bench).foldl_moved ⟨hs, rfl⟩ (fun p hp => mem_places_48.mp hp)
    ⟨p, mem_places_48.mpr hp, fun he => hne he.symm⟩
  rw [State.sampleAll, hport]
  rfl

theorem pendingSet_sampleAll_stays (hs : s.Shaped)
    (h : ∀ p, isPosition p = true → (s.sampleAll.position p).state = (s.position p).state) :
    s.sampleAll.port.pendingSet = s.port.pendingSet := by
  have hport := (raisesWhere_sample s.port.bench).foldl_stays ⟨hs, rfl⟩ (fun p hp => mem_places_48.mp hp)
    (nodup_places 48) fun p hp hne => hne ?_
  · rw [State.sampleAll, hport]
  · have hpos := mem_places_48.mp hp
    rw [← position_sampleAll hs hpos, h p hpos]

/-! ### Assignments (R206, R207) -/

theorem namedOnce_iff (cs : List Nat) : namedOnce cs = true ↔ cs.Nodup := by
  induction cs with
  | nil => simp [namedOnce]
  | cons c cs ih => simp [namedOnce, ih]

/-- R206: the range of a parameter. -/
def BenchRange (a : Nat × Nat) : Prop :=
  (a.1 = 1 ∧ 1 ≤ a.2 ∧ a.2 ≤ 4000000000) ∨ (a.1 = 2 ∧ 100 ≤ a.2 ∧ a.2 ≤ 10000) ∨
  (a.1 = 3 ∧ 10 ≤ a.2 ∧ a.2 ≤ 500) ∨ (a.1 = 4 ∧ 1 ≤ a.2 ∧ a.2 ≤ 7) ∨ (a.1 = 5 ∧ 8 ≤ a.2 ∧ a.2 ≤ 64) ∨
  (a.1 = 6 ∧ 20 ≤ a.2 ∧ a.2 ≤ 2000) ∨ (a.1 = 7 ∧ a.2 ≤ 1) ∨ (a.1 = 8 ∧ a.2 ≤ 1) ∨ (a.1 = 9 ∧ a.2 ≤ 1000)

theorem benchRange_iff : BenchRange a ↔ within 9 a.1 = true ∧ benchInRange a.1 a.2 = true := by
  obtain ⟨c, v⟩ := a
  unfold BenchRange
  rw [within_iff]
  constructor
  · rintro (⟨rfl, h⟩ | ⟨rfl, h⟩ | ⟨rfl, h⟩ | ⟨rfl, h⟩ | ⟨rfl, h⟩ | ⟨rfl, h⟩ | ⟨rfl, h⟩ | ⟨rfl, h⟩ | ⟨rfl, h⟩) <;>
      simpa [benchInRange, within_iff] using h
  · rintro ⟨⟨h1, h9⟩, h⟩
    dsimp only at h1 h9 h ⊢
    interval_cases c <;> simpa [benchInRange, within_iff] using h

theorem assign_frame (s : State) (a : Nat × Nat) : s.assign a = { s with
    port := { s.port with bench := (s.assign a).port.bench }
    ref := { s.ref with kref := (s.assign a).ref.kref } } := by
  unfold State.assign
  dsimp only
  split <;> rfl

theorem assigns_frame (s : State) (as : List (Nat × Nat)) : as.foldl (fun t a => t.assign a) s = { s with
    port := { s.port with bench := (as.foldl (fun t a => t.assign a) s).port.bench }
    ref := { s.ref with kref := (as.foldl (fun t a => t.assign a) s).ref.kref } } := by
  induction as generalizing s with
  | nil => rfl
  | cons a as ih =>
    rw [List.foldl_cons]
    have h := ih (s.assign a)
    generalize as.foldl (fun t a => t.assign a) (s.assign a) = v at h ⊢
    rw [assign_frame s a] at h
    exact h

/-- R207: an assignment gives its parameter its value. -/
theorem benchValue_assign_same (ha : BenchRange a) : (s.assign a).benchValue a.1 = a.2 := by
  obtain ⟨c, v⟩ := a
  unfold BenchRange at ha
  rcases ha with ⟨rfl, h⟩ | ⟨rfl, h⟩ | ⟨rfl, h⟩ | ⟨rfl, h⟩ | ⟨rfl, h⟩ | ⟨rfl, h⟩ | ⟨rfl, h⟩ | ⟨rfl, h⟩ | ⟨rfl, h⟩
  case inr.inr.inr.inr.inr.inr.inl =>
    obtain rfl | rfl : v = 0 ∨ v = 1 := by
      dsimp only at h
      omega
    · rfl
    · rfl
  case inr.inr.inr.inr.inr.inr.inr.inl =>
    obtain rfl | rfl : v = 0 ∨ v = 1 := by
      dsimp only at h
      omega
    · rfl
    · rfl
  all_goals rfl

theorem benchValue_assign_other {c : Nat} (ha : BenchRange a) (hc : c ≠ a.1) :
    (s.assign a).benchValue c = s.benchValue c := by
  obtain ⟨d, v⟩ := a
  unfold BenchRange at ha
  dsimp only at hc
  rcases ha with ⟨rfl, -⟩ | ⟨rfl, -⟩ | ⟨rfl, -⟩ | ⟨rfl, -⟩ | ⟨rfl, -⟩ | ⟨rfl, -⟩ | ⟨rfl, -⟩ | ⟨rfl, -⟩ | ⟨rfl, -⟩ <;>
    (unfold State.benchValue; split <;> first | exact absurd rfl hc | rfl)

theorem benchValue_assigns_other {c : Nat} (has : ∀ a ∈ as, BenchRange a) (hc : c ∉ as.map (·.1)) :
    (as.foldl (fun t a => t.assign a) s).benchValue c = s.benchValue c := by
  induction as generalizing s with
  | nil => rfl
  | cons a as ih =>
    obtain ⟨ha, has⟩ := List.forall_mem_cons.mp has
    rw [List.map_cons, List.mem_cons, not_or] at hc
    rw [List.foldl_cons, ih has hc.2, benchValue_assign_other ha hc.1]

theorem benchValue_assigns (has : ∀ a ∈ as, BenchRange a) (hn : (as.map (·.1)).Nodup) (ha : a ∈ as) :
    (as.foldl (fun t a => t.assign a) s).benchValue a.1 = a.2 := by
  induction as generalizing s with
  | nil => cases ha
  | cons b as ih =>
    obtain ⟨hb, hrest⟩ := List.forall_mem_cons.mp has
    rw [List.map_cons, List.nodup_cons] at hn
    rw [List.foldl_cons]
    rcases List.mem_cons.mp ha with rfl | ha
    · rw [benchValue_assigns_other hrest hn.1, benchValue_assign_same hb]
    · exact ih hrest hn.2 ha

/-! ### What a change of parameters brings about (R54, R97) -/

/-- R97: the comparison that a change of the reference timeout makes. -/
def State.timeoutCompared (before : Bench) (s : State) : State :=
  if s.port.bench.refTimeout = before.refTimeout then s else s.compareWatchdog

theorem benchEffects_eq (before : Bench) (s : State) : s.benchEffects before =
    if (s.timeoutCompared before).port.bench.polarity ≠ before.polarity ∧ (s.timeoutCompared before).sampling = true then
      (s.timeoutCompared before).sampleAll
    else s.timeoutCompared before := rfl

theorem timeoutCompared_frame (before : Bench) (s : State) : s.timeoutCompared before = { s with
    ref := { s.ref with lossReported := (s.timeoutCompared before).ref.lossReported }
    inFlight := (s.timeoutCompared before).inFlight } := by
  unfold State.timeoutCompared
  split
  · rfl
  · exact compareWatchdog_frame s

theorem timeoutCompared_late {before : Bench} (h : s.port.bench.refTimeout ≠ before.refTimeout)
    (hr : s.seq.running ≠ none) (hl : s.ref.lossReported = false) (ht : s.port.bench.refTimeout ≤ s.ref.watchdog) :
    s.timeoutCompared before =
      { s with ref := { s.ref with lossReported := true }, inFlight := s.inFlight ++ [.refLoss] } :=
  (if_neg h).trans (compareWatchdog_late (Option.isSome_iff_ne_none.mpr hr) hl ht)

theorem timeoutCompared_else {before : Bench} (h : ¬ (s.port.bench.refTimeout ≠ before.refTimeout ∧
    s.seq.running ≠ none ∧ s.ref.lossReported = false ∧ s.port.bench.refTimeout ≤ s.ref.watchdog)) :
    s.timeoutCompared before = s := by
  unfold State.timeoutCompared
  split
  · rfl
  next hne =>
    exact compareWatchdog_else fun hc => h ⟨hne, Option.isSome_iff_ne_none.mp hc.1, hc.2.1, hc.2.2⟩

/-- R54, R97: what SET_BENCH brings about beside its assignments. -/
theorem benchEffects_frame (before : Bench) (s : State) : s.benchEffects before = { s with
    positions := (s.benchEffects before).positions
    port := { s.port with pendingSet := (s.benchEffects before).port.pendingSet }
    ref := { s.ref with lossReported := (s.timeoutCompared before).ref.lossReported }
    inFlight := (s.timeoutCompared before).inFlight } := by
  have hframe := timeoutCompared_frame before s
  rw [benchEffects_eq]
  split
  · have hplant := samePlant_sampleAll (s.timeoutCompared before)
    unfold SamePlant at hplant
    generalize (s.timeoutCompared before).sampleAll = v at hplant ⊢
    generalize s.timeoutCompared before = u at hframe hplant ⊢
    rw [hplant, hframe]
  · generalize s.timeoutCompared before = u at hframe ⊢
    rw [hframe]

/-! ### SET_BENCH (R207) -/

theorem doSetBench_empty (h : uField args 0 1 = 0) : doSetBench args s = refuse s .badArgument := by
  simp only [doSetBench, if_pos h]

theorem doSetBench_full (h : 9 < uField args 0 1) : doSetBench args s = refuse s .full := by
  simp only [doSetBench, if_neg (show uField args 0 1 ≠ 0 by omega), if_pos h]

section
variable (h1 : 1 ≤ uField args 0 1) (h9 : uField args 0 1 ≤ 9)
include h1 h9

/-- R207: checks 3 and 4. -/
theorem doSetBench_unsound (h : ¬ (((assignments (uField args 0 1) (args.drop 1)).map (·.1)).Nodup ∧
    ∀ a ∈ assignments (uField args 0 1) (args.drop 1), BenchRange a)) : doSetBench args s = refuse s .badArgument := by
  simp only [benchRange_iff] at h
  simp only [doSetBench, if_neg (show uField args 0 1 ≠ 0 by omega), if_neg (Nat.not_lt.mpr h9), namedOnce_iff,
    List.all_eq_true]
  split
  · rfl
  next hnamed =>
    refine if_pos fun hrange => h ?_
    obtain ⟨hw, hn⟩ := not_not.mp hnamed
    exact ⟨hn, fun a ha => ⟨hw a ha, hrange a ha⟩⟩

variable (hn : ((assignments (uField args 0 1) (args.drop 1)).map (·.1)).Nodup)
variable (hrange : ∀ a ∈ assignments (uField args 0 1) (args.drop 1), BenchRange a)
include hn hrange

theorem doSetBench_sound : doSetBench args s =
    if s.seq.running.isSome = true ∧
        (assignments (uField args 0 1) (args.drop 1)).any (fun a => decide (a.1 = 1 ∧ a.2 ≠ s.ref.kref)) = true then
      refuse s .busy
    else
      taken (((assignments (uField args 0 1) (args.drop 1)).foldl (fun t a => t.assign a) s).benchEffects s.port.bench)
        (((assignments (uField args 0 1) (args.drop 1)).foldl (fun t a => t.assign a) s).benchEffects
          s.port.bench).benchReport := by
  simp only [benchRange_iff] at hrange
  simp only [doSetBench, if_neg (show uField args 0 1 ≠ 0 by omega), if_neg (Nat.not_lt.mpr h9), namedOnce_iff,
    List.all_eq_true]
  rw [if_neg (not_not.mpr ⟨fun a ha => (hrange a ha).1, hn⟩), if_neg (not_not.mpr fun a ha => (hrange a ha).2)]

end

theorem busy_iff : (s.seq.running.isSome = true ∧ as.any (fun a => decide (a.1 = 1 ∧ a.2 ≠ s.ref.kref)) = true) ↔
    ¬ (s.seq.running = none ∨ ∀ a ∈ as, a.1 = 1 → a.2 = s.ref.kref) := by
  rw [Option.isSome_iff_ne_none, List.any_eq_true, not_or]
  refine and_congr_right fun _ => ?_
  simp only [decide_eq_true_eq]
  constructor
  · rintro ⟨a, ha, h1, hne⟩ hall
    exact hne (hall a ha h1)
  · intro h
    by_contra hnone
    exact h fun a ha h1 => by_contra fun hne => hnone ⟨a, ha, h1, hne⟩

/-- R207: the state that the assignments and what they bring about make. -/
def State.benchSet (as : List (Nat × Nat)) (s : State) : State :=
  (as.foldl (fun t a => t.assign a) s).benchEffects s.port.bench

theorem doSetBench_taken (h1 : 1 ≤ uField args 0 1) (h9 : uField args 0 1 ≤ 9)
    (hn : ((assignments (uField args 0 1) (args.drop 1)).map (·.1)).Nodup)
    (hrange : ∀ a ∈ assignments (uField args 0 1) (args.drop 1), BenchRange a)
    (hk : s.seq.running = none ∨ ∀ a ∈ assignments (uField args 0 1) (args.drop 1), a.1 = 1 → a.2 = s.ref.kref) :
    doSetBench args s = ⟨s.benchSet (assignments (uField args 0 1) (args.drop 1)), .ok,
      (s.benchSet (assignments (uField args 0 1) (args.drop 1))).benchReport⟩ :=
  (doSetBench_sound h1 h9 hn hrange).trans (if_neg fun hb => busy_iff.mp hb hk)

theorem benchValue_congr (hb : t.port.bench = s.port.bench) (hk : t.ref.kref = s.ref.kref) (c : Nat) :
    t.benchValue c = s.benchValue c := by
  unfold State.benchValue
  rw [hb, hk]

/-- Settles O29. -/
theorem setBenchAssignsAllOrNone : Obligations.SetBenchAssignsAllOrNone := by
  intro s tag args rest ho n as refused inRange sound krefOk
  refine ⟨fun hn => exec_request (k := .setBench) ho (doSetBench_empty hn),
    fun hn => exec_request (k := .setBench) ho (doSetBench_full hn),
    fun h1 h9 hns => exec_request (k := .setBench) ho (doSetBench_unsound h1 h9 hns),
    fun h1 h9 hsound hk => ?_, fun h1 h9 hsound hk => ?_⟩
  · exact exec_request (k := .setBench) ho ((doSetBench_sound (s := s.dequeued rest) h1 h9 hsound.1 hsound.2).trans
      (if_pos (busy_iff.mpr hk)))
  · have hexec := exec_request (k := .setBench) ho (doSetBench_taken (s := s.dequeued rest) h1 h9 hsound.1 hsound.2 hk)
    have hvalues : ∀ a ∈ as, (as.foldl (fun t a => t.assign a) (s.dequeued rest)).benchValue a.1 = a.2 :=
      fun a ha => benchValue_assigns hsound.2 hsound.1 ha
    have hothers : ∀ c, c ∉ as.map (·.1) →
        (as.foldl (fun t a => t.assign a) (s.dequeued rest)).benchValue c = s.benchValue c :=
      fun c hc => benchValue_assigns_other hsound.2 hc
    obtain ⟨b, k, hassigned⟩ : ∃ b k, as.foldl (fun t a => t.assign a) (s.dequeued rest) = { s.dequeued rest with
        port := { (s.dequeued rest).port with bench := b }, ref := { s.ref with kref := k } } :=
      ⟨_, _, assigns_frame (s.dequeued rest) as⟩
    refine ⟨_, hexec, ?_⟩
    have hset : (s.dequeued rest).benchSet as =
        (as.foldl (fun t a => t.assign a) (s.dequeued rest)).benchEffects s.port.bench := rfl
    rw [hset]
    rw [hassigned] at hvalues hothers ⊢
    generalize hv : ({ s.dequeued rest with
      port := { (s.dequeued rest).port with bench := b }, ref := { s.ref with kref := k } } : State) = v at hvalues hothers ⊢
    have hframe := benchEffects_frame s.port.bench v
    have hbench : (v.benchEffects s.port.bench).port.bench = v.port.bench := by rw [hframe]
    have hkref : (v.benchEffects s.port.bench).ref.kref = v.ref.kref := by rw [hframe]
    have hinFlight : (v.benchEffects s.port.bench).inFlight = (v.timeoutCompared s.port.bench).inFlight := by rw [hframe]
    have hloss : (v.benchEffects s.port.bench).ref.lossReported = (v.timeoutCompared s.port.bench).ref.lossReported := by
      rw [hframe]
    refine ⟨fun a ha => (benchValue_congr hbench hkref a.1).trans (hvalues a ha),
      fun c hc => (benchValue_congr hbench hkref c).trans (hothers c hc), ?late, ?sampled, ?rest⟩
    case late =>
      rw [hbench, hinFlight, hloss]
      refine ⟨fun ⟨hne, hr, hl, ht⟩ => ?_, fun hn => ?_⟩
      · subst hv
        rw [timeoutCompared_late hne hr hl ht]
        exact ⟨rfl, rfl⟩
      · rw [timeoutCompared_else (s := v) (before := s.port.bench) (by subst hv; exact hn)]
        subst hv
        exact ⟨rfl, rfl⟩
    case sampled =>
      have hcompared := timeoutCompared_frame s.port.bench v
      rw [hbench]
      refine ⟨fun hs ⟨hne, hl⟩ => ?_, fun hn => ?_⟩
      · have heffects : v.benchEffects s.port.bench = (v.timeoutCompared s.port.bench).sampleAll := by
          refine (benchEffects_eq s.port.bench v).trans (if_pos ?_)
          rw [hcompared]
          subst hv
          exact ⟨hne, decide_eq_true hl⟩
        have hpos (p : Nat) : (v.timeoutCompared s.port.bench).position p = s.position p := by
          rw [hcompared]
          subst hv
          rfl
        have hpending : (v.timeoutCompared s.port.bench).port.pendingSet = s.port.pendingSet := by
          rw [hcompared]
          subst hv
          rfl
        have hbench' : (v.timeoutCompared s.port.bench).port.bench = v.port.bench := by rw [hcompared]
        have hs' : (v.timeoutCompared s.port.bench).Shaped := by
          rw [hcompared]
          subst hv
          exact hs
        rw [heffects]
        generalize v.timeoutCompared s.port.bench = u at hpos hpending hbench' hs' ⊢
        simp only [← hpos, ← hpending, ← hbench']
        exact ⟨fun p hp => position_sampleAll hs' hp, pendingSet_sampleAll_moved hs', pendingSet_sampleAll_stays hs'⟩
      · have heffects : v.benchEffects s.port.bench = v.timeoutCompared s.port.bench := by
          refine (benchEffects_eq s.port.bench v).trans (if_neg ?_)
          rw [hcompared]
          subst hv
          exact fun hc => hn ⟨hc.1, of_decide_eq_true hc.2⟩
        rw [heffects, hcompared]
        subst hv
        exact ⟨rfl, rfl⟩
    case rest =>
      rw [hframe]
      subst hv
      exact ⟨rfl, rfl, rfl, rfl, rfl, rfl, rfl, rfl, rfl, rfl, rfl⟩

end Sys2Proof.Machine
end

section
/-! SUPPORT. RETIRE: the record and its position leave the table (R27, R41, R70, R130). -/

namespace Sys2Proof.Machine

variable {s t : State} {r : Record} {p q l n : Nat} {h : Handle} {args : List Byte}

/-! ### The checks of RETIRE (R27) -/

theorem doRetire_error {c : AnswerCode} (ha : handleArg args 0 = h) (hr : s.resolve h = .error c) :
    doRetire args s = refuse s c := withRecord_handle_error _ hr ha

theorem doRetire_busy (ha : handleArg args 0 = h) (hr : s.resolve h = .ok r)
    (hb : r.state = .writing ∨ r.state = .sealing ∨ s.measuringNow r = true) : doRetire args s = refuse s .busy :=
  withRecord_handle hr ha (if_pos hb)

theorem doRetire_taken (ha : handleArg args 0 = h) (hr : s.resolve h = .ok r)
    (hb : ¬ (r.state = .writing ∨ r.state = .sealing ∨ s.measuringNow r = true)) :
    doRetire args s = taken (s.retire r) (readOut (s.tag r.slot) r) :=
  withRecord_handle hr ha (if_neg hb)

/-! ### The state with the record removed -/

/-- R27: the record withdrawn from its position and removed. -/
def State.retired (r : Record) (s : State) : State := ((s.withdrawWrite r).retirePosition r).removeRecord r

theorem retire_eq (r : Record) (s : State) : s.retire r = ((s.retired r).handFreed r.slot).settle := rfl

theorem withdrawWrite_frame (s : State) (r : Record) : s.withdrawWrite r = { s with
    positions := (s.withdrawWrite r).positions } := by
  unfold State.withdrawWrite State.giveGone
  split
  · split <;> rfl
  · rfl

/-- Does a position hold an identification item? -/
def Position.Identifies (x : Position) : Prop :=
  ∃ i, x.item = some i ∧ (i.work = .ident ∨ ∃ off ws, i.work = .readImage off ws)

/-- R70: a position that goes to SPENT. -/
def Position.spent (x : Position) : Position :=
  { x with state := .spent, bound := none, held := false, identity := none, phase := none }

theorem toSpent_identifies (h : (s.position p).Identifies) :
    s.toSpent p = (s.dropItem p).positionBecomes p Position.spent := by
  obtain ⟨i, hi, hw⟩ := h
  have hdrop : s.toSpent p = ((s.dropItem p).moveTo p .spent).updPosition p (fun x =>
      { x with bound := none, held := false, identity := none, phase := none }) := by
    rcases hw with hw | ⟨off, ws, hw⟩ <;> simp only [State.toSpent, hi, Option.map_some, hw]
  rw [hdrop, State.moveTo_updPosition (s.dropItem p) p .spent _ fun _ => rfl]
  rfl

theorem toSpent_other (h : ¬ (s.position p).Identifies) : s.toSpent p = s.positionBecomes p Position.spent := by
  have hkeep : s.toSpent p = (s.moveTo p .spent).updPosition p (fun x =>
      { x with bound := none, held := false, identity := none, phase := none }) := by
    unfold State.toSpent
    dsimp only
    split
    next hw =>
      obtain ⟨i, hi, hw⟩ := Option.map_eq_some_iff.mp hw
      exact absurd ⟨i, hi, .inl hw⟩ h
    next off ws hw =>
      obtain ⟨i, hi, hw⟩ := Option.map_eq_some_iff.mp hw
      exact absurd ⟨i, hi, .inr ⟨off, ws, hw⟩⟩ h
    all_goals rfl
  rw [hkeep, State.moveTo_updPosition s p .spent _ fun _ => rfl]
  rfl

theorem toSpent_frame (s : State) (p : Nat) : s.toSpent p = { s with
    positions := (s.toSpent p).positions, lanes := (s.toSpent p).lanes, port := (s.toSpent p).port } := by
  by_cases h : (s.position p).Identifies
  · rw [toSpent_identifies h, State.positionBecomes_frame, dropItem_frame]
    rfl
  · rw [toSpent_other h, State.positionBecomes_frame]

theorem retirePosition_frame (s : State) (r : Record) : s.retirePosition r = { s with
    positions := (s.retirePosition r).positions, lanes := (s.retirePosition r).lanes
    port := (s.retirePosition r).port } := by
  unfold State.retirePosition
  split
  · rfl
  · exact toSpent_frame s _

/-- R2, R27, R41: what a retirement makes of all but the positions, the lanes and the pending set. -/
theorem retired_frame (r : Record) (s : State) : s.retired r = { s with
    records := s.records.filter (fun x => decide (x.slot ≠ r.slot))
    tags := updPlace s.tags r.slot (· + 1#8)
    profiles := updPlace s.profiles r.profile (Option.map (fun ps => { ps with pins := ps.pins - 1 }))
    positions := (s.retired r).positions, lanes := (s.retired r).lanes, port := (s.retired r).port } := by
  have h : (s.withdrawWrite r).retirePosition r = { s with
      positions := ((s.withdrawWrite r).retirePosition r).positions
      lanes := ((s.withdrawWrite r).retirePosition r).lanes
      port := ((s.withdrawWrite r).retirePosition r).port } := by
    rw [retirePosition_frame, withdrawWrite_frame]
  have hremoved (u : State) : u.removeRecord r = { u with
      records := u.records.filter (fun x => decide (x.slot ≠ r.slot))
      tags := updPlace u.tags r.slot (· + 1#8)
      profiles := updPlace u.profiles r.profile (Option.map (fun ps => { ps with pins := ps.pins - 1 }))
      port := (u.removeRecord r).port } := rfl
  rw [State.retired, hremoved, h]

theorem still_retirePosition (s : State) (r : Record) : ((s.withdrawWrite r).retirePosition r).still = s.still := by
  unfold State.retirePosition State.toSpent
  dsimp only
  (repeat' split) <;> simp

theorem shaped_retired (r : Record) (hs : s.Shaped) : (s.retired r).Shaped := by
  obtain ⟨h1, h2, h3, h4, h5, h6⟩ := still_shaped (still_retirePosition s r) hs
  exact ⟨h1, h2, h3, (length_updPlace ..).trans h4, (length_updPlace ..).trans h5, h6⟩

theorem tableSound_retired (r : Record) (hs : s.TableSound) : (s.retired r).TableSound := by
  obtain ⟨h1, h2, h3⟩ := hs
  unfold State.TableSound
  rw [retired_frame]
  have hsub := List.filter_sublist (p := fun x : Record => decide (x.slot ≠ r.slot)) (l := s.records)
  exact ⟨h1.sublist (hsub.map _), h2.sublist (hsub.map _), fun x hx => h3 x (List.mem_filter.mp hx).1⟩

theorem tag_retired_same (hs : s.Shaped) (hn : within 64 r.slot = true) : (s.retired r).tag r.slot = s.tag r.slot + 1#8 := by
  obtain ⟨h1, h64⟩ := within_iff.mp hn
  have hlen := hs.2.2.2.1
  obtain ⟨b, hb⟩ := exists_place s.tags h1 (hlen.symm ▸ h64)
  rw [retired_frame]
  simp only [State.tag, place_updPlace_same, hb, Option.map_some, Option.getD_some]

theorem tag_retired_other (hn : n ≠ r.slot) : (s.retired r).tag n = s.tag n := by
  rw [retired_frame]
  simp only [State.tag, place_updPlace_other _ _ hn]

theorem profileSlot_retired_same : (s.retired r).profileSlot r.profile =
    (s.profileSlot r.profile).map (fun ps => { ps with pins := ps.pins - 1 }) := by
  rw [retired_frame]
  unfold State.profileSlot
  rw [place_updPlace_same]
  cases place s.profiles r.profile with
  | none => rfl
  | some ps => cases ps <;> rfl

theorem profileSlot_retired_other {c : Nat} (hc : c ≠ r.profile) : (s.retired r).profileSlot c = s.profileSlot c := by
  rw [retired_frame]
  unfold State.profileSlot
  rw [place_updPlace_other _ _ hc]

/-! ### The position of a bound record (R70, R174) -/

/-- R53: a position that changes its state raises POSITIONS_CHANGED. -/
theorem port_positionBecomes (s : State) (p : Nat) (f : Position → Position) : (s.positionBecomes p f).port =
    if (f (s.position p)).state ≠ (s.position p).state then s.port.positionsChanged else s.port := by
  rw [State.positionBecomes_eq, State.raiseIf]
  simp only [decide_eq_true_eq]
  split <;> rfl

section
variable (hr : r.position = some p)
include hr

/-- R64: the record's queued WRITE item withdrawn. -/
theorem withdrawWrite_bound : s.withdrawWrite r = s.updPosition p (fun x =>
    { x with item := x.item.filter (fun i => i.granted || !i.work.isWrite) }) := by
  simp only [State.withdrawWrite, hr]
  rfl

theorem retirePosition_bound : (s.withdrawWrite r).retirePosition r = (s.withdrawWrite r).toSpent p := by
  simp only [State.retirePosition, hr]

end

theorem position_removeRecord (s : State) (r : Record) (p : Nat) : (s.removeRecord r).position p = s.position p := rfl

/-- R174: the work items that a retirement leaves. -/
def Item.keptByRetire (i : Item) : Bool :=
  match i.work with
  | .ident | .readImage _ _ => false
  | .write _ => i.granted
  | .sealLock _ => true

theorem filter_identifies {x : Position} : ({ x with
    item := x.item.filter (fun i => i.granted || !i.work.isWrite) } : Position).Identifies ↔ x.Identifies := by
  unfold Position.Identifies
  refine exists_congr fun i => ?_
  rw [Option.filter_eq_some_iff]
  constructor
  · rintro ⟨⟨hi, -⟩, hw⟩
    exact ⟨hi, hw⟩
  · rintro ⟨hi, hw⟩
    refine ⟨⟨hi, ?_⟩, hw⟩
    rcases hw with hw | ⟨off, ws, hw⟩ <;> simp [hw, Work.isWrite]

theorem keptByRetire_of_identifies {x : Position} (h : x.Identifies) : x.item.filter Item.keptByRetire = none := by
  obtain ⟨i, hi, hw⟩ := h
  rw [hi]
  rcases hw with hw | ⟨off, ws, hw⟩ <;> simp [Option.filter_some, Item.keptByRetire, hw]

theorem keptByRetire_of_not {x : Position} (h : ¬ x.Identifies) :
    x.item.filter (fun i => i.granted || !i.work.isWrite) = x.item.filter Item.keptByRetire := by
  cases hi : x.item with
  | none => rfl
  | some i =>
    rw [Option.filter_some, Option.filter_some]
    cases hw : i.work with
    | ident => exact absurd ⟨i, hi, .inl hw⟩ h
    | readImage off ws => exact absurd ⟨i, hi, .inr ⟨off, ws, hw⟩⟩ h
    | write t => simp [Item.keptByRetire, hw, Work.isWrite]
    | sealLock k => simp [Item.keptByRetire, hw, Work.isWrite]

section
variable (hs : s.Shaped) (hp : isPosition p = true) (hr : r.position = some p)
include hs hp hr

theorem position_withdrawWrite : (s.withdrawWrite r).position p = { s.position p with
    item := (s.position p).item.filter (fun i => i.granted || !i.work.isWrite) } := by
  rw [withdrawWrite_bound hr, State.position_updPosition_eq _ hs hp]

theorem identifies_withdrawWrite : ((s.withdrawWrite r).position p).Identifies ↔ (s.position p).Identifies := by
  rw [position_withdrawWrite hs hp hr]
  exact filter_identifies

theorem position_retired : (s.retired r).position p =
    { (s.position p).spent with item := (s.position p).item.filter Item.keptByRetire } := by
  have hw : (s.withdrawWrite r).Shaped := still_shaped (still_withdrawWrite s r) hs
  have hat := position_withdrawWrite hs hp hr
  rw [State.retired, position_removeRecord, retirePosition_bound hr]
  by_cases h : (s.position p).Identifies
  · have hdrop : ((s.withdrawWrite r).dropItem p).position p = { (s.withdrawWrite r).position p with item := none } := by
      rw [dropItem_frame]
      exact State.position_updPosition_eq (s := s.withdrawWrite r) _ hw hp
    rw [toSpent_identifies ((identifies_withdrawWrite hs hp hr).mpr h),
      State.position_positionBecomes_same _ (still_shaped (still_dropItem _ p) hw) hp, hdrop, hat,
      keptByRetire_of_identifies h]
    rfl
  · rw [toSpent_other ((identifies_withdrawWrite hs hp hr).not.mpr h),
      State.position_positionBecomes_same _ hw hp, hat, keptByRetire_of_not h]
    rfl

theorem position_retired_other (hq : q ≠ p) : (s.retired r).position q = s.position q := by
  have hw : (s.withdrawWrite r).position q = s.position q := by
    rw [withdrawWrite_bound hr, State.position_updPosition_other _ _ hq]
  rw [State.retired, position_removeRecord, retirePosition_bound hr]
  by_cases h : (s.position p).Identifies
  · have hdrop : ((s.withdrawWrite r).dropItem p).position q = (s.withdrawWrite r).position q := by
      rw [dropItem_frame]
      exact State.position_updPosition_other (s.withdrawWrite r) _ hq
    rw [toSpent_identifies ((identifies_withdrawWrite hs hp hr).mpr h), State.position_positionBecomes_other _ hq, hdrop,
      hw]
  · rw [toSpent_other ((identifies_withdrawWrite hs hp hr).not.mpr h), State.position_positionBecomes_other _ hq, hw]

theorem lanes_retired_identifies (h : (s.position p).Identifies) :
    (s.retired r).lanes = ((s.withdrawWrite r).dropItem p).lanes := by
  show ((s.withdrawWrite r).retirePosition r).lanes = _
  rw [retirePosition_bound hr, toSpent_identifies ((identifies_withdrawWrite hs hp hr).mpr h), positionBecomes_lanes]

theorem lanes_retired_other (h : ¬ (s.position p).Identifies) : (s.retired r).lanes = s.lanes := by
  show ((s.withdrawWrite r).retirePosition r).lanes = _
  rw [retirePosition_bound hr, toSpent_other ((identifies_withdrawWrite hs hp hr).not.mpr h), positionBecomes_lanes,
    withdrawWrite_frame]

theorem port_retired : (s.retired r).port = { s.port with
    pendingSet := s.port.pendingSet ||| (if (s.position p).state = .spent then 0x02#8 else 0x06#8) } := by
  have hw : (s.withdrawWrite r).Shaped := still_shaped (still_withdrawWrite s r) hs
  have hport : (s.withdrawWrite r).port = s.port := by rw [withdrawWrite_frame]
  have hstate (u : State) (hu : u.port = s.port) (hx : (u.position p).state = (s.position p).state) :
      (u.positionBecomes p Position.spent).port =
        if .spent ≠ (s.position p).state then s.port.positionsChanged else s.port := by
    rw [port_positionBecomes, hx, hu]
    rfl
  have hspent : ((s.withdrawWrite r).toSpent p).port =
      if .spent ≠ (s.position p).state then s.port.positionsChanged else s.port := by
    have hat := position_withdrawWrite hs hp hr
    by_cases h : (s.position p).Identifies
    · rw [toSpent_identifies ((identifies_withdrawWrite hs hp hr).mpr h)]
      refine hstate _ ?_ ?_
      · rw [dropItem_frame]
        exact hport
      · have hdrop : ((s.withdrawWrite r).dropItem p).position p = { (s.withdrawWrite r).position p with item := none } := by
          rw [dropItem_frame]
          exact State.position_updPosition_eq (s := s.withdrawWrite r) _ hw hp
        rw [hdrop, hat]
    · rw [toSpent_other ((identifies_withdrawWrite hs hp hr).not.mpr h)]
      exact hstate _ hport (by rw [hat])
  have hremoved : (s.retired r).port = ((s.withdrawWrite r).toSpent p).port.recordsChanged := by
    rw [← retirePosition_bound hr]
    rfl
  rw [hremoved, hspent]
  by_cases hc : (s.position p).state = .spent
  · rw [if_neg (not_not.mpr hc.symm), if_pos hc]
    rfl
  · rw [if_pos (Ne.symm hc), if_neg hc]
    simp only [Port.recordsChanged, Port.positionsChanged, BitVec.or_assoc]
    rfl

end

/-! ### An orphaned record (R130) -/

section
variable (hr : r.position = none)
include hr

theorem retired_orphaned : s.retired r = (s.giveGone r false).removeRecord r := by
  simp only [State.retired, State.withdrawWrite, State.retirePosition, hr]

theorem giveGone_onWay {ph : Option AbandonPhase} (hw : s.orphanOnWay (s.handleOf r) = some (p, ph)) (b : Bool) :
    s.giveGone r b = s.markGiven p b := by
  simp only [State.giveGone, hr, hw]

end

theorem giveGone_settled (hw : s.orphanOnWay (s.handleOf r) = none) (b : Bool) : s.giveGone r b = s := by
  unfold State.giveGone
  rw [hw]
  cases r.position <;> rfl

end Sys2Proof.Machine
end

section
/-! Proof of O40: RETIRE and the freed slot (R1, R4, R7, R27, R45, R61, R63, R70). -/

namespace Sys2Proof.Machine

variable {s t : State} {r : Record} {p q n c : Nat} {h : Handle} {d : Identity} {image : Unpacked}

/-! ### The states of the positions that a rebind leaves -/

/-- The states of the positions. -/
def State.states (s : State) : List PositionState := s.positions.map (·.state)

theorem state_of_states (h : t.states = s.states) (q : Nat) : (t.position q).state = (s.position q).state :=
  position_of_map h q

theorem states_of_aside (h : t.aside = s.aside) : t.states = s.states := by
  have hpos : t.positions.map Position.standing = s.positions.map Position.standing := congrArg State.positions h
  have := congrArg (List.map (·.state)) hpos
  simpa only [List.map_map, Function.comp_def, State.states, Position.standing] using this

theorem states_takeOrphan (s : State) (p : Nat) (h : Handle) (ph : Option AbandonPhase) :
    (s.takeOrphan p h ph).states = s.states ∧ (s.takeOrphan p h ph).admissions = s.admissions := by
  cases hn : s.named h with
  | none =>
    rw [takeOrphan_none hn]
    exact ⟨rfl, rfl⟩
  | some r =>
    rw [takeOrphan_named hn]
    split
    · have haside := aside_settleRecord (((s.withdrawWork p).discardOutcomes p).unbind h.slot p) h.slot ph
      rw [states_of_aside haside, admissions_of_aside haside, unbind_eq_freed]
      exact ⟨map_updPlace Position.state s.positions p (fun x => { x with
        bound := none, item := x.item.filter (fun i => i.granted || !i.work.isForRecord), given := false }) fun _ => rfl, rfl⟩
    · exact ⟨rfl, rfl⟩

theorem states_settleOrphan (s : State) (h : Handle) :
    (s.settleOrphan h).states = s.states ∧ (s.settleOrphan h).admissions = s.admissions := by
  unfold State.settleOrphan
  split
  · exact ⟨rfl, rfl⟩
  · exact states_takeOrphan _ _ _ _

theorem resumeWrite_aside (s : State) (n : Nat) : (s.resumeWrite n).aside = s.aside := by
  unfold State.resumeWrite
  split
  · rfl
  · split
    · exact aside_giveItem s _ _
    · rfl

/-- R9: a rebind leaves its position BOUND, the states of the others and the admission counter. -/
theorem takeRebind_states (hs : s.Shaped) (hp : isPosition p = true) (hn : s.named h = some r) (hr : r.position = none) :
    ((s.takeRebind p h).position p).state = .bound ∧
    (∀ q, q ≠ p → ((s.takeRebind p h).position q).state = (s.position q).state) ∧
    (s.takeRebind p h).admissions = s.admissions := by
  obtain ⟨hstates, hadm⟩ := states_settleOrphan s h
  have hs' : (s.settleOrphan h).Shaped := still_shaped (still_settleOrphan s h) hs
  rw [takeRebind_free hn hr, bind_toBound]
  have haside := resumeWrite_aside (((s.settleOrphan h).updRecord h.slot (fun r => { r with position := some p })).positionBecomes
    p (fun x => { x with state := .bound, bound := some h, phase := none, identity := none, held := false })) h.slot
  refine ⟨?_, fun q hq => ?_, ?_⟩
  · refine (state_of_states (states_of_aside haside) p).trans ?_
    rw [State.position_positionBecomes_same (s := (s.settleOrphan h).updRecord _ _) _ hs' hp]
  · refine (state_of_states (states_of_aside haside) q).trans ?_
    rw [State.position_positionBecomes_other _ hq]
    exact state_of_states hstates q
  · exact (admissions_of_aside haside).trans ((positionBecomes_admissions _ _ _).trans hadm)

/-! ### A freed slot handed down (R1, R63) -/

theorem handSlot_passed {p : Nat} (ps : List Nat) (h : (s.position p).state ≠ .waitingSlot) :
    handSlot n (p :: ps) s = handSlot n ps s := by
  rw [handSlot]
  split
  next hst _ => exact absurd hst h
  next => rfl

theorem handSlot_waiting (ps : List Nat) (hst : (s.position p).state = .waitingSlot) (hd : (s.position p).identity = some d)
    (hi : d.image = some image) : handSlot n (p :: ps) s =
      if (s.takeCreation (some n) p d image).created then (s.takeCreation (some n) p d image).state
      else handSlot n ps (s.takeCreation (some n) p d image).state := by
  rw [handSlot]
  simp only [hst, hd, hi]

theorem handSlot_none {ps qs : List Nat} (h : ∀ p ∈ ps, (s.position p).state ≠ .waitingSlot) :
    handSlot n (ps ++ qs) s = handSlot n qs s := by
  induction ps with
  | nil => rfl
  | cons p ps ih =>
    obtain ⟨hp, hrest⟩ := List.forall_mem_cons.mp h
    rw [List.cons_append, handSlot_passed _ hp, ih hrest]

theorem handFreed_full (h : 4294967295 ≤ s.admissions) : s.handFreed n = s := if_neg (Nat.not_lt.mpr h)

theorem handFreed_room (h : s.admissions < 4294967295) : s.handFreed n = handSlot n (places 48) s := if_pos h

theorem handFreed_none (h : ∀ p, isPosition p = true → (s.position p).state ≠ .waitingSlot) : s.handFreed n = s := by
  by_cases ha : s.admissions < 4294967295
  · rw [handFreed_room ha, ← List.append_nil (places 48), handSlot_none fun p hp => h p (mem_places_48.mp hp)]
    rfl
  · exact handFreed_full (Nat.le_of_not_lt ha)

/-- The positions before and behind position p, in order. -/
theorem places_48_split (hp : isPosition p = true) : ∃ qs, places 48 = places (p - 1) ++ p :: qs := by
  obtain ⟨h1, h48⟩ := isPosition_iff.mp hp
  obtain ⟨k, rfl⟩ := Nat.exists_eq_add_of_le' h1
  refine ⟨(List.range (47 - k)).map (fun i => k + 1 + i + 1), ?_⟩
  have hsplit : List.range 48 = List.range (k + 1) ++ (List.range (47 - k)).map (k + 1 + ·) := by
    rw [← List.range_add]
    congr 1
    omega
  rw [Nat.add_sub_cancel, places, places, hsplit, List.map_append, List.range_succ, List.map_append, List.map_singleton,
    List.append_assoc, List.map_map]
  rfl

theorem mem_places_below {k : Nat} (hp : isPosition p = true) (hq : q ∈ places k) (hk : k ≤ p) :
    isPosition q = true ∧ q ≤ k := by
  obtain ⟨h1, h48⟩ := isPosition_iff.mp hp
  obtain ⟨h1', h2'⟩ := within_iff.mp (mem_places.mp hq)
  exact ⟨isPosition_iff.mpr ⟨h1', by omega⟩, h2'⟩

section
variable (hp : isPosition p = true) (ha : s.admissions < 4294967295)
  (hlow : ∀ q, isPosition q = true → q < p → (s.position q).state ≠ .waitingSlot)
include hp ha hlow

/-- R1: the freed slot comes to the lowest waiting position first. -/
theorem handFreed_first : ∃ qs, places 48 = places (p - 1) ++ p :: qs ∧ s.handFreed n = handSlot n (p :: qs) s := by
  obtain ⟨qs, hqs⟩ := places_48_split hp
  refine ⟨qs, hqs, ?_⟩
  rw [handFreed_room ha, hqs]
  obtain ⟨h1, -⟩ := isPosition_iff.mp hp
  refine handSlot_none fun q hq => ?_
  obtain ⟨hpos, hle⟩ := mem_places_below hp hq (Nat.sub_le p 1)
  exact hlow q hpos (by omega)

variable (hst : (s.position p).state = .waitingSlot) (hd : (s.position p).identity = some d) (hi : d.image = some image)
include hst hd hi

theorem handFreed_created (hc : s.takeCreation (some n) p d image = ⟨t, true⟩) : s.handFreed n = t := by
  obtain ⟨qs, -, hfirst⟩ := handFreed_first (n := n) hp ha hlow
  rw [hfirst, handSlot_waiting qs hst hd hi, hc]
  rfl

/-- R63: a position that takes no record passes the slot on. -/
theorem handFreed_passes (hc : s.takeCreation (some n) p d image = ⟨t, false⟩) (hadm : t.admissions = s.admissions)
    (hown : (t.position p).state ≠ .waitingSlot)
    (hothers : ∀ q, q ≠ p → (t.position q).state = (s.position q).state) : s.handFreed n = t.handFreed n := by
  obtain ⟨qs, hqs, hfirst⟩ := handFreed_first (n := n) hp ha hlow
  have hrest : s.handFreed n = handSlot n qs t := by
    rw [hfirst, handSlot_waiting qs hst hd hi, hc]
    rfl
  obtain ⟨h1, -⟩ := isPosition_iff.mp hp
  rw [hrest, handFreed_room (hadm ▸ ha), hqs, handSlot_none fun q hq => ?_, handSlot_passed qs hown]
  obtain ⟨hpos, hle⟩ := mem_places_below hp hq (Nat.sub_le p 1)
  rw [hothers q (by omega)]
  exact hlow q hpos (by omega)

theorem handFreed_becomes {f : Position → Position} (hs : s.Shaped)
    (hc : s.takeCreation (some n) p d image = ⟨s.positionBecomes p f, false⟩) (hf : ∀ x, (f x).state ≠ .waitingSlot) :
    s.handFreed n = (s.positionBecomes p f).handFreed n := by
  refine handFreed_passes hp ha hlow hst hd hi hc (positionBecomes_admissions s p f) ?_ fun q hq => ?_
  · rw [State.position_positionBecomes_same _ hs hp]
    exact hf _
  · rw [State.position_positionBecomes_other _ hq]

end

theorem port_createRecord (hst : (s.position p).state = .waitingSlot) :
    (s.createRecord n c p d image).port = { s.port with pendingSet := s.port.pendingSet ||| 0x06#8 } := by
  have hstate : (((s.admitted n c p d image).updRecord n (fun x => { x with position := some p })).position p).state =
      .waitingSlot := hst
  have hport : (s.createRecord n c p d image).port = s.port.positionsChanged.recordsChanged := by
    rw [createRecord_eq]
    refine congrArg Port.recordsChanged ((port_positionBecomes _ p _).trans (if_pos ?_))
    rw [hstate]
    exact (by decide : PositionState.bound ≠ .waitingSlot)
  rw [hport]
  simp only [Port.recordsChanged, Port.positionsChanged, BitVec.or_assoc]
  rfl

theorem recordAt_of_mem (hs : s.TableSound) (hr : r ∈ s.records) : s.recordAt r.slot = some r := by
  cases hat : s.recordAt r.slot with
  | none =>
    have := List.find?_eq_none.mp hat r hr
    simp at this
  | some x => rw [hs.unique hat hr rfl]

theorem named_handleOf (hs : s.TableSound) (hr : r ∈ s.records) : s.named (s.handleOf r) = some r := by
  simp only [State.named, State.resolve, State.handleOf, hs.2.2 r hr, recordAt_of_mem hs hr, if_true]

/-! ### The lanes of a retirement (R174) -/

section
variable (hs : s.Shaped) (hp : isPosition p = true) (hr : r.position = some p)
include hs hp hr

theorem lane_retired_ends (hi : (s.position p).Identifies)
    (ht : (s.lane (laneOf p)).state = .granted p ∨ (s.lane (laneOf p)).state = .awaitReply p) :
    (s.retired r).lane (laneOf p) = { s.lane (laneOf p) with state := .idle, timer := none, frames := [] } := by
  have hlanes : (s.withdrawWrite r).lanes = s.lanes := by rw [withdrawWrite_frame]
  have hlane : (s.withdrawWrite r).lane (laneOf p) = s.lane (laneOf p) := congrArg (fun ls => (place ls _).getD _) hlanes
  have hends : ((s.withdrawWrite r).dropItem p).lane (laneOf p) =
      { s.lane (laneOf p) with state := .idle, timer := none, frames := [] } := by
    rw [lane_dropItem_eq (hlanes ▸ hs.2.1) hp, hlane, if_pos ht]
  exact (congrArg (fun ls => (place ls (laneOf p)).getD _) (lanes_retired_identifies hs hp hr hi)).trans hends

theorem lanes_retired_kept (h : ¬ ((s.position p).Identifies ∧
    ((s.lane (laneOf p)).state = .granted p ∨ (s.lane (laneOf p)).state = .awaitReply p))) :
    (s.retired r).lanes = s.lanes := by
  by_cases hi : (s.position p).Identifies
  · have hlanes : (s.withdrawWrite r).lanes = s.lanes := by rw [withdrawWrite_frame]
    have hlane : (s.withdrawWrite r).lane (laneOf p) = s.lane (laneOf p) := congrArg (fun ls => (place ls _).getD _) hlanes
    obtain ⟨h1, h2⟩ := not_or.mp fun ht => h ⟨hi, ht⟩
    rw [lanes_retired_identifies hs hp hr hi, dropItem_unnamed (hlane ▸ h1) (hlane ▸ h2)]
    exact hlanes
  · exact lanes_retired_other hs hp hr hi

theorem lane_retired_other (hl : l ≠ laneOf p) : (s.retired r).lane l = s.lane l := by
  have hlanes : (s.withdrawWrite r).lanes = s.lanes := by rw [withdrawWrite_frame]
  by_cases hi : (s.position p).Identifies
  · have hother : ((s.withdrawWrite r).dropItem p).lane l = (s.withdrawWrite r).lane l := lane_dropItem_other hl
    exact (congrArg (fun ls => (place ls l).getD _) (lanes_retired_identifies hs hp hr hi)).trans
      (hother.trans (congrArg (fun ls => (place ls l).getD _) hlanes))
  · exact congrArg (fun ls => (place ls l).getD _) (lanes_retired_other hs hp hr hi)

end

/-! ### The position that holds an orphaned record's claim (R130, log entry 12) -/

section
variable (hr : r.position = none)
include hr

theorem lanes_retired_orphaned : (s.retired r).lanes = s.lanes := by
  rw [retired_orphaned hr]
  show (s.giveGone r false).lanes = _
  unfold State.giveGone
  split <;> rfl

theorem port_retired_orphaned : (s.retired r).port = { s.port with pendingSet := s.port.pendingSet ||| 0x02#8 } := by
  have hgone : (s.giveGone r false).port = s.port := by
    unfold State.giveGone
    split <;> rfl
  rw [retired_orphaned hr]
  exact congrArg Port.recordsChanged hgone

theorem position_retired_onWay {ph : Option AbandonPhase} (hs : s.Shaped) (hp : isPosition p = true)
    (hc : s.Claims (isOrphanFor (s.handleOf r)) (.orphan p (s.handleOf r) ph)) :
    (s.retired r).position p = { s.position p with given := false } := by
  rw [retired_orphaned hr, position_removeRecord, giveGone_onWay hr (orphanOnWay_iff.mpr hc)]
  exact State.position_updPosition_eq _ hs hp

theorem position_retired_unclaimed
    (hc : ∀ ph, ¬ s.Claims (isOrphanFor (s.handleOf r)) (.orphan p (s.handleOf r) ph)) :
    (s.retired r).position p = s.position p := by
  rw [retired_orphaned hr, position_removeRecord]
  cases hw : s.orphanOnWay (s.handleOf r) with
  | none => rw [giveGone_settled hw]
  | some x =>
    obtain ⟨q, ph⟩ := x
    have hne : p ≠ q := by
      rintro rfl
      exact hc ph (orphanOnWay_iff.mp hw)
    rw [giveGone_onWay hr hw]
    exact State.position_updPosition_other s _ hne

end

/-! ### The freed slot's new record (R1, R7, R63) -/

/-- R41, R61, R63: what the lowest waiting position makes of the freed slot. -/
theorem handFreed_waiting (hs : s.Shaped) (hsound : s.TableSound)
    (hp : isPosition p = true) (ha : s.admissions < 4294967295) (hst : (s.position p).state = .waitingSlot)
    (hd : (s.position p).identity = some d) (hi : d.image = some image)
    (hlow : ∀ q, isPosition q = true → q < p → (s.position q).state ≠ .waitingSlot) :
    (s.matchingCode d image = none → s.handFreed n = (s.enterIdentifying p).handFreed n) ∧
    (∀ c, s.matchingCode d image = some c →
      (∀ r ∈ s.records, r.serial = d.serial → r.position ≠ none → s.handFreed n = (s.toConflict p).handFreed n) ∧
      (∀ r ∈ s.records, r.serial = d.serial → r.position = none →
        s.handFreed n = (s.takeRebind p (s.handleOf r)).handFreed n) ∧
      ((∀ r ∈ s.records, r.serial ≠ d.serial) → s.handFreed n = s.createRecord n c p d image)) := by
  refine ⟨fun hm => ?_, fun c hm => ⟨fun r hr hserial hbound => ?_, fun r hr hserial hbound => ?_, fun hnew => ?_⟩⟩
  · rw [State.enterIdentifying_eq]
    refine handFreed_becomes hp ha hlow hst hd hi hs ?_ fun _ => (by decide : PositionState.identifying ≠ .waitingSlot)
    rw [takeCreation_unmatched hm, State.enterIdentifying_eq]
  · rw [State.toConflict_eq]
    refine handFreed_becomes hp ha hlow hst hd hi hs ?_ fun _ => (by decide : PositionState.conflict ≠ .waitingSlot)
    rw [takeCreation_bound hm (hserial ▸ hsound.recordOf_serial hr) hbound, State.toConflict_eq]
  · obtain ⟨hown, hothers, hadm⟩ := takeRebind_states hs hp (named_handleOf hsound hr) hbound
    refine handFreed_passes hp ha hlow hst hd hi
      (takeCreation_orphaned hm (hserial ▸ hsound.recordOf_serial hr) hbound) hadm ?_ hothers
    rw [hown]
    exact (by decide : PositionState.bound ≠ .waitingSlot)
  · exact handFreed_created hp ha hlow hst hd hi (takeCreation_created hm (State.recordOf_eq_none hnew) ha)

/-- Settles O40: RETIRE removes its record, and hands the slot down. -/
theorem retireRemovesAndHandsTheSlot : Obligations.RetireRemovesAndHandsTheSlot := by
  refine ⟨fun s tag h rest hslot hs ho => ?retire, fun s n hs hsound hfree => ?hand⟩
  case retire =>
    intro refused
    have ha : handleArg (handleBytes h) 0 = h := handleArg_exact hslot
    refine ⟨fun c hr => exec_request (k := .retire) ho (doRetire_error (s := s.dequeued rest) ha hr),
      fun r hr => ⟨fun hb => exec_request (k := .retire) ho (doRetire_busy (s := s.dequeued rest) ha hr
        (hb.imp_right (Or.imp_right (measuringNow_iff s r).mpr))), fun hb => ?_⟩⟩
    have htaken := doRetire_taken (s := s.dequeued rest) ha hr
      fun hbusy => hb (hbusy.imp_right (Or.imp_right (measuringNow_iff s r).mp))
    obtain ⟨hwithin, hat, htag⟩ := State.resolve_ok hr
    have hslot : r.slot = h.slot := (State.recordAt_mem hat).2
    have hs' : (s.dequeued rest).Shaped := hs
    have hhandle : (s.dequeued rest).handleOf r = h := by
      show (⟨r.slot, s.tag r.slot⟩ : Handle) = h
      rw [hslot, htag]
    have hframe := retired_frame r (s.dequeued rest)
    have hreadout : readOut ((s.dequeued rest).tag r.slot) r = readOut h.tag r := by
      rw [← htag, hslot]
      rfl
    rw [hreadout] at htaken
    have hexec := exec_request (k := .retire) ho htaken
    rw [retire_eq, hslot] at hexec
    have htagsame : ((s.dequeued rest).retired r).tag h.slot = h.tag + 1#8 := by
      have hsame := tag_retired_same (r := r) hs' (hslot.symm ▸ hwithin)
      rw [hslot] at hsame
      exact hsame.trans (congrArg (· + 1#8) htag)
    refine ⟨(s.dequeued rest).retired r, hexec, ?records, htagsame, fun n hn => tag_retired_other (hslot.symm ▸ hn),
      profileSlot_retired_same, fun c hc => profileSlot_retired_other hc, fun p hp hpos => ?bound,
      fun hp => ⟨lanes_retired_orphaned hp, port_retired_orphaned hp, fun q hq => ?orphaned⟩,
      ?admissions, ?inFlight, ?plan, ?seq, ?ref, ?seals, ?flash, ?store, ?pending,
      shaped_retired r hs', fun hsound => tableSound_retired r hsound⟩
    case bound =>
      intro x kept identifying turn
      have hitem : x.item.filter kept = x.item.filter Item.keptByRetire := rfl
      refine ⟨?_, fun q hq hne => position_retired_other hs' hpos hp hne, fun hi ht => lane_retired_ends hs' hpos hp hi ht,
        fun hn => lanes_retired_kept hs' hpos hp hn, fun l hl hne => lane_retired_other hs' hpos hp hne,
        port_retired hs' hpos hp⟩
      rw [hitem]
      exact position_retired hs' hpos hp
    case orphaned =>
      by_cases hc : ∃ ph, s.Claims (isOrphanFor h) (.orphan q h ph)
      · obtain ⟨ph, hclaim⟩ := hc
        have hgone : ((s.dequeued rest).retired r).position q = { s.position q with given := false } :=
          position_retired_onWay (s := s.dequeued rest) (ph := ph) hp hs' hq (hhandle.symm ▸ hclaim)
        rw [hgone]
        exact ⟨rfl, fun _ => rfl, fun hno => absurd hclaim (hno ph)⟩
      · have hkept : ((s.dequeued rest).retired r).position q = s.position q :=
          position_retired_unclaimed (s := s.dequeued rest) hp fun ph hclaim => hc ⟨ph, hhandle ▸ hclaim⟩
        rw [hkept]
        exact ⟨rfl, fun hyes => absurd hyes hc, fun _ => rfl⟩
    case records =>
      rw [hframe, hslot]
      rfl
    all_goals
      rw [hframe]
      rfl
  case hand =>
    refine ⟨handFreed_full, handFreed_none, fun p d image hp ha hst hd hi hlow => ?_⟩
    intro matching
    obtain ⟨hunmatched, hmatched⟩ := handFreed_waiting hs hsound hp ha hst hd hi hlow
    refine ⟨fun hno => hunmatched (matchingCode_eq_none hno), fun c hm => ?_⟩
    obtain ⟨hconflict, hrebind, hcreate⟩ := hmatched c (matchingCode_eq_some.mpr hm)
    refine ⟨fun r q hr hserial hq => hconflict r hr hserial (hq ▸ Option.some_ne_none q), hrebind, fun hnew => ?_⟩
    have hempty : s.recordAt n = none := List.find?_eq_none.mpr fun r hr => by simpa using hfree r hr
    obtain ⟨hadm, htags, -⟩ := createRecord_frame (s := s) (n := n) (c := c) (p := p) (d := d) (image := image)
    rw [hcreate hnew]
    exact ⟨rfl, records_createRecord hempty, hadm, htags, position_createRecord hs hp,
      fun q _ hne => position_createRecord_other hne, profileSlot_createRecord, port_createRecord hst⟩

end Sys2Proof.Machine
end

section
/-! SUPPORT. What a change makes of each record of the table: its slot, serial and profile stay, a SEALED record changes
its position field alone, and the counts stay in their ranges (R1, R5, R6, R13, R19). -/

namespace Sys2Proof.Machine

variable {s t u : State} {n m p k : Nat} {r r' : Record} {h : Handle}

/-! ### The table apart from the rest of the part -/

/-- The records, their tags and the profiles. -/
structure Table where
  records : List Record
  tags : List Byte
  profiles : List (Option ProfileSlot)

def State.table (s : State) : Table := ⟨s.records, s.tags, s.profiles⟩

section
variable (s)

@[simp] theorem table_raise (c : Condition) : (s.raise c).table = s.table := rfl
@[simp] theorem table_raiseIf (b : Bool) (c : Condition) : (s.raiseIf b c).table = s.table := by cases b <;> rfl
@[simp] theorem table_updPosition (p : Nat) (f : Position → Position) : (s.updPosition p f).table = s.table := rfl
@[simp] theorem table_updCmp (p : Nat) (f : Comparator → Comparator) : (s.updCmp p f).table = s.table := rfl
@[simp] theorem table_updLane (l : Nat) (f : Lane → Lane) : (s.updLane l f).table = s.table := rfl
@[simp] theorem table_send (c : Claim) : (s.send c).table = s.table := rfl
@[simp] theorem table_queueItem (p : Nat) (w : Work) : (s.queueItem p w).table = s.table := rfl
@[simp] theorem table_endItem (p : Nat) : (s.endItem p).table = s.table := rfl
@[simp] theorem table_keepItem (p : Nat) (i : Item) : (s.keepItem p i).table = s.table := rfl
@[simp] theorem table_endTurn (l : Nat) : (s.endTurn l).table = s.table := rfl
@[simp] theorem table_setWork (p : Nat) (w : Work) : (s.setWork p w).table = s.table := rfl
@[simp] theorem table_withdrawWork (p : Nat) : (s.withdrawWork p).table = s.table := rfl
@[simp] theorem table_discardOutcomes (p : Nat) : (s.discardOutcomes p).table = s.table := rfl
@[simp] theorem table_claimTaken (f : Claim → Bool) : (s.claimTaken f).table = s.table := rfl
@[simp] theorem table_count (p : Nat) (f : Comparator → Counted) : (s.count p f).table = s.table := rfl
@[simp] theorem table_idleComparators : s.idleComparators.table = s.table := rfl
@[simp] theorem table_closeSequencer (k : Nat) (c : EndCause) : (s.closeSequencer k c).table = s.table := rfl
@[simp] theorem table_issueSeal : s.issueSeal.table = s.table := by simp only [State.issueSeal, table_raiseIf]; rfl
@[simp] theorem table_settle : s.settle.table = s.table := by rw [settle_frame]; rfl

@[simp] theorem table_moveTo (p : Nat) (st : PositionState) : (s.moveTo p st).table = s.table := by
  simp only [State.moveTo, table_raiseIf, table_updPosition]
@[simp] theorem table_enterIdentifying (p : Nat) : (s.enterIdentifying p).table = s.table := by
  simp only [State.enterIdentifying, table_queueItem, table_updPosition, table_moveTo]
@[simp] theorem table_enterImage (p : Nat) : (s.enterImage p).table = s.table := rfl
@[simp] theorem table_toConflict (p : Nat) : (s.toConflict p).table = s.table := by
  simp only [State.toConflict, table_updPosition, table_moveTo]
@[simp] theorem table_toBound (p : Nat) : (s.toBound p).table = s.table := by
  simp only [State.toBound, table_updPosition, table_moveTo]
@[simp] theorem table_toWaiting (p : Nat) : (s.toWaiting p).table = s.table := by
  simp only [State.toWaiting, table_updPosition, table_moveTo]

@[simp] theorem table_giveItem (r : Record) (w : Work) : (s.giveItem r w).table = s.table := by
  unfold State.giveItem
  (repeat' split) <;> rfl
@[simp] theorem table_giveGone (r : Record) (b : Bool) : (s.giveGone r b).table = s.table := by
  unfold State.giveGone
  split <;> rfl
@[simp] theorem table_withdrawWrite (r : Record) : (s.withdrawWrite r).table = s.table := by
  rw [withdrawWrite_frame]
  rfl
@[simp] theorem table_resumeWrite (n : Nat) : (s.resumeWrite n).table = s.table := by
  unfold State.resumeWrite
  (repeat' split) <;> simp
@[simp] theorem table_dropItem (p : Nat) : (s.dropItem p).table = s.table := by
  rw [dropItem_frame]
  rfl
@[simp] theorem table_voidGrant (p : Nat) : (s.voidGrant p).table = s.table := table_dropItem s p
@[simp] theorem table_sendTurn (l p : Nat) : (s.sendTurn l p).table = s.table := by
  unfold State.sendTurn
  split <;> rfl
@[simp] theorem table_decideIdent (p : Nat) (d : Identity) : (s.decideIdent p d).table = s.table := by
  unfold State.decideIdent
  dsimp only
  (repeat' split) <;> simp
@[simp] theorem table_imageRead (p : Nat) (ws : List Word) : (s.imageRead p ws).table = s.table := by
  unfold State.imageRead
  dsimp only
  (repeat' split) <;> rfl
@[simp] theorem table_sample (p : Nat) : (s.sample p).table = s.table := by
  unfold State.sample
  dsimp only
  split <;> simp
@[simp] theorem table_compareWatchdog : s.compareWatchdog.table = s.table := by
  unfold State.compareWatchdog
  split <;> rfl

end

/-- A fold of changes that leave the table leaves it. -/
theorem table_foldl {α : Type} (f : State → α → State) (hf : ∀ v a, (f v a).table = v.table) (l : List α) (s : State) :
    (l.foldl f s).table = s.table := by
  induction l generalizing s with
  | nil => rfl
  | cons a l ih => exact (ih _).trans (hf s a)

theorem table_sampleAll (s : State) : s.sampleAll.table = s.table :=
  table_foldl _ (fun v p => table_sample v p) _ s

theorem records_of_table (h : t.table = s.table) : t.records = s.records := by have := congrArg Table.records h; exact this

theorem tags_of_table (h : t.table = s.table) : t.tags = s.tags := by have := congrArg Table.tags h; exact this

theorem profiles_of_table (h : t.table = s.table) : t.profiles = s.profiles := by
  have := congrArg Table.profiles h; exact this

/-! ### One record and what becomes of it -/

/-- R13: the counts of a record in their ranges, under the profiles of the codes. -/
def Record.InRange (m : Nat → Option Profile) (r : Record) : Prop :=
  (∀ pf, m r.profile = some pf → r.rounds ≤ pf.maxRounds) ∧ r.generation ≤ 255 ∧
    r.writeFailures ≤ 2 ∧ r.sealAttempts ≤ 2 ∧ r.spoiled.length ≤ 2 ∧
    (r.state ≠ .rejected → r.writeFailures ≤ 1 ∧ r.sealAttempts ≤ 1 ∧ r.spoiled.length ≤ r.sealAttempts)

theorem countsInRange_iff (s : State) : s.CountsInRange ↔ ∀ r ∈ s.records, r.InRange s.profileAt := Iff.rfl

/-- What never changes of a record: its slot, its serial and its profile code. -/
def Record.roll (r : Record) : Nat × List Byte × Nat := (r.slot, r.serial, r.profile)

/-- What a change may make of a record. -/
structure Record.Follows (m : Nat → Option Profile) (r r' : Record) : Prop where
  frozen : r.state = .sealed → r' = { r with position := r'.position }
  counts : r.InRange m → r'.InRange m

theorem Record.Follows.refl (m : Nat → Option Profile) (r : Record) : r.Follows m r := ⟨fun _ => rfl, id⟩

theorem Record.Follows.trans {m : Nat → Option Profile} {r r' r'' : Record} (h : r.Follows m r') (h' : r'.Follows m r'') :
    r.Follows m r'' := by
  refine ⟨fun hst => ?_, fun hr => h'.counts (h.counts hr)⟩
  have h1 := h.frozen hst
  have h2 := h'.frozen (by rw [h1]; exact hst)
  rw [h1] at h2
  exact h2

/-- R8: a record bound or orphaned. -/
theorem Record.Follows.positioned (m : Nat → Option Profile) (r : Record) (q : Option Nat) :
    r.Follows m { r with position := q } := ⟨fun _ => rfl, id⟩

/-- A change of a record outside SEALED and REJECTED that leaves its counts. -/
theorem Record.Follows.opened {m : Nat → Option Profile} (ho : r.state ≠ .sealed ∧ r.state ≠ .rejected)
    (hprofile : r'.profile = r.profile) (hrounds : r'.rounds = r.rounds) (hgen : r'.generation = r.generation)
    (hfail : r'.writeFailures = r.writeFailures) (hseal : r'.sealAttempts = r.sealAttempts)
    (hspoil : r'.spoiled = r.spoiled) : r.Follows m r' := by
  refine ⟨fun hst => absurd hst ho.1, fun ⟨h1, h2, h3, h4, h5, h6⟩ => ?_⟩
  have h7 := h6 ho.2
  unfold Record.InRange
  rw [hprofile, hrounds, hgen, hfail, hseal, hspoil]
  exact ⟨h1, h2, h3, h4, h5, fun _ => h7⟩

/-- R18: a record rejected. -/
theorem Record.Follows.rejected {m : Nat → Option Profile} (hst : r.state ≠ .sealed) (c : Option RejectCause) :
    r.Follows m { r with state := .rejected, cause := c } :=
  ⟨fun h => absurd h hst, fun ⟨h1, h2, h3, h4, h5, _⟩ => ⟨h1, h2, h3, h4, h5, fun h => absurd rfl h⟩⟩

/-! ### The records of a part and what becomes of them -/

/-- A change that keeps the table: no record joins or leaves it, and each follows from what it was. -/
structure Keeps (s t : State) : Prop where
  rolls : t.records.map Record.roll = s.records.map Record.roll
  tags : t.tags = s.tags
  profiles : t.profiles = s.profiles
  records : ∀ n r, s.recordAt n = some r → ∃ r', t.recordAt n = some r' ∧ r.Follows s.profileAt r'

theorem profileAt_of_profiles (h : t.profiles = s.profiles) : t.profileAt = s.profileAt := by
  funext c
  simp only [State.profileAt, State.profileSlot, h]

theorem Keeps.same (h : t.table = s.table) : Keeps s t := by
  refine ⟨by rw [records_of_table h], tags_of_table h, profiles_of_table h, fun n r hr => ⟨r, ?_, .refl _ r⟩⟩
  rw [State.recordAt_congr (records_of_table h), hr]

theorem Keeps.refl (s : State) : Keeps s s := .same rfl

theorem Keeps.trans (h : Keeps s t) (h' : Keeps t u) : Keeps s u := by
  refine ⟨h'.rolls.trans h.rolls, h'.tags.trans h.tags, h'.profiles.trans h.profiles, fun n r hr => ?_⟩
  obtain ⟨r', hr', hf⟩ := h.records n r hr
  obtain ⟨r'', hr'', hf'⟩ := h'.records n r' hr'
  rw [profileAt_of_profiles h.profiles] at hf'
  exact ⟨r'', hr'', hf.trans hf'⟩

/-- A change of the state that the table is apart from, after one that keeps it. -/
theorem Keeps.then (h : Keeps s t) (h' : u.table = t.table) : Keeps s u := h.trans (.same h')

/-- A change that keeps the table, after one of the state that the table is apart from. -/
theorem Keeps.after (h' : Keeps t u) (h : t.table = s.table) : Keeps s u := (Keeps.same h).trans h'

theorem Keeps.settled (h : Keeps s t) : Keeps s t.settle := h.then (table_settle t)

theorem Keeps.foldl {α : Type} {f : State → α → State} (hf : ∀ v a, Keeps v (f v a)) (l : List α) (s : State) :
    Keeps s (l.foldl f s) := by
  induction l generalizing s with
  | nil => exact .refl s
  | cons a l ih => exact (hf s a).trans (ih _)

theorem Keeps.updRecord {f : Record → Record} (hroll : ∀ r, (f r).roll = r.roll)
    (h : ∀ r, s.recordAt n = some r → r.Follows s.profileAt (f r)) : Keeps s (s.updRecord n f) := by
  have hslot (r : Record) : (f r).slot = r.slot := by have := congrArg Prod.fst (hroll r); exact this
  refine ⟨?_, rfl, rfl, fun m r hr => ?_⟩
  · rw [State.updRecord_records, List.map_map]
    refine List.map_congr_left fun r _ => ?_
    by_cases hn : r.slot = n <;> simp [hn, hroll]
  · by_cases hm : m = n
    · subst hm
      exact ⟨f r, State.recordAt_updated f hslot hr, h r hr⟩
    · exact ⟨r, (recordAt_updRecord_other f hslot hm).trans hr, .refl _ r⟩

theorem rolls_of_book (h : t.book = s.book) : t.records.map Record.roll = s.records.map Record.roll := by
  have hk := congrArg (List.map fun k : RecordKey => (k.slot, k.serial, k.profile)) (records_of_book h)
  rw [List.map_map, List.map_map] at hk
  exact hk

/-- A change that the book does not see, of the record of one slot. -/
theorem Keeps.at (hb : t.book = s.book) (hother : ∀ m, m ≠ n → t.recordAt m = s.recordAt m)
    (hown : ∀ r, s.recordAt n = some r → ∃ r', t.recordAt n = some r' ∧ r.Follows s.profileAt r') : Keeps s t := by
  refine ⟨rolls_of_book hb, congrArg Book.tags hb, congrArg Book.profiles hb, fun m r hr => ?_⟩
  by_cases hm : m = n
  · subst hm
    exact hown r hr
  · exact ⟨r, (hother m hm).trans hr, .refl _ r⟩

/-! ### The record of a slot, outside SEALED and REJECTED -/

/-- The record of a slot may change its state. -/
def State.OpenAt (s : State) (n : Nat) : Prop := ∀ r, s.recordAt n = some r → r.state ≠ .sealed ∧ r.state ≠ .rejected

theorem openAt_of_recordAt (hr : s.recordAt n = some r) (ho : r.state ≠ .sealed ∧ r.state ≠ .rejected) : s.OpenAt n :=
  fun x hx => by
    cases hr.symm.trans hx
    exact ho

theorem openAt_updRecord {f : Record → Record} (hf : ∀ r, (f r).slot = r.slot) (hst : ∀ r, (f r).state = r.state)
    (h : s.OpenAt n) : (s.updRecord n f).OpenAt n := fun r hr => by
  rw [State.recordAt_updRecord s n n f hf, if_pos rfl] at hr
  obtain ⟨x, hx, rfl⟩ := Option.map_eq_some_iff.mp hr
  rw [hst]
  exact h x hx

theorem openAt_moveRecord {st : RecordState} (hst : st ≠ .sealed ∧ st ≠ .rejected) : (s.moveRecord n st).OpenAt n :=
  fun r hr => by
    have hat : (s.moveRecord n st).recordAt n = (s.recordAt n).map fun r => { r with state := st } :=
      (State.recordAt_updRecord s n n (fun r => { r with state := st }) fun _ => rfl).trans (if_pos rfl)
    rw [hat] at hr
    obtain ⟨x, -, rfl⟩ := Option.map_eq_some_iff.mp hr
    exact hst

theorem keeps_moveRecord (st : RecordState) (h : s.OpenAt n) : Keeps s (s.moveRecord n st) := by
  refine Keeps.then (t := s.updRecord n fun r => { r with state := st }) ?_ rfl
  exact .updRecord (fun _ => rfl) fun r hr => .opened (h r hr) rfl rfl rfl rfl rfl rfl

theorem keeps_reject (c : RejectCause) (h : ∀ r, s.recordAt n = some r → r.state ≠ .sealed) :
    Keeps s (s.reject n c) :=
  .at (book_reject s n c) (fun _ hm => recordAt_reject_other c hm)
    fun r hr => ⟨_, recordAt_reject c hr, .rejected (h r hr) _⟩

theorem keeps_enterSealing (h : s.OpenAt n) : Keeps s (s.enterSealing n) :=
  .at (book_enterSealing s n) (fun _ hm => recordAt_enterSealing_other hm)
    fun r hr => ⟨_, recordAt_enterSealing hr, .opened (h r hr) rfl rfl rfl rfl rfl rfl⟩

theorem recordAt_enterWritePending_other (hm : m ≠ n) : (s.enterWritePending n).recordAt m = s.recordAt m := by
  cases hn : s.recordAt n with
  | none => simp only [State.enterWritePending, hn, recordAt_moveRecord_other _ hm]
  | some r => rw [enterWritePending_eq hn, recordAt_giveItem, recordAt_moveRecord_other _ hm]

theorem keeps_enterWritePending (h : s.OpenAt n) : Keeps s (s.enterWritePending n) :=
  .at (book_enterWritePending s n) (fun _ hm => recordAt_enterWritePending_other hm)
    fun r hr => ⟨_, recordAt_enterWritePending hr, .opened (h r hr) rfl rfl rfl rfl rfl rfl⟩

theorem keeps_autoSealTest (h : s.OpenAt n) : Keeps s (s.autoSealTest n) := by
  unfold State.autoSealTest
  split
  · exact .refl s
  · split
    · split
      · exact keeps_enterSealing h
      · exact .same (table_raise s _)
    · exact .refl s

theorem keeps_evaluate (s : State) (n : Nat) : Keeps s (s.evaluate n) := by
  unfold State.evaluate
  split
  · exact .refl s
  next r hr =>
    split
    next hst =>
      have ho : s.OpenAt n := openAt_of_recordAt hr (by simp [hst])
      split
      · exact (keeps_moveRecord .passed ho).trans (keeps_autoSealTest (openAt_moveRecord (by simp)))
      · exact .refl s
    next hst =>
      have ho : s.OpenAt n := openAt_of_recordAt hr (by simp [hst])
      split
      · exact .refl s
      · exact keeps_moveRecord .measuring ho
    all_goals exact .refl s

theorem keeps_returnToPassed (h : s.OpenAt n) : Keeps s (s.returnToPassed n) :=
  (keeps_moveRecord .passed h).trans (keeps_evaluate _ n)

theorem follows_settled (ph : Option AbandonPhase) (r : Record) : r.Follows s.profileAt (s.settled ph r) := by
  by_cases hu : r.Unsettled
  · have ho : r.state ≠ .sealed ∧ r.state ≠ .rejected := by rcases hu with hst | hst <;> simp [hst]
    rcases hu with hst | hst
    · simp only [State.settled, hst]
      split
      · exact .rejected ho.1 _
      · exact .opened ho rfl rfl rfl rfl rfl rfl
    · cases hnum : r.sealNumber with
      | none =>
        simp only [State.settled, hst, hnum]
        exact .opened ho rfl rfl rfl rfl rfl rfl
      | some number =>
        simp only [State.settled, hst, hnum]
        refine ⟨fun h => absurd h ho.1, fun ⟨h1, h2, h3, h4, h5, h6⟩ => ?_⟩
        obtain ⟨h7, h8, h9⟩ := h6 ho.2
        have hlength : (r.spoiled ++ [number]).length = r.spoiled.length + 1 := by simp
        split
        · refine ⟨h1, h2, h3, ?_, ?_, fun h => absurd rfl h⟩
          · show r.sealAttempts + 1 ≤ 2
            omega
          · show (r.spoiled ++ [number]).length ≤ 2
            omega
        · refine ⟨h1, h2, h3, ?_, ?_, fun _ => ⟨h7, ?_, ?_⟩⟩
          · show r.sealAttempts + 1 ≤ 2
            omega
          · show (r.spoiled ++ [number]).length ≤ 2
            omega
          · show r.sealAttempts + 1 ≤ 1
            omega
          · show (r.spoiled ++ [number]).length ≤ r.sealAttempts + 1
            omega
  · rw [settled_of_settled hu]
    exact .refl _ r

theorem keeps_settleRecord (s : State) (n : Nat) (ph : Option AbandonPhase) : Keeps s (s.settleRecord n ph) :=
  .at (book_settleRecord s n ph) (fun _ hm => recordAt_settleRecord_other hm)
    fun r hr => ⟨_, recordAt_settleRecord hr, follows_settled ph r⟩

theorem keeps_resetEntry (s : State) (k n : Nat) : Keeps s (s.resetEntry k n) := by
  refine .updRecord (fun r => by split <;> rfl) fun r _ => ?_
  split
  · exact .refl _ r
  next hst => exact ⟨fun h => absurd h hst, id⟩

theorem keeps_resetClaim (s : State) (k : Nat) : Keeps s (s.resetClaim k) :=
  (Keeps.foldl (f := fun t n => t.resetEntry k n) (fun v n => keeps_resetEntry v k n) _ s).trans
    (Keeps.foldl (f := fun t n => t.evaluate n) (fun v n => keeps_evaluate v n) _ _)

/-! ### Bindings (R8, R9, R10) -/

theorem keeps_unbind (s : State) (n p : Nat) : Keeps s (s.unbind n p) :=
  Keeps.then (t := s.updRecord n fun r => { r with position := none })
    (.updRecord (fun _ => rfl) fun r _ => .positioned _ r none) rfl

theorem keeps_bind (s : State) (h : Handle) (p : Nat) : Keeps s (s.bind h p) :=
  Keeps.then (t := s.updRecord h.slot fun r => { r with position := some p })
    (.updRecord (fun _ => rfl) fun r _ => .positioned _ r (some p)) rfl

theorem keeps_takeOrphan (s : State) (p : Nat) (h : Handle) (ph : Option AbandonPhase) :
    Keeps s (s.takeOrphan p h ph) := by
  unfold State.takeOrphan
  split
  · exact .refl s
  · split
    · have hfree : Keeps s ((s.withdrawWork p).discardOutcomes p) := .same rfl
      exact (hfree.trans (keeps_unbind _ h.slot p)).trans (keeps_settleRecord _ h.slot ph)
    · exact .refl s

theorem keeps_settleOrphan (s : State) (h : Handle) : Keeps s (s.settleOrphan h) := by
  unfold State.settleOrphan
  split
  · exact .refl s
  · exact .after (keeps_takeOrphan _ _ _ _) rfl

theorem keeps_takeRebind (s : State) (p : Nat) (h : Handle) : Keeps s (s.takeRebind p h) := by
  unfold State.takeRebind
  split
  · exact .same (table_enterImage s p)
  · split
    · exact (((keeps_settleOrphan s h).trans (keeps_bind _ h p)).then (table_toBound _ p)).then (table_resumeWrite _ _)
    · exact .same (table_toConflict s p)

theorem keeps_releaseHeld (s : State) (p : Nat) (h : Handle) : Keeps s (s.releaseHeld p h) :=
  (keeps_takeOrphan s p h none).then rfl

theorem keeps_orphanBound (s : State) (p : Nat) : Keeps s (s.orphanBound p) := by
  unfold State.orphanBound
  split
  · exact .refl s
  · exact .updRecord (fun _ => rfl) fun r _ => .positioned _ r none

theorem keeps_removal (s : State) (p : Nat) : Keeps s (s.removal p) := by
  have hdrop : Keeps s ((s.orphanBound p).dropItem p) := (keeps_orphanBound s p).then (table_dropItem _ p)
  unfold State.removal
  dsimp only
  refine Keeps.then (hdrop.then ?_) (table_updPosition _ _ _)
  rw [table_moveTo]
  rfl

theorem keeps_identReplied (s : State) (p : Nat) (d : Identity) : Keeps s (s.identReplied p d) := by
  have hreleased (v : State) (h : Handle) : Keeps v ((v.releaseHeld p h).decideIdent p d) :=
    (keeps_releaseHeld v p h).then (table_decideIdent _ p d)
  unfold State.identReplied
  dsimp only
  split
  · split
    · split
      · exact .same ((table_resumeWrite _ _).trans (table_toBound _ p))
      · exact .after (hreleased _ _) rfl
    · exact .after (hreleased _ _) rfl
  · exact .same (table_decideIdent _ p d)

theorem keeps_identFault (s : State) (p : Nat) : Keeps s (s.identFault p) := by
  unfold State.identFault
  dsimp only
  split
  · exact (keeps_releaseHeld s p _).then ((table_updPosition _ p _).trans (table_moveTo _ p _))
  · exact .same ((table_updPosition _ p _).trans (table_moveTo _ p _))

theorem keeps_failItem (s : State) (p : Nat) (w : Work) : Keeps s (s.failItem p w) := by
  unfold State.failItem
  dsimp only
  split
  · exact .after (keeps_identFault _ p) rfl
  · exact .after (keeps_identFault _ p) rfl
  all_goals (repeat' split) <;> exact .same rfl

theorem keeps_countAttempt (s : State) (p : Nat) (i : Item) : Keeps s (s.countAttempt p i) := by
  unfold State.countAttempt
  split
  · exact keeps_failItem s p _
  · exact .same rfl

theorem keeps_takeReply (s : State) (p : Nat) (i : Item) (x : Reply) : Keeps s (s.takeReply p i x) := by
  unfold State.takeReply
  dsimp only
  split
  · exact .after (keeps_identReplied _ p _) rfl
  · unfold State.wordsRead
    split
    · exact .same (by simp)
    · exact .same rfl
  · unfold State.stagedReply
    split
    · exact .same rfl
    · exact keeps_countAttempt s p _
  all_goals exact .same rfl

end Sys2Proof.Machine
end

section
/-! SUPPORT. The records under result claims, outcomes, requests and restarts (R13, R19). -/

namespace Sys2Proof.Machine

variable {s t u : State} {n m p k : Nat} {r r' : Record} {h : Handle} {pt : Point} {pf : Profile} {e : Int}

/-! ### Result and flag claims (R118..R124) -/

theorem open_of_measured (hm : r.measured = true) : r.state ≠ .sealed ∧ r.state ≠ .rejected := by
  rcases r.measured_iff.mp hm with h | h <;> simp [h]

theorem keeps_written {res : Result} (status : EntryStatus) (h : s.OpenAt n) : Keeps s (s.written n k r res status) :=
  .updRecord (fun _ => rfl) fun x hx => .opened (h x hx) rfl rfl rfl rfl rfl rfl

theorem openAt_written {res : Result} (status : EntryStatus) (h : s.OpenAt n) : (s.written n k r res status).OpenAt n :=
  openAt_updRecord (fun _ => rfl) (fun _ => rfl) h

/-- R122: an ADJUSTED verdict is given only below the limit of rounds. -/
theorem rounds_of_adjusted {rounds : Nat} (hv : verdictOf pt pf rounds e = .adjusted) : rounds ≠ pf.maxRounds := by
  rintro rfl
  cases hrole : pt.role with
  | check =>
    rw [verdictOf_check hrole] at hv
    split at hv <;> cases hv
  | adjust =>
    rw [verdictOf_adjust hrole] at hv
    split at hv
    · cases hv
    split at hv
    · cases hv
    rw [if_pos rfl] at hv
    cases hv

/-- R124: a correction counts a round. -/
theorem Record.Follows.adjusted (hm : r.measured = true) (hpf : s.profileAt r.profile = some pf)
    (hv : verdictOf pt pf r.rounds e = .adjusted) (hprofile : r'.profile = r.profile)
    (hrounds : r'.rounds = r.rounds + 1) (hgen : r'.generation = r.generation)
    (hfail : r'.writeFailures = r.writeFailures) (hseal : r'.sealAttempts = r.sealAttempts)
    (hspoil : r'.spoiled = r.spoiled) : r.Follows s.profileAt r' := by
  obtain ⟨hsealed, hrejected⟩ := open_of_measured hm
  refine ⟨fun hst => absurd hst hsealed, fun ⟨h1, h2, h3, h4, h5, h6⟩ => ?_⟩
  have h7 := h6 hrejected
  have hlimit := rounds_of_adjusted hv
  unfold Record.InRange
  rw [hprofile, hrounds, hgen, hfail, hseal, hspoil]
  refine ⟨fun pf' hpf' => ?_, h2, h3, h4, h5, fun _ => h7⟩
  cases hpf.symm.trans hpf'
  have := h1 pf hpf
  omega

theorem book_corrected {res : Result} : (s.corrected n k r res pt pf e).book = s.book :=
  (book_updRecord _ n (Record.adjust pt pf e) fun _ => rfl).trans (book_withEntry s n k _)

theorem recordAt_corrected_other {res : Result} (hm : m ≠ n) :
    (s.corrected n k r res pt pf e).recordAt m = s.recordAt m :=
  (recordAt_updRecord_other (Record.adjust pt pf e) (fun _ => rfl) hm).trans
    (recordAt_updRecord_other (Record.withEntry k (res.entry .adjusted r.generation)) (fun _ => rfl) hm)

theorem keeps_corrected {res : Result} (hr : s.recordAt n = some r) (hm : r.measured = true)
    (hpf : s.profileAt r.profile = some pf) (hv : verdictOf pt pf r.rounds e = .adjusted) :
    Keeps s (s.corrected n k r res pt pf e) :=
  .at book_corrected (fun _ hm => recordAt_corrected_other hm) fun x hx => by
    cases hr.symm.trans hx
    exact ⟨_, recordAt_corrected hr, .adjusted hm hpf hv rfl rfl rfl rfl rfl rfl⟩

theorem keeps_verdict {res : Result} (hr : s.recordAt n = some r) (hm : r.measured = true)
    (hpf : s.profileAt r.profile = some pf) :
    Keeps s ((s.written n k r res (verdictOf pt pf r.rounds e).status).verdictEffect n pt pf e
      (verdictOf pt pf r.rounds e)) := by
  have ho := openAt_of_recordAt hr (open_of_measured hm)
  cases hv : verdictOf pt pf r.rounds e with
  | pass => exact keeps_written _ ho
  | fail => exact keeps_written _ ho
  | outOfRange => exact (keeps_written _ ho).trans (keeps_reject _ fun x hx => (openAt_written _ ho x hx).1)
  | adjustLimit => exact (keeps_written _ ho).trans (keeps_reject _ fun x hx => (openAt_written _ ho x hx).1)
  | adjusted =>
    have hcorrected : Keeps s (s.corrected n k r res pt pf e) := keeps_corrected hr hm hpf hv
    have hopen : (s.corrected n k r res pt pf e).OpenAt n :=
      openAt_updRecord (fun _ => rfl) (fun _ => rfl) (openAt_written .adjusted ho)
    show Keeps s ((s.written n k r res .adjusted).verdictEffect n pt pf e .adjusted)
    cases hd : (r.adjust pt pf e).differs with
    | false =>
      rw [verdictEffect_same hr hd]
      exact hcorrected
    | true =>
      rw [verdictEffect_differs hr hd]
      exact (hcorrected.trans (keeps_enterWritePending hopen)).then (table_giveGone _ _ _)

theorem keeps_writeResult {res : Result} (hr : s.recordAt n = some r) (hm : r.measured = true) :
    Keeps s (s.writeResult n k r res) := by
  by_cases hk : res.kind = .done
  · unfold State.writeResult
    split
    next e pt pf _ _ _ hpf => exact (keeps_verdict hr hm hpf).trans (keeps_evaluate _ n)
    next => exact .refl s
    all_goals exact (keeps_written _ (openAt_of_recordAt hr (open_of_measured hm))).trans (keeps_evaluate _ n)
  · rw [writeResult_plain n hk]
    exact (keeps_written _ (openAt_of_recordAt hr (open_of_measured hm))).trans (keeps_evaluate _ n)

theorem keeps_takeResult (s : State) (h : Handle) (k : Nat) (res : Result) : Keeps s (s.takeResult h k res) := by
  unfold State.takeResult
  split
  · exact .refl s
  next r hn =>
    split
    next hm => exact keeps_writeResult (State.recordAt_named hn) hm
    · exact .refl s

theorem keeps_takeFlag (s : State) (h : Handle) (f : ClaimFlag) : Keeps s (s.takeFlag h f) := by
  unfold State.takeFlag
  split
  · exact .refl s
  next r hn =>
    split
    next hm =>
      have ho := openAt_of_recordAt (State.recordAt_named hn) (open_of_measured hm)
      exact .updRecord (fun _ => rfl) fun x hx => .opened (ho x hx) rfl rfl rfl rfl rfl rfl
    · exact .refl s

theorem keeps_takeComparatorClaim (s : State) (c : Claim) : Keeps s (s.takeComparatorClaim c) := by
  cases c with
  | flag p h f => exact keeps_takeFlag s h f
  | result p h k res => exact keeps_takeResult s h k res
  | _ => exact .refl s

theorem keeps_takeAll (cs : List Claim) (s : State) : Keeps s (takeAll cs s) :=
  .foldl (fun v c => keeps_takeComparatorClaim v c) cs s

theorem keeps_takeSentClaims (s : State) : Keeps s s.takeSentClaims := .after (keeps_takeAll _ _) rfl

theorem keeps_endPoint (s : State) (k : Nat) (c : EndCause) (f : Comparator → Option Result) :
    Keeps s (s.endPoint k c f) := ((keeps_takeSentClaims s).trans (keeps_takeAll _ _)).then rfl

/-! ### Lane work and its outcomes (R155, R169..R172, R188..R192) -/

theorem keeps_writeStartTaken (s : State) (p : Nat) (h : Handle) : Keeps s (s.writeStartTaken p h) := by
  have hdeclined : Keeps s (s.voidGrant p).settle := (Keeps.same (table_voidGrant s p)).settled
  unfold State.writeStartTaken
  dsimp only
  split
  · exact hdeclined
  next r hn =>
    split
    · exact hdeclined
    · split
      next hc =>
        have ho : s.OpenAt h.slot := openAt_of_recordAt (State.recordAt_named hn) (by simp [hc.1])
        exact (keeps_moveRecord .writing ho).then ((table_sendTurn _ _ _).trans (table_setWork _ _ _))
      · exact hdeclined

theorem keeps_startLock (ho : s.OpenAt n) : Keeps s (s.startLock p n pf r) := by
  have hissued (v : State) (hv : v.OpenAt n) : Keeps v (v.updRecord n fun x => { x with sealNumber := some s.seals.next }) :=
    .updRecord (fun _ => rfl) fun x hx => .opened (hv x hx) rfl rfl rfl rfl rfl rfl
  have hopen : s.issueSeal.OpenAt n := fun x hx => ho x (by
    rw [← State.recordAt_congr (State.issueSeal_records s)]
    exact hx)
  exact (Keeps.after (hissued _ hopen) (table_issueSeal s)).then ((table_sendTurn _ _ _).trans (table_setWork _ _ _))

theorem keeps_sealStartTaken (s : State) (p : Nat) (h : Handle) : Keeps s (s.sealStartTaken p h) := by
  have hvoid : Keeps s (s.voidGrant p) := .same (table_voidGrant s p)
  unfold State.sealStartTaken
  dsimp only
  split
  · exact hvoid.settled
  next r hn =>
    split
    · exact hvoid.settled
    · split
      next hc =>
        have ho : s.OpenAt h.slot := openAt_of_recordAt (State.recordAt_named hn) (by simp [hc.1])
        have hopen : (s.voidGrant p).OpenAt h.slot := fun x hx => ho x (by
          rw [← State.recordAt_congr (records_of_table (table_voidGrant s p))]
          exact hx)
        have hreturn : Keeps s ((s.voidGrant p).returnToPassed h.slot) := hvoid.trans (keeps_returnToPassed hopen)
        split
        · exact hreturn.settled
        · split
          · exact (hreturn.then (table_raise _ _)).settled
          · exact keeps_startLock ho
      · exact hvoid.settled

theorem keeps_onWriting {f : Record → State → State}
    (hf : ∀ r, s.recordAt h.slot = some r → r.state = .writing → Keeps s (f r s)) : Keeps s (s.onWriting p h f) := by
  unfold State.onWriting
  split
  · exact .refl s
  next r hn =>
    split
    next hc => exact (hf r (State.recordAt_named hn) hc.1).settled
    · exact .refl s

theorem keeps_onLock {f : State → State}
    (hf : ∀ r, s.recordAt h.slot = some r → r.state = .sealing → r.sealNumber.isSome = true → Keeps s (f s)) :
    Keeps s (s.onLock p h f) := by
  unfold State.onLock
  split
  · exact .refl s
  next r hn =>
    split
    next hc => exact (hf r (State.recordAt_named hn) hc.1 hc.2.1).settled
    · exact .refl s

theorem keeps_confirmWrite (x : Record) (ho : s.OpenAt n) : Keeps s (s.confirmWrite n x) := by
  have hconfirm (stale : Nat → Bool) : Keeps s (s.updRecord n (Record.confirm stale)) :=
    .updRecord (fun _ => rfl) fun r hr => by
      refine ⟨fun hst => absurd hst (ho r hr).1, fun ⟨h1, _, h3, h4, h5, h6⟩ => ⟨h1, ?_, h3, h4, h5, h6⟩⟩
      exact Nat.min_le_left 255 _
  have hopen (stale : Nat → Bool) : (s.updRecord n (Record.confirm stale)).OpenAt n :=
    openAt_updRecord (fun _ => rfl) (fun _ => rfl) ho
  unfold State.confirmWrite
  exact ((hconfirm _).trans (keeps_moveRecord .measuring (hopen _))).trans (keeps_evaluate _ n)

/-- R170: a stage failure counted, at the first or the second. -/
theorem keeps_failStage (hr : s.recordAt n = some r) (hst : r.state = .writing) : Keeps s (s.failStage n r) := by
  let v := s.updRecord n fun x => { x with writeFailures := x.writeFailures + 1 }
  have hat : v.recordAt n = some { r with writeFailures := r.writeFailures + 1 } :=
    State.recordAt_updated (fun x => { x with writeFailures := x.writeFailures + 1 }) (fun _ => rfl) hr
  have hother (m : Nat) (hm : m ≠ n) : v.recordAt m = s.recordAt m :=
    recordAt_updRecord_other (fun x => { x with writeFailures := x.writeFailures + 1 }) (fun _ => rfl) hm
  have hbook : v.book = s.book := book_updRecord s n (fun x => { x with writeFailures := x.writeFailures + 1 }) fun _ => rfl
  have hfail : s.failStage n r = if 2 ≤ r.writeFailures + 1 then v.reject n .writeFailed else v.enterWritePending n := rfl
  rw [hfail]
  split
  · refine .at ((book_reject v n _).trans hbook) (fun m hm => (recordAt_reject_other _ hm).trans (hother m hm)) fun x hx => ?_
    cases hr.symm.trans hx
    refine ⟨_, recordAt_reject .writeFailed hat, fun h => by simp [hst] at h, fun ⟨h1, h2, _, h4, h5, h6⟩ => ?_⟩
    obtain ⟨h7, -, -⟩ := h6 (by simp [hst])
    exact ⟨h1, h2, Nat.succ_le_succ h7, h4, h5, fun h => absurd rfl h⟩
  next hc =>
    refine .at ((book_enterWritePending v n).trans hbook)
      (fun m hm => (recordAt_enterWritePending_other hm).trans (hother m hm)) fun x hx => ?_
    cases hr.symm.trans hx
    refine ⟨_, recordAt_enterWritePending hat, fun h => by simp [hst] at h, fun ⟨h1, h2, _, h4, h5, h6⟩ => ?_⟩
    obtain ⟨h7, h8, h9⟩ := h6 (by simp [hst])
    exact ⟨h1, h2, Nat.succ_le_succ h7, h4, h5, fun _ => ⟨Nat.le_of_not_lt hc, h8, h9⟩⟩

theorem keeps_sealRecord (c : Check) (ho : s.OpenAt n) : Keeps s (s.sealRecord n c) :=
  (Keeps.updRecord (f := fun x => { x with recordCheck := some c }) (fun _ => rfl)
    fun x hx => .opened (ho x hx) rfl rfl rfl rfl rfl rfl).trans
    (keeps_moveRecord .sealed (openAt_updRecord (fun _ => rfl) (fun _ => rfl) ho))

/-- R189, R190: the number spoiled and the record rejected. -/
theorem keeps_spoilReject (c : RejectCause) (hr : s.recordAt n = some r) (hst : r.state = .sealing) :
    Keeps s (s.spoilReject n c) := by
  have hat : (s.updRecord n Record.spoil).recordAt n = some r.spoil := State.recordAt_updated _ (fun _ => rfl) hr
  refine .at ((book_reject _ n c).trans (book_updRecord s n _ fun _ => rfl))
    (fun m hm => (recordAt_reject_other c hm).trans (recordAt_updRecord_other _ (fun _ => rfl) hm)) fun x hx => ?_
  cases hr.symm.trans hx
  refine ⟨_, recordAt_reject c hat, fun h => by simp [hst] at h, fun ⟨h1, h2, h3, h4, _, h6⟩ => ?_⟩
  obtain ⟨-, h8, h9⟩ := h6 (by simp [hst])
  have hlength : (r.spoiled ++ r.sealNumber.toList).length ≤ r.spoiled.length + 1 := by
    cases r.sealNumber <;> simp
  refine ⟨h1, h2, h3, h4, ?_, fun h => absurd rfl h⟩
  show (r.spoiled ++ r.sealNumber.toList).length ≤ 2
  omega

theorem keeps_spoilAttempt (hr : s.recordAt n = some r) (hst : r.state = .sealing)
    (hnum : r.sealNumber.isSome = true) : Keeps s (s.spoilAttempt n) := by
  obtain ⟨number, hnum⟩ := Option.isSome_iff_exists.mp hnum
  rw [← settleRecord_numbered (ph := none) hr hst hnum]
  exact keeps_settleRecord s n none

/-! ### Restart, presence and the lanes -/

theorem keeps_restartRecords (s : State) (cause : WarmCause) : Keeps s (s.restartRecords cause) := by
  have hport : ({ s with port := s.port.restarted cause } : State).table = s.table := rfl
  have hstep (v : State) (x : Record) : Keeps v (settleAtRestart s v x) := keeps_settleRecord v x.slot _
  exact (Keeps.foldl (f := settleAtRestart s) hstep s.records _).after hport

theorem table_of_samePlant (h : SamePlant s t) : t.table = s.table := by
  unfold SamePlant at h
  rw [h]
  rfl

theorem table_restartPlant (s : State) (cause : WarmCause) :
    (s.restartPlant cause).table = (s.restartRecords cause).table := by
  rw [table_of_samePlant (samePlant_restartPlant cause s)]
  unfold State.restartTables
  generalize s.restartRecords cause = v
  rfl

theorem keeps_warmRestart (s : State) (cause : WarmCause) : Keeps s (s.warmRestart cause) := by
  rw [warmRestart_eq]
  exact ((keeps_restartRecords s cause).then (table_restartPlant s cause)).settled

theorem keeps_miss_endTurn (s : State) (l p : Nat) (i : Item) : Keeps s ((s.endTurn l).miss p i) :=
  (keeps_countAttempt _ p _).after (table_endTurn s l)

theorem keeps_receive (s : State) (l : Nat) (bs : List Byte) : Keeps s (s.receive l bs) := by
  have hreply (p : Nat) (i : Item) (x : Reply) : Keeps s ((s.endTurn l).takeReply p i x) :=
    (keeps_takeReply _ p i x).after (table_endTurn s l)
  unfold State.receive
  dsimp only
  split
  · split
    · exact .refl s
    · split
      · split
        · exact (hreply _ _ _).settled
        · exact (keeps_miss_endTurn s l _ _).settled
      · exact .refl s
  · exact .refl s

theorem keeps_replyTimeout (s : State) (l : Nat) : Keeps s (s.replyTimeout l) := by
  unfold State.replyTimeout
  split
  · split
    · exact .refl s
    · exact (keeps_miss_endTurn s l _ _).settled
  all_goals exact .refl s

theorem keeps_debounced (s : State) (p : Nat) : Keeps s (s.debounced p) := by
  have hremoved : Keeps s ((s.updPosition p fun x => { x with taken := x.raw, debounce := none }).removal p) :=
    (keeps_removal _ p).after (table_updPosition s p _)
  unfold State.debounced
  dsimp only
  split
  · exact .refl s
  · split
    · split
      · exact (Keeps.same ((table_enterIdentifying _ p).trans (table_updPosition s p _))).settled
      · exact .same rfl
    · exact .same rfl
    all_goals
      split
      · exact .same rfl
      · exact hremoved.settled

/-! ### Requests -/

theorem table_benchSet (as : List (Nat × Nat)) (s : State) :
    ((as.foldl (fun t a => t.assign a) s).benchEffects s.port.bench).table = s.table := by
  have hassign : (as.foldl (fun t a => t.assign a) s).table = s.table := table_foldl _ (fun v a => by
    unfold State.assign
    dsimp only
    split <;> rfl) as s
  generalize as.foldl (fun t a => t.assign a) s = v at hassign
  rw [← hassign]
  have hloss : (if v.port.bench.refTimeout = s.port.bench.refTimeout then v else v.compareWatchdog).table = v.table := by
    split
    · rfl
    · exact table_compareWatchdog v
  unfold State.benchEffects
  generalize (if v.port.bench.refTimeout = s.port.bench.refTimeout then v else v.compareWatchdog) = w at hloss
  dsimp only
  split
  · exact (table_sampleAll w).trans hloss
  · exact hloss

theorem keeps_amendTrim (x : Trim) (v : Int) (hr : s.recordAt n = some r) (hm : r.state = .measuring ∨ r.state = .passed) :
    Keeps s (s.amendTrim n x v r) := by
  have ho : s.OpenAt n := openAt_of_recordAt hr (by rcases hm with hm | hm <;> simp [hm])
  have hamended : Keeps s (s.updRecord n (Record.amend x.band x.phase v)) :=
    .updRecord (fun _ => rfl) fun y hy => .opened (ho y hy) rfl rfl rfl rfl rfl rfl
  have hopen : (s.updRecord n (Record.amend x.band x.phase v)).OpenAt n := openAt_updRecord (fun _ => rfl) (fun _ => rfl) ho
  unfold State.amendTrim
  dsimp only
  split
  · exact (hamended.trans (keeps_enterWritePending hopen)).settled
  · exact hamended

theorem keeps_clearFlags (hr : s.recordAt n = some r) (hst : r.state ≠ .sealed) : Keeps s (s.clearFlags n r) := by
  have hcleared : Keeps s (s.updRecord n fun r => { r with flags := r.flags.cleared }) :=
    .updRecord (fun _ => rfl) fun y hy => by
      cases hr.symm.trans hy
      exact ⟨fun h => absurd h hst, id⟩
  unfold State.clearFlags
  dsimp only
  split
  next hc =>
    have ho : s.OpenAt n := openAt_of_recordAt hr (by simp [hc.1])
    exact (hcleared.trans (keeps_autoSealTest (openAt_updRecord (fun _ => rfl) (fun _ => rfl) ho))).settled
  · exact hcleared

/-- R184: SEAL ALL changes each of its records once, while it is in PASSED. -/
theorem keeps_sealEach (rs : List Record) (hnodup : (rs.map (·.slot)).Nodup) (s : State)
    (ho : ∀ x ∈ rs, s.OpenAt x.slot) : Keeps s (rs.foldl (fun t x => t.enterSealing x.slot) s) := by
  induction rs generalizing s with
  | nil => exact .refl s
  | cons x rs ih =>
    rw [List.map_cons, List.nodup_cons] at hnodup
    obtain ⟨hx, hrs⟩ := List.forall_mem_cons.mp ho
    refine (keeps_enterSealing hx).trans (ih hnodup.2 _ fun y hy z hz => hrs y hy z ?_)
    have hne : y.slot ≠ x.slot := fun he => hnodup.1 (he ▸ List.mem_map_of_mem hy)
    rw [← recordAt_enterSealing_other hne]
    exact hz

theorem passed_of_sealable (hr : r ∈ s.sealable) : r ∈ s.records ∧ r.state = .passed := by
  obtain ⟨hmem, hnone⟩ := List.mem_filter.mp hr
  refine ⟨hmem, not_not.mp fun hst => ?_⟩
  simp [State.sealRefusal, hst] at hnone

theorem keeps_sealAll (hs : s.TableSound) : Keeps s (s.sealable.foldl (fun t r => t.enterSealing r.slot) s) := by
  refine keeps_sealEach _ (hs.1.sublist (List.filter_sublist.map _)) s fun x hx => ?_
  obtain ⟨hmem, hst⟩ := passed_of_sealable hx
  exact openAt_of_recordAt (recordAt_of_mem hs hmem) (by simp [hst])

end Sys2Proof.Machine
end

section
/-! SUPPORT. Records that join and leave the table, and the profiles under them (R1, R5, R6, R7, R27, R41). -/

namespace Sys2Proof.Machine

variable {s t u : State} {n m p c : Nat} {r r' : Record} {h : Handle} {d : Identity} {image : Unpacked}

/-! ### A change that removes no record -/

/-- A change after which each record follows from what it was, and that keeps the table sound and its pins counted. -/
structure Grows (s t : State) : Prop where
  tags : t.tags = s.tags
  profileAt : t.profileAt = s.profileAt
  records : ∀ n r, s.recordAt n = some r → ∃ r', t.recordAt n = some r' ∧ r.Follows s.profileAt r'
  sound : s.TableSound → t.TableSound
  pins : s.PinsCounted → t.PinsCounted
  counts : s.TableSound → s.CountsInRange → t.CountsInRange

theorem Grows.trans (h : Grows s t) (h' : Grows t u) : Grows s u := by
  refine ⟨h'.tags.trans h.tags, h'.profileAt.trans h.profileAt, fun n r hr => ?_, h'.sound ∘ h.sound, h'.pins ∘ h.pins,
    fun hs hc => h'.counts (h.sound hs) (h.counts hs hc)⟩
  obtain ⟨r', hr', hf⟩ := h.records n r hr
  obtain ⟨r'', hr'', hf'⟩ := h'.records n r' hr'
  rw [h.profileAt] at hf'
  exact ⟨r'', hr'', hf.trans hf'⟩

/-- R1: soundness of the table is a matter of what never changes of its records. -/
theorem tableSound_of_rolls (h : t.records.map Record.roll = s.records.map Record.roll) (hs : s.TableSound) :
    t.TableSound := by
  have hmap {β : Type} (g : Nat × List Byte × Nat → β) : t.records.map (fun r => g r.roll) =
      s.records.map (fun r => g r.roll) := by
    have := congrArg (List.map g) h
    rwa [List.map_map, List.map_map] at this
  obtain ⟨h1, h2, h3⟩ := hs
  have hslots : t.records.map (·.slot) = s.records.map (·.slot) := hmap Prod.fst
  have hserials : t.records.map (·.serial) = s.records.map (·.serial) := hmap fun x => x.2.1
  refine ⟨hslots ▸ h1, hserials ▸ h2, fun r hr => ?_⟩
  have hmem : r.slot ∈ s.records.map (·.slot) := hslots ▸ List.mem_map_of_mem hr
  obtain ⟨x, hx, hslot⟩ := List.mem_map.mp hmem
  exact hslot ▸ h3 x hx

/-- The number of records that hold a profile code. -/
theorem length_profile_of_rolls (h : t.records.map Record.roll = s.records.map Record.roll) (c : Nat) :
    (t.records.filter (fun r => r.profile = c)).length = (s.records.filter (fun r => r.profile = c)).length := by
  have hcount (l : List Record) : (l.filter (fun r => r.profile = c)).length =
      ((l.map Record.roll).filter (fun x => x.2.2 = c)).length := by
    rw [List.filter_map, List.length_map]
    rfl
  rw [hcount, hcount, h]

theorem pinsCounted_of_rolls (h : t.records.map Record.roll = s.records.map Record.roll) (hp : t.profiles = s.profiles)
    (hs : s.PinsCounted) : t.PinsCounted := by
  have hslot (c : Nat) : t.profileSlot c = s.profileSlot c := by simp only [State.profileSlot, hp]
  obtain ⟨h1, h2⟩ := hs
  refine ⟨fun r hr => ?_, fun c ps hc hps => ?_⟩
  · have hmem : r.roll ∈ s.records.map Record.roll := h ▸ List.mem_map_of_mem hr
    obtain ⟨x, hx, hroll⟩ := List.mem_map.mp hmem
    have hprofile : x.profile = r.profile := congrArg (fun y : Nat × List Byte × Nat => y.2.2) hroll
    rw [hslot, ← hprofile]
    exact h1 x hx
  · rw [hslot] at hps
    rw [h2 c ps hc hps, length_profile_of_rolls h]

theorem recordAt_isSome_of_mem (hr : r ∈ s.records) : (s.recordAt r.slot).isSome = true :=
  List.find?_isSome.mpr ⟨r, hr, beq_self_eq_true _⟩

theorem slot_mem_of_rolls (h : t.records.map Record.roll = s.records.map Record.roll) (hr : r ∈ t.records) :
    ∃ x ∈ s.records, x.slot = r.slot := by
  have hmem : r.roll ∈ s.records.map Record.roll := h ▸ List.mem_map_of_mem hr
  obtain ⟨x, hx, hroll⟩ := List.mem_map.mp hmem
  exact ⟨x, hx, congrArg Prod.fst hroll⟩

theorem Keeps.tableSound (h : Keeps s t) (hs : s.TableSound) : t.TableSound := tableSound_of_rolls h.rolls hs

theorem Keeps.countsInRange (h : Keeps s t) (hs : s.TableSound) (hc : s.CountsInRange) : t.CountsInRange := fun r hr => by
  obtain ⟨x, hx, hslot⟩ := slot_mem_of_rolls h.rolls hr
  obtain ⟨r', hr', hf⟩ := h.records r.slot x (hslot ▸ recordAt_of_mem hs hx)
  cases (recordAt_of_mem (h.tableSound hs) hr).symm.trans hr'
  rw [profileAt_of_profiles h.profiles]
  exact hf.counts (hc x hx)

theorem Keeps.grows (h : Keeps s t) : Grows s t where
  tags := h.tags
  profileAt := profileAt_of_profiles h.profiles
  records := h.records
  sound := h.tableSound
  pins := pinsCounted_of_rolls h.rolls h.profiles
  counts := h.countsInRange

theorem Keeps.recordAt_none (h : Keeps s t) (hn : s.recordAt n = none) : t.recordAt n = none := by
  cases ht : t.recordAt n with
  | none => rfl
  | some r =>
    obtain ⟨hr, rfl⟩ := State.recordAt_mem ht
    obtain ⟨x, hx, hslot⟩ := slot_mem_of_rolls h.rolls hr
    have hsome := recordAt_isSome_of_mem hx
    rw [hslot, hn] at hsome
    cases hsome

/-! ### A record created (R7, R41) -/

theorem profileSlot_createRecord_other {e : Nat} (he : e ≠ c) :
    (s.createRecord n c p d image).profileSlot e = s.profileSlot e := by
  have hprofiles : (s.createRecord n c p d image).profiles =
      updPlace s.profiles c (Option.map (fun ps => { ps with pins := ps.pins + 1 })) := by
    rw [createRecord_eq]
    exact positionBecomes_profiles ((s.admitted n c p d image).updRecord n _) p _
  unfold State.profileSlot
  rw [hprofiles, place_updPlace_other _ _ he]

theorem profileAt_createRecord : (s.createRecord n c p d image).profileAt = s.profileAt := by
  funext e
  unfold State.profileAt
  by_cases he : e = c
  · subst he
    rw [profileSlot_createRecord, Option.map_map]
    rfl
  · rw [profileSlot_createRecord_other he]

theorem inRange_newRecord (m : Nat → Option Profile) (a : Nat) : (newRecord n a c p d image).InRange m :=
  ⟨fun _ _ => Nat.zero_le _, Nat.zero_le _, Nat.zero_le _, Nat.zero_le _, Nat.zero_le _,
    fun _ => ⟨Nat.zero_le _, Nat.zero_le _, Nat.zero_le _⟩⟩

theorem grows_createRecord (hfree : s.recordAt n = none) (hn : within 64 n = true) (hserial : s.recordOf d.serial = none)
    (hc : within 16 c = true) (hloaded : (s.profileSlot c).isSome = true) :
    Grows s (s.createRecord n c p d image) := by
  have hrecords := records_createRecord (c := c) (p := p) (d := d) (image := image) hfree
  have hslots : ∀ r ∈ s.records, r.slot ≠ n := fun r hr he => by
    have := recordAt_isSome_of_mem hr
    rw [he, hfree] at this
    cases this
  have hserials : ∀ r ∈ s.records, r.serial ≠ d.serial := fun r hr he => by
    have := List.find?_eq_none.mp hserial r hr
    simp [he] at this
  refine ⟨createRecord_frame.2.1, profileAt_createRecord, fun m r hr => ⟨r, ?_, .refl _ r⟩, fun hs => ?_, fun hp => ?_,
    fun hs hcounts => ?_⟩
  · unfold State.recordAt at hr ⊢
    rw [hrecords, List.find?_append, hr]
    rfl
  · obtain ⟨h1, h2, h3⟩ := hs
    unfold State.TableSound
    rw [hrecords, List.map_append, List.map_append, List.nodup_append, List.nodup_append]
    refine ⟨⟨h1, List.nodup_singleton _, ?_⟩, ⟨h2, List.nodup_singleton _, ?_⟩, ?_⟩
    · rintro a ha b hb rfl
      obtain ⟨x, hx, hslot⟩ := List.mem_map.mp ha
      exact hslots x hx (hslot.trans (List.mem_singleton.mp hb))
    · rintro a ha b hb rfl
      obtain ⟨x, hx, hser⟩ := List.mem_map.mp ha
      exact hserials x hx (hser.trans (List.mem_singleton.mp hb))
    · rw [List.forall_mem_append, List.forall_mem_singleton]
      exact ⟨h3, hn⟩
  · obtain ⟨h1, h2⟩ := hp
    have hsome (e : Nat) (he : (s.profileSlot e).isSome = true) :
        ((s.createRecord n c p d image).profileSlot e).isSome = true := by
      by_cases hec : e = c
      · subst hec
        rw [profileSlot_createRecord, Option.isSome_map]
        exact he
      · rwa [profileSlot_createRecord_other hec]
    unfold State.PinsCounted
    rw [hrecords]
    refine ⟨?_, fun e ps he hps => ?_⟩
    · rw [List.forall_mem_append, List.forall_mem_singleton]
      exact ⟨fun r hr => ⟨(h1 r hr).1, hsome _ (h1 r hr).2⟩, hc, hsome c hloaded⟩
    · rw [List.filter_append, List.length_append]
      by_cases hec : e = c
      · subst hec
        rw [profileSlot_createRecord] at hps
        obtain ⟨x, hx, rfl⟩ := Option.map_eq_some_iff.mp hps
        have hown : ([newRecord n (s.admissions + 1) e p d image].filter (fun r => r.profile = e)).length = 1 := by
          rw [List.filter_cons_of_pos (by simp [newRecord])]
          rfl
        rw [hown, ← h2 e x he hx]
      · rw [profileSlot_createRecord_other hec] at hps
        have hnone : ([newRecord n (s.admissions + 1) c p d image].filter (fun r => r.profile = e)).length = 0 := by
          rw [List.filter_cons_of_neg (by simp [newRecord, Ne.symm hec])]
          rfl
        rw [hnone, ← h2 e ps he hps]
        rfl
  · rw [countsInRange_iff, profileAt_createRecord, hrecords, List.forall_mem_append, List.forall_mem_singleton]
    exact ⟨hcounts, inRange_newRecord _ _⟩

/-- R7: a matching profile is a loaded one. -/
theorem loaded_of_matching (h : s.matchingCode d image = some c) :
    within 16 c = true ∧ (s.profileSlot c).isSome = true := by
  obtain ⟨pf, hcode, hpf, -⟩ := matchingCode_eq_some.mp h
  obtain ⟨hc, -⟩ := codeOfType_eq_some.mp hcode
  obtain ⟨ps, hps, -⟩ := Option.map_eq_some_iff.mp hpf
  exact ⟨hc, by rw [hps]; rfl⟩

/-- R7, R61: a creation claim makes a record in the free slot, or none. -/
theorem takeCreation_grows {slot : Option Nat} (hfree : ∀ n, slot = some n → s.recordAt n = none ∧ within 64 n = true) :
    Keeps s (s.takeCreation slot p d image).state ∧ (s.takeCreation slot p d image).created = false ∨
      Grows s (s.takeCreation slot p d image).state ∧ (s.takeCreation slot p d image).created = true := by
  cases hm : s.matchingCode d image with
  | none =>
    rw [takeCreation_unmatched hm]
    exact .inl ⟨.same (table_enterIdentifying s p), rfl⟩
  | some c =>
    cases hr : s.recordOf d.serial with
    | some r =>
      by_cases hp : r.position = none
      · rw [takeCreation_orphaned hm hr hp]
        exact .inl ⟨keeps_takeRebind s p _, rfl⟩
      · rw [takeCreation_bound hm hr hp]
        exact .inl ⟨.same (table_toConflict s p), rfl⟩
    | none =>
      by_cases ha : s.admissions < 4294967295
      · cases slot with
        | none =>
          rw [takeCreation_waits hm hr (.inl rfl)]
          exact .inl ⟨.same (table_toWaiting s p), rfl⟩
        | some n =>
          obtain ⟨hnone, hn⟩ := hfree n rfl
          obtain ⟨hc, hloaded⟩ := loaded_of_matching hm
          rw [takeCreation_created hm hr ha]
          exact .inr ⟨grows_createRecord hnone hn hr hc hloaded, rfl⟩
      · rw [takeCreation_waits hm hr (.inr (Nat.le_of_not_lt ha))]
        exact .inl ⟨.same (table_toWaiting s p), rfl⟩

theorem grows_creation (s : State) (p : Nat) (d : Identity) (image : Unpacked) :
    Grows s (s.takeCreation s.freeSlots.head? p d image).state := by
  have hfree (n : Nat) (hn : s.freeSlots.head? = some n) : s.recordAt n = none ∧ within 64 n = true := by
    obtain ⟨hnone, hw, -⟩ := head_freeSlots.mp hn
    exact ⟨hnone, hw⟩
  rcases takeCreation_grows (p := p) (d := d) (image := image) hfree with ⟨hk, -⟩ | ⟨hg, -⟩
  · exact hk.grows
  · exact hg

theorem grows_handSlot (hn : within 64 n = true) (ps : List Nat) (s : State) (hfree : s.recordAt n = none) :
    Grows s (handSlot n ps s) := by
  induction ps generalizing s with
  | nil => exact (Keeps.refl s).grows
  | cons p ps ih =>
    unfold handSlot
    split
    next d _ _ =>
      split
      · exact ih s hfree
      next image _ =>
        rcases takeCreation_grows (s := s) (slot := some n) (p := p) (d := d) (image := image)
          fun m hm => by cases hm; exact ⟨hfree, hn⟩ with ⟨hk, hc⟩ | ⟨hg, hc⟩
        · simp only [hc, Bool.false_eq_true, if_false]
          exact hk.grows.trans (ih _ (hk.recordAt_none hfree))
        · simp only [hc, if_true]
          exact hg
    · exact ih s hfree

theorem grows_handFreed (hn : within 64 n = true) (hfree : s.recordAt n = none) : Grows s (s.handFreed n) := by
  unfold State.handFreed
  split
  · exact grows_handSlot hn _ s hfree
  · exact (Keeps.refl s).grows

/-! ### A record retired (R2, R27, R41) -/

theorem recordAt_retired_same : (s.retired r).recordAt r.slot = none := by
  have hrecords : (s.retired r).records = s.records.filter (fun x => decide (x.slot ≠ r.slot)) := by rw [retired_frame]
  unfold State.recordAt
  rw [hrecords, List.find?_filter, List.find?_eq_none]
  simp

theorem recordAt_retired_other (hn : n ≠ r.slot) : (s.retired r).recordAt n = s.recordAt n := by
  have hrecords : (s.retired r).records = s.records.filter (fun x => decide (x.slot ≠ r.slot)) := by rw [retired_frame]
  have hpred : (fun x : Record => decide (decide (x.slot ≠ r.slot) = true ∧ (x.slot == n) = true)) =
      fun x => x.slot == n := by
    funext x
    by_cases hx : x.slot = n
    · simp [hx, hn]
    · simp [hx]
  unfold State.recordAt
  rw [hrecords, List.find?_filter, hpred]

/-- In a sound table one record leaves with its slot. -/
theorem length_profile_retired {l : List Record} (hl : (l.map (·.slot)).Nodup) (hr : r ∈ l) (c : Nat) :
    (l.filter (fun x => x.profile = c)).length =
      ((l.filter (fun x => decide (x.slot ≠ r.slot))).filter (fun x => x.profile = c)).length +
        if r.profile = c then 1 else 0 := by
  obtain ⟨l1, l2, rfl⟩ := List.append_of_mem hr
  rw [List.map_append, List.map_cons, List.nodup_append] at hl
  obtain ⟨-, h2, h3⟩ := hl
  have hkeep1 : l1.filter (fun x => decide (x.slot ≠ r.slot)) = l1 := List.filter_eq_self.mpr fun x hx =>
    decide_eq_true (h3 x.slot (List.mem_map_of_mem hx) r.slot (List.mem_cons_self ..))
  have hkeep2 : l2.filter (fun x => decide (x.slot ≠ r.slot)) = l2 := List.filter_eq_self.mpr fun x hx =>
    decide_eq_true fun he => (List.nodup_cons.mp h2).1 (he ▸ List.mem_map_of_mem hx)
  have hrest : (l1 ++ r :: l2).filter (fun x => decide (x.slot ≠ r.slot)) = l1 ++ l2 := by
    rw [List.filter_append, List.filter_cons_of_neg (by simp), hkeep1, hkeep2]
  rw [hrest, List.filter_append, List.filter_append, List.length_append, List.length_append]
  by_cases hp : r.profile = c
  · rw [List.filter_cons_of_pos (by simpa using hp), if_pos hp, List.length_cons]
    omega
  · rw [List.filter_cons_of_neg (by simpa using hp), if_neg hp]
    omega

theorem pinsCounted_retired (hs : s.TableSound) (hr : r ∈ s.records) (hp : s.PinsCounted) : (s.retired r).PinsCounted := by
  have hrecords : (s.retired r).records = s.records.filter (fun x => decide (x.slot ≠ r.slot)) := by rw [retired_frame]
  obtain ⟨h1, h2⟩ := hp
  have hsome (c : Nat) (hc : (s.profileSlot c).isSome = true) : ((s.retired r).profileSlot c).isSome = true := by
    by_cases he : c = r.profile
    · rw [he, profileSlot_retired_same, Option.isSome_map, ← he]
      exact hc
    · rwa [profileSlot_retired_other he]
  unfold State.PinsCounted
  rw [hrecords]
  refine ⟨fun x hx => ?_, fun c ps hc hps => ?_⟩
  · obtain ⟨hw, hloaded⟩ := h1 x (List.mem_filter.mp hx).1
    exact ⟨hw, hsome _ hloaded⟩
  · have hlength := length_profile_retired hs.1 hr c
    by_cases he : c = r.profile
    · rw [he, profileSlot_retired_same, ← he] at hps
      obtain ⟨x, hx, rfl⟩ := Option.map_eq_some_iff.mp hps
      have hcount := h2 c x hc hx
      rw [if_pos he.symm] at hlength
      show x.pins - 1 = _
      omega
    · rw [profileSlot_retired_other he] at hps
      have hcount := h2 c ps hc hps
      rw [if_neg (Ne.symm he)] at hlength
      omega

theorem profileAt_retired : (s.retired r).profileAt = s.profileAt := by
  funext c
  unfold State.profileAt
  by_cases he : c = r.profile
  · rw [he, profileSlot_retired_same, Option.map_map]
    rfl
  · rw [profileSlot_retired_other he]

theorem countsInRange_retired (hc : s.CountsInRange) : (s.retired r).CountsInRange := by
  have hrecords : (s.retired r).records = s.records.filter (fun x => decide (x.slot ≠ r.slot)) := by rw [retired_frame]
  rw [countsInRange_iff, profileAt_retired, hrecords]
  exact fun x hx => hc x (List.mem_filter.mp hx).1

/-! ### A profile under no record installed or dropped (R43, R46, R49) -/

/-- A change of what stands at one profile code, with no pins there after it. -/
structure Reprofiled (code : Nat) (s t : State) : Prop where
  records : t.records = s.records
  tags : t.tags = s.tags
  other : ∀ c, c ≠ code → t.profileSlot c = s.profileSlot c
  own : ∀ ps, t.profileSlot code = some ps → ps.pins = 0

section
variable {code : Nat} (hre : Reprofiled code s t)
include hre

theorem Reprofiled.pinsCounted (hfree : ∀ r ∈ s.records, r.profile ≠ code) (hp : s.PinsCounted) : t.PinsCounted := by
  obtain ⟨h1, h2⟩ := hp
  unfold State.PinsCounted
  rw [hre.records]
  refine ⟨fun r hr => ?_, fun c ps hc hps => ?_⟩
  · rw [hre.other _ (hfree r hr)]
    exact h1 r hr
  · by_cases he : c = code
    · subst he
      rw [hre.own ps hps, List.filter_eq_nil_iff.mpr fun r hr => by simpa using hfree r hr]
      rfl
    · exact h2 c ps hc ((hre.other c he) ▸ hps)

theorem Reprofiled.countsInRange (hfree : ∀ r ∈ s.records, r.profile ≠ code) (hc : s.CountsInRange) :
    t.CountsInRange := by
  rw [countsInRange_iff, hre.records]
  intro r hr
  obtain ⟨h1, hrest⟩ := hc r hr
  refine ⟨fun pf hpf => h1 pf ?_, hrest⟩
  rw [← hpf]
  simp only [State.profileAt, hre.other _ (hfree r hr)]

end

/-- R41: a code with no pins is held by no record. -/
theorem PinsCounted.unheld {code : Nat} (hp : s.PinsCounted) (h0 : ∀ ps, s.profileSlot code = some ps → ps.pins = 0) :
    ∀ r ∈ s.records, r.profile ≠ code := by
  rintro r hr rfl
  obtain ⟨h1, h2⟩ := hp
  obtain ⟨hw, hsome⟩ := h1 r hr
  obtain ⟨ps, hps⟩ := Option.isSome_iff_exists.mp hsome
  have hcount := h2 r.profile ps hw hps
  rw [h0 ps hps] at hcount
  have hnil := List.eq_nil_of_length_eq_zero hcount.symm
  rw [List.filter_eq_nil_iff] at hnil
  exact hnil r hr (by simp)

theorem eq_of_place_setPlace {α : Type} {l : List α} {n : Nat} {a b : α} (h : place (setPlace l n a) n = some b) : b = a := by
  cases n with
  | zero => cases h
  | succ n =>
    have hl : (l.set n a)[n]? = some b := h
    rw [List.getElem?_set_self'] at hl
    cases hx : l[n]? with
    | none =>
      rw [hx] at hl
      cases hl
    | some x =>
      rw [hx] at hl
      cases hl
      rfl

theorem reprofiled_setPlace {code : Nat} {v : Option ProfileSlot} (hrecords : t.records = s.records)
    (htags : t.tags = s.tags) (hprofiles : t.profiles = setPlace s.profiles code v) (hv : ∀ ps, v = some ps → ps.pins = 0) :
    Reprofiled code s t := by
  refine ⟨hrecords, htags, fun c hc => ?_, fun ps hps => ?_⟩
  · simp only [State.profileSlot, hprofiles, place_setPlace_other _ _ hc]
  · simp only [State.profileSlot, hprofiles] at hps
    cases hplace : place (setPlace s.profiles code v) code with
    | none => rw [hplace] at hps; cases hps
    | some w =>
      rw [hplace, eq_of_place_setPlace hplace] at hps
      exact hv ps hps

theorem Reprofiled.trans {code : Nat} (h : Reprofiled code s t) (h' : Reprofiled code t u) : Reprofiled code s u where
  records := h'.records.trans h.records
  tags := h'.tags.trans h.tags
  other c hc := (h'.other c hc).trans (h.other c hc)
  own := h'.own

theorem reprofiled_loadStored (s : State) (n : Nat) : Reprofiled n s (s.loadStored n) := by
  have hcleared : Reprofiled n s { s with profiles := setPlace s.profiles n none } :=
    reprofiled_setPlace rfl rfl rfl fun ps hps => by cases hps
  unfold State.loadStored
  dsimp only
  split
  · exact hcleared
  · exact hcleared.trans (reprofiled_setPlace rfl rfl rfl fun ps hps => by cases hps; rfl)
  · exact ⟨rfl, rfl, hcleared.other, hcleared.own⟩

theorem Reprofiled.then {code : Nat} (h : Reprofiled code s t) (h' : u.table = t.table) : Reprofiled code s u := by
  have hslot (c : Nat) : u.profileSlot c = t.profileSlot c := by
    simp only [State.profileSlot, profiles_of_table h']
  exact ⟨(records_of_table h').trans h.records, (tags_of_table h').trans h.tags,
    fun c hc => (hslot c).trans (h.other c hc), fun ps hps => h.own ps ((hslot code) ▸ hps)⟩

end Sys2Proof.Machine
end

section
/-! Proof of O9: a SEALED record changes its position field alone (R19). What every command makes of the table. -/

namespace Sys2Proof.Machine

variable {s t u : State} {n p : Nat} {r r' : Record} {h : Handle}

/-! ### What a command can make of the table -/

/-- What a command makes of the table: each record follows from what it was, or a profile under no record is installed
or dropped, or one record leaves. -/
inductive TableChange (s t : State) : Prop
  | grows (h : Grows s t)
  | reprofiled (code : Nat) (h : Reprofiled code s t)
      (h0 : (∀ ps, s.profileSlot code = some ps → ps.pins = 0) ∨ s.store.activity = .loading)
  | retires (r : Record) (hr : r ∈ s.records) (h : Grows (s.retired r) t)

theorem Keeps.change (h : Keeps s t) : TableChange s t := .grows h.grows

theorem TableChange.same (h : t.table = s.table) : TableChange s t := (Keeps.same h).change

theorem table_startPoint (s : State) (k : Nat) (pt : Point) : (s.startPoint k pt).table = s.table := by
  unfold State.startPoint
  dsimp only
  rw [table_compareWatchdog]
  rfl

theorem keeps_abortPoint (s : State) (k : Nat) : Keeps s (s.abortPoint k) := by
  unfold State.abortPoint
  exact (keeps_takeSentClaims s).then ((table_closeSequencer _ k _).trans (table_idleComparators _))

theorem request_tableChange (hs : s.TableSound) (hr : RequestEffect s u) : TableChange s u := by
  cases hr with
  | nothing | port | saveProfiles => exact .same rfl
  | setBench as => exact .same (table_benchSet as s)
  | loadProfile code pf _ _ hp =>
    rw [installProfile_eq]
    have hsame : (((s.withProfile code pf).announce pf.typeCode).settle).table = (s.withProfile code pf).table :=
      (table_settle _).trans (table_of_samePlant (samePlant_announce pf.typeCode _))
    have hinstalled : Reprofiled code s (s.withProfile code pf) :=
      reprofiled_setPlace rfl rfl rfl fun ps hps => by cases hps; rfl
    exact .reprofiled code (hinstalled.then hsame) (.inl hp)
  | dropProfile code ps _ _ hp h0 =>
    refine .reprofiled code (reprofiled_setPlace rfl rfl rfl fun ps hps => by cases hps) (.inl fun ps' hps' => ?_)
    cases hp.symm.trans hps'
    exact h0
  | editPlan k pt =>
    have hplan : ({ s with plan := setPlace s.plan k pt } : State).table = s.table := rfl
    exact ((keeps_resetClaim _ k).after hplan).settled.change
  | startPoint k pt => exact .same (table_startPoint s k pt)
  | endPoint k => exact (keeps_endPoint s k _ _).settled.change
  | abortPoint k => exact (keeps_abortPoint s k).settled.change
  | amendTrim h r t v hh hst => exact (keeps_amendTrim t v (State.resolve_ok hh).2.1 hst).change
  | reject h r c hh hst =>
    refine (keeps_reject c fun x hx => ?_).change
    cases (State.resolve_ok hh).2.1.symm.trans hx
    rcases hst with hst | hst | hst | hst <;> simp [hst]
  | retire h r hh =>
    obtain ⟨hmem, -⟩ := State.recordAt_mem (State.resolve_ok hh).2.1
    rw [retire_eq]
    exact .retires r hmem
      ((grows_handFreed (hs.2.2 r hmem) recordAt_retired_same).trans (Keeps.same (table_settle _)).grows)
  | clearFlags h r hh hst => exact (keeps_clearFlags (State.resolve_ok hh).2.1 hst).change
  | enterSealing h r hh hst =>
    exact (keeps_enterSealing (openAt_of_recordAt (State.resolve_ok hh).2.1 (by simp [hst]))).settled.change
  | sealAll => exact (keeps_sealAll hs).settled.change
  | retryPosition p => exact (Keeps.same (table_enterIdentifying s p)).settled.change
  | setSealRange a b low => exact .same (table_raiseIf _ _ _)

/-! ### What a command keeps of the table -/

/-- A change that keeps the table sound (R1, R5, R6), its pins counted (R41), its counts in their ranges (R13) and its
SEALED records frozen (R19). -/
structure Orderly (s t : State) : Prop where
  sound : s.TableSound → t.TableSound
  pins : s.TableSound → (s.store.activity = .loading → s.records = []) → s.PinsCounted → t.PinsCounted
  counts : s.TableSound → (s.store.activity = .loading → s.records = []) → s.PinsCounted → s.CountsInRange →
    t.CountsInRange
  frozen : s.Shaped → s.TableSound → ∀ n r r', s.recordAt n = some r → r.state = .sealed → t.recordAt n = some r' →
    t.tag n = s.tag n → r' = { r with position := r'.position }

theorem Grows.frozen (h : Grows s t) (hr : s.recordAt n = some r) (hst : r.state = .sealed)
    (hr' : t.recordAt n = some r') : r' = { r with position := r'.position } := by
  obtain ⟨x, hx, hf⟩ := h.records n r hr
  cases hx.symm.trans hr'
  exact hf.frozen hst

theorem tableSound_of_records (h : t.records = s.records) (hs : s.TableSound) : t.TableSound :=
  tableSound_of_rolls (congrArg (List.map Record.roll) h) hs

theorem TableChange.orderly (h : TableChange s t) : Orderly s t := by
  cases h with
  | grows h => exact ⟨h.sound, fun _ _ => h.pins, fun hs _ _ => h.counts hs, fun _ _ n r r' hr hst hr' _ => h.frozen hr hst hr'⟩
  | reprofiled code h h0 =>
    have hfree (hload : s.store.activity = .loading → s.records = []) (hp : s.PinsCounted) :
        ∀ r ∈ s.records, r.profile ≠ code := by
      rcases h0 with h0 | h0
      · exact PinsCounted.unheld hp h0
      · rw [hload h0]
        exact fun r hr => by cases hr
    refine ⟨tableSound_of_records h.records, fun _ hload hp => h.pinsCounted (hfree hload hp) hp,
      fun _ hload hp hc => h.countsInRange (hfree hload hp) hc, fun _ _ n r r' hr hst hr' _ => ?_⟩
    rw [State.recordAt_congr h.records, hr] at hr'
    cases hr'
    rfl
  | retires r hr h =>
    refine ⟨fun hs => h.sound (tableSound_retired r hs), fun hs _ hp => h.pins (pinsCounted_retired hs hr hp),
      fun hs _ _ hc => h.counts (tableSound_retired r hs) (countsInRange_retired hc), fun hsh hs n x x' hx hst hx' htag => ?_⟩
    by_cases hn : n = r.slot
    · subst hn
      have hmoved : t.tag r.slot = s.tag r.slot + 1#8 := by
        have htags := h.tags
        have hkept : t.tag r.slot = (s.retired r).tag r.slot := by simp only [State.tag, htags]
        exact hkept.trans (tag_retired_same hsh (hs.2.2 r hr))
      rw [hmoved] at htag
      exact absurd htag (by generalize s.tag r.slot = b; bv_omega)
    · exact h.frozen ((recordAt_retired_other hn).trans hx) hst hx'

/-- The message of a request leaves its queue and its answer joins another. -/
theorem Orderly.served {rest : List Message} {a : Answer} (h : Orderly (s.dequeued rest) u) :
    Orderly s (u.putAnswer a) := ⟨h.sound, h.pins, h.counts, h.frozen⟩

theorem loadSlot_tableChange (s : State) : TableChange s s.loadSlot := by
  cases hl : s.store.activity with
  | loading =>
    refine .reprofiled s.store.slot ?_ (.inr hl)
    have hstored := reprofiled_loadStored s s.store.slot
    by_cases hn : s.store.slot < 16
    · rw [loadSlot_next hl hn]
      exact hstored.then rfl
    · rw [loadSlot_last hl hn]
      exact (hstored.then rfl).then (table_sampleAll _)
  | idle | saving =>
    have hkept : s.loadSlot = s := by
      unfold State.loadSlot
      rw [hl]
    rw [hkept]
    exact .same rfl

theorem keeps_sendDone (s : State) (l : Nat) : Keeps s (s.sendDone l) := by
  unfold State.sendDone
  (repeat' split) <;> exact .same rfl

theorem keeps_finishingTaken (s : State) : Keeps s (s.finishingTaken ()) := by
  unfold State.finishingTaken
  split
  · exact .refl s
  next k _ =>
    split
    · exact .refl s
    next m _ =>
      have hcounted : ({ s with seq := { s.seq with armedRemaining := m } } : State).table = s.table := rfl
      have hended := keeps_endPoint { s with seq := { s.seq with armedRemaining := m } } k .complete closingResult
      dsimp only
      split
      · exact (hended.after hcounted).settled
      · exact .same hcounted

/-- What a command other than POWER_ON makes of the table. -/
theorem effect_orderly {i : Instr} (hs : s.TableSound) (he : Effect s i t) (hi : i ≠ .powerOn) : Orderly s t := by
  have same {v : State} (h : v.table = s.table) : Orderly s v := (TableChange.same h).orderly
  have keep {v : State} (h : Keeps s v) : Orderly s v := h.change.orderly
  cases he with
  | powerOn => exact absurd rfl hi
  | nothing | pollAttention | malformed | refEdge => exact same rfl
  | warmRestart => exact keep (keeps_warmRestart s _)
  | loadSlot => exact (loadSlot_tableChange s).orderly
  | saveSlot =>
    unfold State.saveSlot
    dsimp only
    (repeat' split) <;> exact same rfl
  | busReset =>
    unfold State.busReset
    dsimp only
    split
    · exact keep ((keeps_warmRestart _ _).after rfl)
    · exact same rfl
  | acceptMessage =>
    unfold State.acceptMessage
    split <;> exact same rfl
  | deliverAnswer =>
    unfold State.deliverAnswer
    split
    · exact same rfl
    · dsimp only
      split
      · exact keep ((keeps_warmRestart _ _).after rfl)
      · exact same rfl
  | request k tag args rest u c body ho hu =>
    exact Orderly.served (rest := rest) (request_tableChange (s := s.dequeued rest) hs hu).orderly
  | presence p high =>
    unfold State.presence
    dsimp only
    split
    · exact same (table_sample _ p)
    · exact same rfl
  | debounced p => exact keep (keeps_debounced s p)
  | sendDone l => exact keep (keeps_sendDone s l)
  | receive l bs => exact keep (keeps_receive s l bs)
  | replyTimeout l => exact keep (keeps_replyTimeout s l)
  | creation p d im =>
    have hgrows := (grows_creation (s.claimTaken (ofPosition p)) p d im).trans (Keeps.same (table_settle _)).grows
    exact (TableChange.grows ((Keeps.same (table_claimTaken s _)).grows.trans hgrows)).orderly
  | rebind p h => exact keep ((keeps_takeRebind _ p h).after (table_claimTaken s _)).settled
  | result p h k res => exact keep ((keeps_takeResult _ h k res).after (table_claimTaken s _)).settled
  | orphan p h ph => exact keep ((keeps_takeOrphan _ p h ph).after (table_claimTaken s _))
  | flag p h f => exact keep ((keeps_takeFlag _ h f).after (table_claimTaken s _))
  | writeStart p h => exact keep ((keeps_writeStartTaken _ p h).after (table_claimTaken s _))
  | sealStart p h => exact keep ((keeps_sealStartTaken _ p h).after (table_claimTaken s _))
  | commitMatch p h =>
    refine keep ((keeps_onWriting fun r hr hst => ?_).after (table_claimTaken s _))
    exact keeps_confirmWrite r (openAt_of_recordAt hr (by simp [hst]))
  | stageFailed p h => exact keep ((keeps_onWriting fun r hr hst => keeps_failStage hr hst).after (table_claimTaken s _))
  | commitFail p h c =>
    refine keep ((keeps_onWriting fun r hr hst => ?_).after (table_claimTaken s _))
    exact keeps_reject c fun x hx => by cases hr.symm.trans hx; simp [hst]
  | locked p h a b =>
    refine keep ((keeps_onLock fun r hr hst _ => ?_).after (table_claimTaken s _))
    split
    · exact keeps_sealRecord _ (openAt_of_recordAt hr (by simp [hst]))
    · exact keeps_spoilReject _ hr hst
  | refused p h =>
    exact keep ((keeps_onLock fun r hr hst _ => keeps_spoilReject _ hr hst).after (table_claimTaken s _))
  | noReply p h =>
    exact keep ((keeps_onLock fun r hr hst hnum => keeps_spoilAttempt hr hst hnum).after (table_claimTaken s _))
  | watchdogTimeout =>
    unfold State.watchdogTimeout
    split
    · exact same (table_compareWatchdog _)
    · exact same rfl
  | refLoss =>
    unfold State.lossTaken
    split
    · exact same rfl
    next k _ =>
      have hended := keeps_endPoint (s.claimTaken isRefLoss) k .refLost lossResult
      exact keep ((hended.then (table_raise _ .refLost)).after (table_claimTaken s _)).settled
  | timerExpired =>
    unfold State.timerExpired
    split
    · exact keep (keeps_endPoint s _ _ _).settled
    · exact same rfl
  | finishing p => exact keep ((keeps_finishingTaken _).after (table_claimTaken s _))
  | meterActive p tr time => exact same rfl
  | meterOpposite p tr time => exact same rfl
  | glitchTestEnd p => exact same rfl

theorem table_tick (s : State) : s.tick.table = s.table := table_compareWatchdog _

/-- Settles O9: by what every command makes of the records. -/
theorem sealedRecordsAreFrozen : Obligations.SealedRecordsAreFrozen := by
  intro s t n r r' hsh hs hr hst hstep hr' htag hpower
  obtain ⟨-, rfl⟩ | ⟨i, rest, hpending, he⟩ := step_cases hstep
  · exact (TableChange.same (table_tick s)).orderly.frozen hsh hs n r r' hr hst hr' htag
  · have hi : i ≠ .powerOn := fun h => hpower (by rw [hpending, h]; rfl)
    exact (effect_orderly (s := { s with pending := rest }) hs he hi).frozen hsh hs n r r' hr hst hr' htag

end Sys2Proof.Machine
end

section
/-! SUPPORT. The part while the power-on load runs (R49, R71, R196, R209): nothing but the load itself comes about. -/

namespace Sys2Proof.Machine

variable {s t u : State} {n p q l : Nat} {r : Record} {h : Handle} {i : Instr}

/-! ### Only power-on begins a load (R49, R50) -/

/-- Two states with one profile store. -/
theorem store_of_same_still {v : State} (h : t.still = v) (hv : v.store = s.store) : t.store = s.store :=
  (store_of_still h).trans hv

theorem request_store (hu : RequestEffect s u) : u.store = s.store ∨ u.store.activity = .saving := by
  have same {v : State} (h : v.still = s.still) : v.store = s.store ∨ v.store.activity = .saving := .inl (still_store h)
  cases hu with
  | nothing | port | dropProfile => exact .inl rfl
  | saveProfiles => exact .inr rfl
  | setBench as =>
    obtain ⟨lost, hb⟩ := still_benchEffects (as.foldl (fun t a => t.assign a) s) s.port.bench
    rw [still_assigns] at hb
    exact .inl (store_of_same_still hb rfl)
  | loadProfile code pf => exact same (still_installProfile s code pf)
  | editPlan k pt => exact .inl (store_of_same_still (still_editPlan s k pt) rfl)
  | startPoint k pt => exact .inl (store_of_same_still (still_startPoint s k pt) rfl)
  | endPoint k => exact .inl (store_of_same_still ((still_settle _).trans (still_endPoint s k _ _)) rfl)
  | abortPoint k => exact .inl (store_of_same_still ((still_settle _).trans (still_abortPoint s k)) rfl)
  | retire h r => exact .inl (store_of_same_still (still_retire s r) rfl)
  | setSealRange a b low => exact .inl (store_of_same_still (still_raiseIf _ low _) rfl)
  | _ => exact same (by simp)

theorem activity_restarted {x : ProfileStore} (h : x.restarted.activity = .loading) : x.activity = .loading := by
  unfold ProfileStore.restarted at h
  split at h
  · cases h
  · assumption
  · assumption

theorem store_warmRestart (s : State) (cause : WarmCause) : (s.warmRestart cause).store = s.store.restarted := by
  rw [warmRestart_frame]

theorem loading_effect (he : Effect s i t) (hi : i ≠ .powerOn) (hl : t.store.activity = .loading) :
    s.store.activity = .loading := by
  have restarted {v : State} {cause : WarmCause} (hv : v.store = s.store)
      (h : (v.warmRestart cause).store.activity = .loading) : s.store.activity = .loading := by
    rw [store_warmRestart, hv] at h
    exact activity_restarted h
  have same {v w : State} (h : v.still = w) (hw : w.store = s.store) (hl : v.store.activity = .loading) :
      s.store.activity = .loading := store_of_same_still h hw ▸ hl
  cases he with
  | powerOn => exact absurd rfl hi
  | nothing | pollAttention | malformed | refEdge => exact hl
  | warmRestart => exact restarted rfl hl
  | loadSlot =>
    cases hs : s.store.activity with
    | loading => rfl
    | idle | saving =>
      have hkept : s.loadSlot = s := by
        unfold State.loadSlot
        rw [hs]
      rwa [hkept, hs] at hl
  | saveSlot =>
    unfold State.saveSlot at hl
    dsimp only at hl
    split at hl
    · split at hl
      next hst _ => exact absurd (hst.symm.trans hl) (by simp)
      · cases hl
    · exact hl
    · assumption
  | busReset =>
    unfold State.busReset at hl
    dsimp only at hl
    split at hl
    · exact restarted (v := { s with port := s.port.busReset }) rfl hl
    · exact hl
  | acceptMessage =>
    unfold State.acceptMessage at hl
    split at hl <;> exact hl
  | deliverAnswer =>
    unfold State.deliverAnswer at hl
    split at hl
    · exact hl
    · dsimp only at hl
      split at hl
      · rw [store_warmRestart] at hl
        exact activity_restarted hl
      · exact hl
  | request k tag args rest u c body ho hu =>
    have hl : u.store.activity = .loading := hl
    rcases request_store hu with h | h
    · rw [h] at hl
      exact hl
    · rw [h] at hl
      cases hl
  | watchdogTimeout =>
    unfold State.watchdogTimeout at hl
    split at hl
    · exact same (still_compareWatchdog { s with ref := s.ref.advanced }) rfl hl
    · exact hl
  | sealStart p h =>
    obtain h | ⟨-, h⟩ := still_sealStartTaken (s.claimTaken (ofLaneWork p)) p h
    · exact same h rfl hl
    · exact same h rfl hl
  | refLoss =>
    obtain ⟨h, -⟩ | ⟨k, h⟩ := still_lossTaken (s.claimTaken isRefLoss)
    · exact same h rfl hl
    · exact same h rfl hl
  | timerExpired =>
    obtain h | ⟨k, h⟩ := still_timerExpired s
    · exact same h rfl hl
    · exact same h rfl hl
  | finishing p =>
    obtain h | ⟨k, m, hr, h⟩ | ⟨k, h⟩ := still_finishingTaken (s.claimTaken (isFinishing p))
    · exact same h rfl hl
    · exact same h rfl hl
    · exact same h rfl hl
  | _ => exact same (w := s.still) (by simp) rfl hl

/-! ### The part at rest while the load runs -/

/-- What `LoadingQuiet` says of a part that loads. -/
structure State.AtRest (s : State) : Prop where
  requests : s.port.requests = []
  running : s.seq.running = none
  records : s.records = []
  inFlight : s.inFlight = []
  positions : ∀ p, isPosition p = true → s.position p = Position.powerOn (s.position p).pin
  lanes : ∀ l, isLane l = true → (s.lane l).state = .idle

theorem loadingQuiet_iff : s.LoadingQuiet ↔ (s.store.activity = .loading → s.AtRest) := by
  unfold State.LoadingQuiet
  refine imp_congr_right fun _ => ⟨fun ⟨h1, h2, h3, h4, h5, h6⟩ => ⟨h1, h2, h3, h4, h5, h6⟩,
    fun ⟨h1, h2, h3, h4, h5, h6⟩ => ⟨h1, h2, h3, h4, h5, h6⟩⟩

section
variable (hs : s.AtRest)
include hs

theorem State.AtRest.item (hp : isPosition p = true) : (s.position p).item = none := by
  rw [hs.positions p hp]
  rfl

theorem State.AtRest.cmp (hp : isPosition p = true) : (s.position p).cmp = Comparator.idle := by
  rw [hs.positions p hp]
  rfl

/-- No lane has a turn to grant. -/
theorem State.AtRest.arbitrate (hl : isLane l = true) : s.arbitrate l = s := by
  unfold State.arbitrate
  rw [hs.lanes l hl]
  have hnone : (searchOrder l (s.lane l).pointer).find? s.requesting = none := List.find?_eq_none.mpr fun p hp => by
    obtain ⟨hpos, -⟩ := own_of_mem_searchOrder hl hp
    simp [State.requesting, hs.item hpos]
  dsimp only
  rw [hnone]

theorem State.AtRest.settle : s.settle = s := by
  unfold State.settle
  rw [hs.arbitrate (l := 1) rfl, hs.arbitrate (l := 2) rfl, hs.arbitrate (l := 3) rfl,
    hs.arbitrate (l := 4) rfl, hs.arbitrate (l := 5) rfl, hs.arbitrate (l := 6) rfl]

theorem State.AtRest.no_claim {stream : Claim → Bool} {c : Claim} : ¬ s.Claims stream c := fun hc => by
  unfold State.Claims at hc
  rw [hs.inFlight] at hc
  cases hc

theorem State.AtRest.not_offers {k : RequestKind} {tag : BitVec 16} {args : List Byte} {rest : List Message} :
    ¬ s.Offers k tag args rest := fun ⟨m, hm, _⟩ => by
  rw [hs.requests] at hm
  cases hm

theorem State.AtRest.idle_state (hl : isLane l = true) {q : Nat} :
    (s.lane l).state ≠ .granted q ∧ (s.lane l).state ≠ .awaitReply q := by
  rw [hs.lanes l hl]
  simp

end

/-- A change of one position leaves the others, and that one where there is none such. -/
theorem position_updPosition_cases (s : State) (p q : Nat) (f : Position → Position) :
    (s.updPosition p f).position q = s.position q ∨ q = p ∧ (s.updPosition p f).position q = f (s.position q) := by
  by_cases hq : q = p
  · subst hq
    show (place (updPlace s.positions q f) q).getD _ = _ ∨ q = q ∧ (place (updPlace s.positions q f) q).getD _ = _
    rw [place_updPlace_same, State.position]
    cases place s.positions q with
    | none => exact .inl rfl
    | some x => exact .inr ⟨rfl, rfl⟩
  · exact .inl (State.position_updPosition_other s f hq)

/-- Positions as power-on left them, changed to ones that power-on might have left. -/
theorem State.AtRest.updPosition {f : Position → Position} (hs : s.AtRest)
    (hf : ∀ pin, f (Position.powerOn pin) = Position.powerOn (f (Position.powerOn pin)).pin) : (s.updPosition p f).AtRest where
  requests := hs.requests
  running := hs.running
  records := hs.records
  inFlight := hs.inFlight
  positions q hq := by
    rcases position_updPosition_cases s p q f with h | ⟨-, h⟩
    · rw [h]
      exact hs.positions q hq
    · rw [h, hs.positions q hq]
      exact hf _
  lanes := hs.lanes

/-- A change of the port alone. -/
theorem State.AtRest.port (hs : s.AtRest) {x : Port} (hx : x.requests = []) : ({ s with port := x } : State).AtRest :=
  ⟨hx, hs.running, hs.records, hs.inFlight, hs.positions, hs.lanes⟩

/-! ### A warm restart while the load runs (R72, R175, R212) -/

theorem restarted_powerOn (time : Nat) (pin : Bool) : (Position.powerOn pin).restarted time = Position.powerOn pin := rfl

theorem State.AtRest.moveTo_empty (hs : s.AtRest) : (s.moveTo p .empty).AtRest := by
  unfold State.moveTo State.raiseIf
  have hmoved : (s.updPosition p fun x => { x with state := .empty }).AtRest := hs.updPosition fun _ => rfl
  split
  · exact hmoved.port hs.requests
  · exact hmoved

theorem State.AtRest.restartPosition (hs : s.AtRest) (hp : isPosition p = true) : (s.restartPosition p).AtRest := by
  have hraw : (s.position p).raw = false := by
    rw [hs.positions p hp]
    rfl
  have hempty : restartedState (s.position p).state = .empty := by
    rw [hs.positions p hp]
    rfl
  have hupd : (s.updPosition p (Position.restarted s.port.bench.debounce)).AtRest := hs.updPosition fun _ => rfl
  unfold State.restartPosition
  dsimp only
  rw [hempty, if_neg (by simp [hraw])]
  exact hupd.moveTo_empty

theorem State.AtRest.restartTables (hs : s.AtRest) (cause : WarmCause) : (s.restartTables cause).AtRest := by
  have hrecords : s.restartRecords cause = { s with port := s.port.restarted cause } := by
    unfold State.restartRecords
    rw [hs.records]
    rfl
  unfold State.restartTables
  rw [hrecords]
  refine ⟨rfl, rfl, hs.records, ?_, hs.positions, fun l hl => ?_⟩
  · show s.inFlight.filter isOrphan = []
    rw [hs.inFlight]
    rfl
  · obtain ⟨k, rfl⟩ := Nat.exists_eq_add_of_le' (isLane_iff.mp hl).1
    simp only [State.lane, place, List.getElem?_mapIdx]
    cases s.lanes[k]? <;> rfl

theorem State.AtRest.warmRestart (hs : s.AtRest) (cause : WarmCause) : (s.warmRestart cause).AtRest := by
  have hall (ps : List Nat) (hps : ∀ p ∈ ps, isPosition p = true) {v : State} (hv : v.AtRest) :
      (ps.foldl (fun t p => t.restartPosition p) v).AtRest := by
    induction ps generalizing v with
    | nil => exact hv
    | cons p ps ih =>
      obtain ⟨hp, hrest⟩ := List.forall_mem_cons.mp hps
      exact ih hrest (hv.restartPosition hp)
  have hplant : (s.restartPlant cause).AtRest := hall (places 48) (fun p hp => mem_places_48.mp hp) (hs.restartTables cause)
  rw [warmRestart_eq, hplant.settle]
  exact hplant

/-! ### The commands while the load runs -/

theorem atRest_of_powerOn (s : State) : s.poweredOn.AtRest where
  requests := rfl
  running := rfl
  records := rfl
  inFlight := rfl
  positions p hp := by
    rw [position_poweredOn hp]
    rfl
  lanes l hl := by
    have hlane : s.poweredOn.lane l = State.reset.lane l := rfl
    rw [hlane, lane_reset hl]
    rfl

theorem State.AtRest.receive (hs : s.AtRest) (hl : isLane l = true) (bs : List Byte) : s.receive l bs = s := by
  unfold State.receive
  split
  next h _ => exact absurd h (hs.idle_state hl).2
  · rfl

theorem State.AtRest.replyTimeout (hs : s.AtRest) (hl : isLane l = true) : s.replyTimeout l = s := by
  unfold State.replyTimeout
  rw [hs.lanes l hl]

theorem State.AtRest.sendDone (hs : s.AtRest) (hl : isLane l = true) : s.sendDone l = s := by
  unfold State.sendDone
  rw [hs.lanes l hl]

theorem State.AtRest.debounced (hs : s.AtRest) (hp : isPosition p = true) : s.debounced p = s := by
  unfold State.debounced
  have hnone : (s.position p).debounce = none := by
    rw [hs.positions p hp]
    rfl
  dsimp only
  rw [hnone]

theorem State.AtRest.count {f : Comparator → Counted} (hs : s.AtRest) (hp : isPosition p = true)
    (hf : f Comparator.idle = ⟨Comparator.idle, []⟩) : (s.count p f).AtRest := by
  have hcmp := hs.cmp hp
  have hupd : (s.updCmp p fun _ => Comparator.idle).AtRest := hs.updPosition fun _ => rfl
  unfold State.count
  rw [hcmp, hf]
  refine ⟨hupd.requests, hupd.running, hupd.records, ?_, hupd.positions, hupd.lanes⟩
  show s.inFlight ++ [] = []
  rw [hs.inFlight]
  rfl

theorem State.AtRest.compareWatchdog (hs : s.AtRest) : s.compareWatchdog = s := by
  unfold State.compareWatchdog
  rw [if_neg (by simp [hs.running])]

theorem State.AtRest.tick (hs : s.AtRest) : s.tick.AtRest := by
  have hticked : s.ticked.AtRest := by
    refine ⟨hs.requests, hs.running, hs.records, hs.inFlight, fun p hp => ?_, fun l hl => ?_⟩
    · rw [position_ticked, hs.positions p hp]
      rfl
    · have hlane : (s.ticked.lane l).state = (s.lane l).state := by
        show ((place (s.lanes.map fun x => { x with timer := tickTimer x.timer }) l).getD (Lane.powerOn l)).state = _
        rw [place_map, State.lane]
        cases place s.lanes l <;> rfl
      rw [hlane]
      exact hs.lanes l hl
  rw [tick_eq, hticked.compareWatchdog]
  exact hticked

theorem State.AtRest.loadSlot (hs : s.AtRest) (hl : s.store.activity = .loading) (ht : s.loadSlot.store.activity = .loading) :
    s.loadSlot.AtRest := by
  by_cases hn : s.store.slot < 16
  · rw [loadSlot_next hl hn, loadStored_frame]
    exact ⟨hs.requests, hs.running, hs.records, hs.inFlight, hs.positions, hs.lanes⟩
  · rw [loadSlot_last hl hn, still_store (still_sampleAll _)] at ht
    cases ht

/-- R49, R71, R209: every command keeps the part at rest while the load runs. -/
theorem effect_atRest (he : Effect s i t) (hs : s.AtRest) (hload : s.store.activity = .loading)
    (ht : t.store.activity = .loading) : t.AtRest := by
  cases he with
  | nothing => exact hs
  | powerOn => exact atRest_of_powerOn s
  | warmRestart => exact hs.warmRestart _
  | loadSlot => exact hs.loadSlot hload ht
  | saveSlot =>
    unfold State.saveSlot
    rw [hload]
    exact hs
  | busReset =>
    have hbus : ({ s with port := s.port.busReset } : State).AtRest := hs.port rfl
    unfold State.busReset
    dsimp only
    split
    · exact hbus.warmRestart _
    · exact hbus
  | acceptMessage bs =>
    have hno : s.accepting = false := by simp [State.accepting, State.sampling, hload]
    unfold State.acceptMessage
    rw [hno]
    exact hs.port hs.requests
  | deliverAnswer =>
    unfold State.deliverAnswer
    split
    · exact hs.port hs.requests
    next a rest _ =>
      have hport : ({ s with port := { s.port with answers := rest, answerWire := .data a.wire } } : State).AtRest :=
        hs.port hs.requests
      dsimp only
      split
      · exact hport.warmRestart _
      · exact hport
  | pollAttention => exact hs.port hs.requests
  | malformed a rest hr =>
    rw [hs.requests] at hr
    simp at hr
  | request k tag args rest u c body ho => exact absurd ho hs.not_offers
  | presence p high =>
    have hno : (s.updPosition p fun x => { x with pin := high }).sampling = false := by
      show decide (s.store.activity ≠ .loading) = false
      simp [hload]
    unfold State.presence
    dsimp only
    rw [hno]
    exact hs.updPosition fun _ => rfl
  | debounced p hp =>
    rw [hs.debounced hp]
    exact hs
  | sendDone l hl =>
    rw [hs.sendDone hl]
    exact hs
  | receive l bs hl =>
    rw [hs.receive hl]
    exact hs
  | replyTimeout l hl =>
    rw [hs.replyTimeout hl]
    exact hs
  | creation p d im hp hc => exact absurd hc hs.no_claim
  | rebind p h hp hc => exact absurd hc hs.no_claim
  | orphan p h ph hp hc => exact absurd hc hs.no_claim
  | result p h k res hp hc => exact absurd hc hs.no_claim
  | flag p h f hp hc => exact absurd hc hs.no_claim
  | writeStart p h hp hc => exact absurd hc hs.no_claim
  | sealStart p h hp hc => exact absurd hc hs.no_claim
  | commitMatch p h hp hc => exact absurd hc hs.no_claim
  | stageFailed p h hp hc => exact absurd hc hs.no_claim
  | commitFail p h c hp hc =>
    rcases hc with ⟨hc, -⟩ | ⟨hc, -⟩
    · exact absurd hc hs.no_claim
    · exact absurd hc hs.no_claim
  | locked p h a b hp hc => exact absurd hc hs.no_claim
  | refused p h hp hc => exact absurd hc hs.no_claim
  | noReply p h hp hc => exact absurd hc hs.no_claim
  | refLoss hc => exact absurd hc hs.no_claim
  | finishing p hp hc => exact absurd hc hs.no_claim
  | refEdge => exact ⟨hs.requests, hs.running, hs.records, hs.inFlight, hs.positions, hs.lanes⟩
  | watchdogTimeout =>
    unfold State.watchdogTimeout
    rw [if_neg (by simp [hs.running])]
    exact hs
  | timerExpired =>
    unfold State.timerExpired
    rw [hs.running]
    exact hs
  | meterActive p tr time => exact hs.updPosition fun _ => rfl
  | meterOpposite p tr time hp => exact hs.count hp rfl
  | glitchTestEnd p hp => exact hs.count hp rfl

theorem step_of_powerOn {rest : List Instr} (hp : s.pending = .powerOn :: rest) (h : step s = .next t) :
    t = ({ s with pending := rest } : State).poweredOn := by
  have hexec : Host.Outcome.next ({ s with pending := rest } : State).poweredOn = .next t := (step_of_front hp).symm.trans h
  cases hexec
  rfl

/-- R49, R209: every step keeps the part at rest while the load runs. -/
theorem step_loadingQuiet (hs : s.LoadingQuiet) (h : step s = .next t) : t.LoadingQuiet := by
  rw [loadingQuiet_iff] at hs ⊢
  intro ht
  obtain ⟨-, rfl⟩ | ⟨i, rest, hpending, he⟩ := step_cases h
  · have hstore : s.tick.store = s.store := by
      rw [tick_eq]
      exact store_of_same_still (still_compareWatchdog _) rfl
    exact (hs (hstore ▸ ht)).tick
  · by_cases hi : i = .powerOn
    · rw [step_of_powerOn (hi ▸ hpending) h]
      exact atRest_of_powerOn _
    · have hload := loading_effect he hi ht
      obtain ⟨h1, h2, h3, h4, h5, h6⟩ := hs hload
      exact effect_atRest he ⟨h1, h2, h3, h4, h5, h6⟩ hload ht

end Sys2Proof.Machine
end

section
/-! SUPPORT. Bindings (R8): which records sit at which positions, and what a position's key and claims must be for its
binding to hold. -/

namespace Sys2Proof.Machine

variable {s t u : State} {n p q l : Nat} {r : Record} {h g : Handle} {k : PositionKey} {cs os : List Claim} {c : Claim}

/-! ### A position and its claims (R8, R53, R58, R66, R73) -/

/-- The claims of a position that hold no creation or rebind claim. -/
def OnlyOrphans (cs : List Claim) : Prop := cs.length ≤ 1 ∧ ∀ c ∈ cs, isOrphan c = true

/-- What the state, the binding, the item and the claims of one position owe each other. -/
structure PositionKey.Sound (k : PositionKey) (cs : List Claim) : Prop where
  holder : k.bound.isSome = true ↔ k.state = .bound ∨ k.held = true
  held : k.held = true → k.state = .identifying ∧ k.exchange ≠ some .image
  identifies : k.exchange.isSome = true → k.state = .identifying
  claims : ∃ orphans admissions, cs = orphans ++ admissions ∧ orphans.length ≤ 1 ∧ admissions.length ≤ 1 ∧
    (∀ c ∈ orphans, isOrphan c = true) ∧
    (∀ c ∈ admissions, isOrphan c = false ∧ k.state = .identifying ∧ k.held = false ∧ k.exchange = none) ∧
    (k.bound.isSome = true ∨ k.state = .waitingSlot → orphans = [] ∧ admissions = [])

section
variable (hk : k.Sound cs)
include hk

/-- R58, R66: only an IDENTIFYING position that is not exchanging frames has an admission claim on its way. -/
theorem PositionKey.Sound.onlyOrphans (h : k.state ≠ .identifying ∨ k.exchange ≠ none ∨ k.held = true) :
    OnlyOrphans cs := by
  obtain ⟨orphans, admissions, rfl, h1, -, h3, h4, -⟩ := hk.claims
  have hnone : admissions = [] := by
    rw [List.eq_nil_iff_forall_not_mem]
    intro c hc
    obtain ⟨-, hst, hheld, hex⟩ := h4 c hc
    rcases h with h | h | h
    · exact h hst
    · exact h hex
    · rw [hheld] at h
      cases h
  rw [hnone, List.append_nil]
  exact ⟨h1, h3⟩

theorem PositionKey.Sound.no_claims (h : k.bound.isSome = true ∨ k.state = .waitingSlot) : cs = [] := by
  obtain ⟨orphans, admissions, rfl, -, -, -, -, h6⟩ := hk.claims
  obtain ⟨rfl, rfl⟩ := h6 h
  rfl

theorem PositionKey.Sound.held_false (h : k.state ≠ .identifying) : k.held = false := by
  cases hh : k.held with
  | false => rfl
  | true => exact absurd (hk.held hh).1 h

theorem PositionKey.Sound.bound_none (h : k.state ≠ .bound) (hh : k.held = false) : k.bound = none := by
  cases hb : k.bound with
  | none => rfl
  | some g =>
    rcases hk.holder.mp (by rw [hb]; rfl) with h' | h'
    · exact absurd h' h
    · rw [hh] at h'
      cases h'

theorem PositionKey.Sound.exchange_none (h : k.state ≠ .identifying) : k.exchange = none := by
  cases he : k.exchange with
  | none => rfl
  | some e => exact absurd (hk.identifies (by rw [he]; rfl)) h

/-- R66: the oldest claim of a position is an orphan claim where it has one on its way. -/
theorem PositionKey.Sound.admission_first {rest : List Claim} (hcs : cs = c :: rest) (hc : isOrphan c = false) :
    rest = [] ∧ k.state = .identifying ∧ k.held = false ∧ k.exchange = none := by
  obtain ⟨orphans, admissions, he, h1, h2, h3, h4, -⟩ := hk.claims
  cases orphans with
  | cons o os =>
    have hfirst : o = c := by
      rw [hcs] at he
      exact (List.cons.inj he).1.symm
    rw [← hfirst, h3 o (List.mem_cons_self ..)] at hc
    cases hc
  | nil =>
    rw [List.nil_append] at he
    rw [← he, hcs] at h2 h4
    obtain ⟨-, hrest⟩ := h4 c (List.mem_cons_self ..)
    exact ⟨List.eq_nil_of_length_eq_zero (by simpa using h2), hrest⟩

theorem PositionKey.Sound.sublist {cs' : List Claim} (h : cs'.Sublist cs) : k.Sound cs' := by
  obtain ⟨orphans, admissions, rfl, h1, h2, h3, h4, h5⟩ := hk.claims
  obtain ⟨os, as, rfl, ho, ha⟩ := List.sublist_append_iff.mp h
  refine ⟨hk.holder, hk.held, hk.identifies, os, as, rfl, ho.length_le.trans h1, ha.length_le.trans h2,
    fun c hc => h3 c (ho.subset hc), fun c hc => h4 c (ha.subset hc), fun hb => ?_⟩
  obtain ⟨rfl, rfl⟩ := h5 hb
  exact ⟨List.sublist_nil.mp ho, List.sublist_nil.mp ha⟩

/-- R153: a position that loses its work item. -/
theorem PositionKey.Sound.dropped : PositionKey.Sound { k with exchange := none } cs := by
  obtain ⟨orphans, admissions, hcs, h1, h2, h3, h4, h5⟩ := hk.claims
  refine ⟨hk.holder, fun hh => ⟨(hk.held hh).1, nofun⟩, nofun, orphans, admissions, hcs, h1, h2, h3, fun c hc => ?_, h5⟩
  obtain ⟨h6, h7, h8, -⟩ := h4 c hc
  exact ⟨h6, h7, h8, rfl⟩

end

/-- A position without a binding and without an admission claim on its way. -/
theorem PositionKey.Sound.of_unbound (hb : k.bound = none) (hh : k.held = false) (hst : k.state ≠ .bound)
    (hid : k.exchange.isSome = true → k.state = .identifying) (hcs : OnlyOrphans cs) (hw : k.state = .waitingSlot → cs = []) :
    k.Sound cs := by
  refine ⟨?_, fun h => ?_, hid, cs, [], (List.append_nil cs).symm, hcs.1, Nat.zero_le 1, hcs.2, fun c hc => ?_, fun h => ?_⟩
  · rw [hb, hh]
    simp [hst]
  · rw [hh] at h
    cases h
  · cases hc
  · rcases h with h | h
    · rw [hb] at h
      cases h
    · exact ⟨hw h, rfl⟩

/-- R58, R66: an IDENTIFYING position that sends an admission claim. -/
theorem PositionKey.Sound.of_asking (hb : k.bound = none) (hh : k.held = false) (hst : k.state = .identifying)
    (he : k.exchange = none) (hos : OnlyOrphans os) (hc : isOrphan c = false) : k.Sound (os ++ [c]) := by
  refine ⟨?_, fun h => ?_, fun _ => hst, os, [c], rfl, hos.1, Nat.le_refl 1, hos.2, fun d hd => ?_, fun h => ?_⟩
  · rw [hb, hh, hst]
    simp
  · rw [hh] at h
    cases h
  · cases List.mem_singleton.mp hd
    exact ⟨hc, hst, hh, he⟩
  · rw [hb, hst] at h
    simp at h

/-- R61, R66: a BOUND position. -/
theorem PositionKey.Sound.of_bound (hb : k.bound.isSome = true) (hst : k.state = .bound) (hh : k.held = false)
    (he : k.exchange = none) : k.Sound [] := by
  refine ⟨⟨fun _ => .inl hst, fun _ => hb⟩, fun h => ?_, fun h => ?_, [], [], rfl, Nat.zero_le 1, Nat.zero_le 1, ?_, ?_,
    fun _ => ⟨rfl, rfl⟩⟩
  · rw [hh] at h
    cases h
  · rw [he] at h
    cases h
  · exact fun c hc => by cases hc
  · exact fun c hc => by cases hc

/-! ### Records at positions -/

/-- The record of handle h sits at position p. -/
def State.Seated (s : State) (h : Handle) (p : Nat) : Prop := ∃ r ∈ s.records, s.handleOf r = h ∧ r.position = some p

/-- R8: each position holds the handle of the record that sits there, if one does. -/
structure State.Linked (s : State) : Prop where
  bound : ∀ p h, isPosition p = true → ((s.position p).bound = some h ↔ s.Seated h p)
  position : ∀ h p, s.Seated h p → isPosition p = true

/-- R8, R53, R58, R66, R73: `BindingsSound`, position by position. -/
structure State.Consistent (s : State) : Prop where
  linked : s.Linked
  sound : ∀ p, isPosition p = true → (s.position p).key.Sound (s.inFlight.filter (ofPosition p))

theorem exchange_image_iff (i : Option Item) :
    exchangeOf i = some .image ↔ ∃ x off ws, i = some x ∧ x.work = .readImage off ws := by
  cases i with
  | none => simp [exchangeOf]
  | some x => cases hw : x.work <;> simp [exchangeOf, Work.exchange, hw]

theorem key_sound_iff (x : Position) (cs : List Claim) : x.key.Sound cs ↔
    (x.bound.isSome = true ↔ x.state = .bound ∨ x.held = true) ∧
    (x.held = true → x.state = .identifying ∧ ∀ i off ws, x.item = some i → i.work ≠ .readImage off ws) ∧
    (x.identifies = true → x.state = .identifying) ∧
    ∃ orphans admissions, cs = orphans ++ admissions ∧ orphans.length ≤ 1 ∧ admissions.length ≤ 1 ∧
      (∀ c ∈ orphans, isOrphan c = true) ∧
      (∀ c ∈ admissions, isOrphan c = false ∧ x.state = .identifying ∧ x.held = false ∧ x.identifies = false) ∧
      (x.bound.isSome = true ∨ x.state = .waitingSlot → orphans = [] ∧ admissions = []) := by
  have hreads : (∀ i off ws, x.item = some i → i.work ≠ .readImage off ws) ↔ exchangeOf x.item ≠ some .image := by
    rw [ne_eq, exchange_image_iff]
    simp only [not_exists, not_and]
  have hnone : x.identifies = false ↔ exchangeOf x.item = none := by
    rw [identifies_eq, Option.isSome_eq_false_iff, Option.isNone_iff_eq_none]
  rw [hreads, hnone, identifies_eq]
  exact ⟨fun ⟨h1, h2, h3, h4⟩ => ⟨h1, h2, h3, h4⟩, fun ⟨h1, h2, h3, h4⟩ => ⟨h1, h2, h3, h4⟩⟩

theorem mem_of_named (hn : s.named h = some r) : r ∈ s.records := (State.recordAt_mem (State.recordAt_named hn)).1

theorem bindingsSound_iff (hs : s.TableSound) : s.BindingsSound ↔ s.Consistent := by
  constructor
  · intro hb
    refine ⟨⟨fun p h hp => ⟨fun hbound => ?_, ?_⟩, ?_⟩, fun p hp => (key_sound_iff _ _).mpr
      ⟨hb.holder p hp, hb.held p hp, hb.identifies p hp, hb.claims p hp⟩⟩
    · obtain ⟨r, hn, hr⟩ := hb.bound p h hp hbound
      exact ⟨r, mem_of_named hn, handleOf_named hn, hr⟩
    · rintro ⟨r, hr, rfl, hat⟩
      exact (hb.position r p hr hat).2
    · rintro h p ⟨r, hr, -, hat⟩
      exact (hb.position r p hr hat).1
  · rintro ⟨⟨hbound, hposition⟩, hsound⟩
    have hparts (p : Nat) (hp : isPosition p = true) := (key_sound_iff _ _).mp (hsound p hp)
    refine ⟨fun p h hp hb => ?_, fun r p hr hat => ?_, fun p hp => (hparts p hp).1, fun p hp => (hparts p hp).2.1,
      fun p hp => (hparts p hp).2.2.1, fun p hp => (hparts p hp).2.2.2⟩
    · obtain ⟨r, hr, rfl, hat⟩ := (hbound p h hp).mp hb
      exact ⟨r, named_handleOf hs hr, hat⟩
    · have hseat : s.Seated (s.handleOf r) p := ⟨r, hr, rfl, hat⟩
      have hp := hposition _ _ hseat
      exact ⟨hp, (hbound p _ hp).mpr hseat⟩

/-! ### What leaves the seats as they are -/

theorem seated_of_keys (hr : t.records.map Record.key = s.records.map Record.key) (ht : t.tags = s.tags) (h : Handle)
    (p : Nat) : t.Seated h p ↔ s.Seated h p := by
  have hseat (v : State) (htags : v.tags = s.tags) : v.Seated h p ↔
      ∃ k ∈ v.records.map Record.key, (⟨k.slot, s.tag k.slot⟩ : Handle) = h ∧ k.position = some p := by
    unfold State.Seated
    simp only [List.mem_map, exists_exists_and_eq_and, State.handleOf, State.tag, htags]
    rfl
  rw [hseat t ht, hseat s rfl, hr]

theorem seated_of_book (hb : t.book = s.book) (h : Handle) (p : Nat) : t.Seated h p ↔ s.Seated h p :=
  seated_of_keys (records_of_book hb) (congrArg Book.tags hb) h p

theorem seated_of_table (hb : t.table = s.table) (h : Handle) (p : Nat) : t.Seated h p ↔ s.Seated h p :=
  seated_of_keys (by rw [records_of_table hb]) (tags_of_table hb) h p

theorem State.Consistent.of_book (hb : t.book = s.book) (hc : s.Consistent) : t.Consistent := by
  have hk := position_of_book hb
  have hbound (p : Nat) : (t.position p).bound = (s.position p).bound := by have := congrArg PositionKey.bound (hk p); exact this
  refine ⟨⟨fun p h hp => ?_, fun h p hseat => ?_⟩, fun p hp => ?_⟩
  · rw [hbound, seated_of_book hb]
    exact hc.linked.bound p h hp
  · exact hc.linked.position h p ((seated_of_book hb h p).mp hseat)
  · rw [hk, ofPosition_of_book hb]
    exact hc.sound p hp

/-- Claims taken or withdrawn. -/
theorem State.Consistent.claims {cs : List Claim} (hc : s.Consistent) (hcs : cs.Sublist s.inFlight) :
    ({ s with inFlight := cs } : State).Consistent :=
  ⟨⟨hc.linked.bound, hc.linked.position⟩, fun p hp => (hc.sound p hp).sublist (hcs.filter _)⟩

theorem State.Consistent.claimTaken (hc : s.Consistent) (f : Claim → Bool) : (s.claimTaken f).Consistent :=
  hc.claims List.eraseP_sublist

/-- One position changed, the records and the bound slots kept. -/
theorem State.Consistent.changed (hc : s.Consistent) (hseat : ∀ h q, t.Seated h q ↔ s.Seated h q)
    (hother : ∀ q, q ≠ p → (t.position q).key = (s.position q).key)
    (hclaims : ∀ q, q ≠ p → t.inFlight.filter (ofPosition q) = s.inFlight.filter (ofPosition q))
    (hbound : (t.position p).bound = (s.position p).bound)
    (hown : isPosition p = true → (t.position p).key.Sound (t.inFlight.filter (ofPosition p))) : t.Consistent := by
  have hb (q : Nat) : (t.position q).bound = (s.position q).bound := by
    by_cases hq : q = p
    · rw [hq, hbound]
    · have := congrArg PositionKey.bound (hother q hq)
      exact this
  refine ⟨⟨fun q h hq => ?_, fun h q hs => hc.linked.position h q ((hseat h q).mp hs)⟩, fun q hq => ?_⟩
  · rw [hb, hseat]
    exact hc.linked.bound q h hq
  · by_cases he : q = p
    · subst he
      exact hown hq
    · rw [hother q he, hclaims q he]
      exact hc.sound q hq

section
variable (hc : s.Consistent) (hs : s.Shaped) (hp : isPosition p = true)
include hc hs hp

theorem State.Consistent.updPosition {f : Position → Position} (hbound : (f (s.position p)).bound = (s.position p).bound)
    (hk : (f (s.position p)).key.Sound (s.inFlight.filter (ofPosition p))) : (s.updPosition p f).Consistent := by
  have hown : (s.updPosition p f).position p = f (s.position p) := State.position_updPosition_eq f hs hp
  refine hc.changed (seated_of_table (table_updPosition s p f))
    (fun q hq => congrArg Position.key (State.position_updPosition_other s f hq)) (fun _ _ => rfl) ?_ fun _ => ?_
  · rw [hown, hbound]
  · rw [hown]
    exact hk

theorem State.Consistent.positionBecomes {f : Position → Position}
    (hbound : (f (s.position p)).bound = (s.position p).bound)
    (hk : (f (s.position p)).key.Sound (s.inFlight.filter (ofPosition p))) : (s.positionBecomes p f).Consistent := by
  refine (hc.updPosition hs hp hbound hk).of_book ?_
  rw [State.positionBecomes_eq, book_raiseIf]

/-- R153: an item ends or is withdrawn. -/
theorem State.Consistent.dropped {f : Position → Position} (hf : (f (s.position p)).key = { (s.position p).key with exchange := none }) :
    (s.updPosition p f).Consistent := by
  refine hc.updPosition hs hp ?_ ?_
  · have := congrArg PositionKey.bound hf
    exact this
  · rw [hf]
    exact (hc.sound p hp).dropped

end

theorem isPosition_of_item {i : Item} (hs : s.Shaped) (hi : (s.position p).item = some i) : isPosition p = true := by
  by_contra hp
  have hnone : place s.positions p = none := by
    cases p with
    | zero => rfl
    | succ p =>
      show s.positions[p]? = none
      rw [List.getElem?_eq_none_iff, hs.1]
      rw [isPosition_iff] at hp
      omega
  have hitem : (s.position p).item = none := by
    rw [State.position, hnone]
    rfl
  rw [hitem] at hi
  cases hi

/-- A claim that is not a position's own passes by the bindings. -/
theorem State.Consistent.send (hc : s.Consistent) (hclaim : isPositionClaim c = false) : (s.send c).Consistent :=
  hc.of_book (book_send s c hclaim)

theorem ofPosition_iff_of_position {c : Claim} (h : ofPosition p c = true) : ofPosition q c = true ↔ q = p := by
  cases c with
  | creation x _ _ | rebind x _ | orphan x _ _ =>
    obtain rfl : x = p := by simpa [ofPosition] using h
    exact beq_iff_eq.trans eq_comm
  | _ => cases h

/-- R58, R66: an IDENTIFYING position sends its creation or rebind claim. -/
theorem State.Consistent.asks (hc : s.Consistent) (hp : isPosition p = true) (hst : (s.position p).state = .identifying)
    (hh : (s.position p).held = false) (he : exchangeOf (s.position p).item = none)
    (hos : OnlyOrphans (s.inFlight.filter (ofPosition p))) (hof : ofPosition p c = true) (hno : isOrphan c = false) :
    (s.send c).Consistent := by
  have hb : (s.position p).bound = none :=
    (hc.sound p hp).bound_none (k := (s.position p).key) (by show (s.position p).state ≠ _; rw [hst]; simp) hh
  refine hc.changed (p := p) (seated_of_table (table_send s c)) (fun _ _ => rfl) (fun q hq => ?_) rfl fun _ => ?_
  · show (s.inFlight ++ [c]).filter (ofPosition q) = _
    rw [List.filter_append, List.filter_cons_of_neg (by rw [ofPosition_iff_of_position hof]; exact hq), List.filter_nil,
      List.append_nil]
  · show (s.position p).key.Sound ((s.inFlight ++ [c]).filter (ofPosition p))
    rw [List.filter_append, List.filter_cons_of_pos hof, List.filter_nil]
    exact .of_asking hb hh hst he hos hno

/-! ### A record that is unseated or seated (R8, R9, R10) -/

/-- R8: a record leaves its position. -/
theorem State.Linked.unseated (hl : s.Linked) (hseat : s.Seated h p)
    (hseats : ∀ g q, t.Seated g q ↔ g.slot ≠ h.slot ∧ s.Seated g q)
    (hunique : ∀ g q, g.slot = h.slot → s.Seated g q → g = h ∧ q = p) (hown : (t.position p).bound = none)
    (hother : ∀ q, q ≠ p → (t.position q).bound = (s.position q).bound) : t.Linked := by
  refine ⟨fun q g hq => ?_, fun g q hs => hl.position g q ((hseats g q).mp hs).2⟩
  rw [hseats]
  by_cases he : q = p
  · subst he
    rw [hown]
    refine ⟨nofun, fun ⟨hne, hs⟩ => ?_⟩
    have h1 := (hl.bound q g hq).mpr hs
    have h2 := (hl.bound q h hq).mpr hseat
    cases h1.symm.trans h2
    exact absurd rfl hne
  · rw [hother q he, hl.bound q g hq]
    exact ⟨fun hs => ⟨fun hslot => he (hunique g q hslot hs).2, hs⟩, fun hs => hs.2⟩

/-- R8: a record takes a position that holds no bound slot. -/
theorem State.Linked.seated (hl : s.Linked) (hp : isPosition p = true) (hfree : (s.position p).bound = none)
    (hseats : ∀ g q, t.Seated g q ↔ s.Seated g q ∨ g = h ∧ q = p) (hown : (t.position p).bound = some h)
    (hother : ∀ q, q ≠ p → (t.position q).bound = (s.position q).bound) : t.Linked := by
  refine ⟨fun q g hq => ?_, fun g q hs => ?_⟩
  · rw [hseats]
    by_cases he : q = p
    · subst he
      have hnone : ¬ s.Seated g q := fun hs => by
        have := (hl.bound q g hq).mpr hs
        rw [hfree] at this
        cases this
      rw [hown]
      simp [hnone, eq_comm]
    · rw [hother q he, hl.bound q g hq]
      simp [he]
  · rcases (hseats g q).mp hs with hs | ⟨-, rfl⟩
    · exact hl.position g q hs
    · exact hp

/-- In a sound table a slot's record has one handle and one position. -/
theorem seated_unique (hs : s.TableSound) (hr : r ∈ s.records) (hslot : g.slot = r.slot) (hseat : s.Seated g q) :
    g = s.handleOf r ∧ r.position = some q := by
  obtain ⟨x, hx, rfl, hat⟩ := hseat
  have hxr : x = r := by
    have h1 := recordAt_of_mem hs hx
    have h2 := recordAt_of_mem hs hr
    have hslot : x.slot = r.slot := hslot
    rw [hslot, h2] at h1
    cases h1
    rfl
  rw [← hxr]
  exact ⟨rfl, hat⟩

/-- R8: the seats once the position field of a slot's record is changed. -/
theorem seated_updRecord {y : Option Nat} (hs : s.TableSound) (hr : r ∈ s.records) (hslot : r.slot = n) (g : Handle) (q : Nat) :
    (s.updRecord n (fun x => { x with position := y })).Seated g q ↔
      g.slot ≠ n ∧ s.Seated g q ∨ g = s.handleOf r ∧ y = some q := by
  constructor
  · rintro ⟨x, hx, rfl, hat⟩
    obtain ⟨z, hz, rfl⟩ := List.mem_map.mp hx
    by_cases hzn : z.slot = n
    · have hzr : z = r := by
        have h1 := recordAt_of_mem hs hz
        have h2 := recordAt_of_mem hs hr
        rw [hzn] at h1
        rw [hslot, h1] at h2
        cases h2
        rfl
      rw [if_pos hzn] at hat ⊢
      exact .inr ⟨by rw [hzr]; rfl, hat⟩
    · rw [if_neg hzn] at hat ⊢
      exact .inl ⟨hzn, z, hz, rfl, hat⟩
  · rintro (⟨hne, x, hx, rfl, hat⟩ | ⟨rfl, rfl⟩)
    · have hxn : x.slot ≠ n := hne
      exact ⟨x, List.mem_map.mpr ⟨x, hx, if_neg hxn⟩, rfl, hat⟩
    · exact ⟨{ r with position := some q }, List.mem_map.mpr ⟨r, hr, if_pos hslot⟩, rfl, rfl⟩

end Sys2Proof.Machine
end

section
/-! SUPPORT. Bindings under creation, rebind and orphan claims (R8, R9, R10, R61, R63). -/

namespace Sys2Proof.Machine

variable {s t u : State} {n p q l e : Nat} {r : Record} {h g : Handle} {cs os : List Claim} {c : Claim} {d : Identity}
  {image : Unpacked} {ph : Option AbandonPhase}

/-! ### A position without a binding -/

/-- A position that holds no bound slot and has no admission claim on its way. -/
structure State.UnboundAt (s : State) (p : Nat) : Prop where
  bound : (s.position p).bound = none
  held : (s.position p).held = false
  claims : OnlyOrphans (s.inFlight.filter (ofPosition p))

/-- A position that the Record Table answers: it holds no bound slot and no item of identification, and none of its
claims is on its way. -/
structure State.ReadyAt (s : State) (p : Nat) : Prop where
  state : (s.position p).state = .identifying ∨ (s.position p).state = .waitingSlot
  bound : (s.position p).bound = none
  held : (s.position p).held = false
  exchange : exchangeOf (s.position p).item = none
  claims : s.inFlight.filter (ofPosition p) = []

theorem onlyOrphans_nil : OnlyOrphans [] := ⟨Nat.zero_le 1, fun _ hc => by cases hc⟩

theorem State.ReadyAt.unbound (hr : s.ReadyAt p) : s.UnboundAt p :=
  ⟨hr.bound, hr.held, by rw [hr.claims]; exact onlyOrphans_nil⟩

/-- R53: a position that is neither BOUND nor identifying holds no bound slot. -/
theorem State.Consistent.unboundAt (hc : s.Consistent) (hp : isPosition p = true) (h1 : (s.position p).state ≠ .bound)
    (h2 : (s.position p).state ≠ .identifying) : s.UnboundAt p := by
  have hk := hc.sound p hp
  have hheld := hk.held_false h2
  exact ⟨hk.bound_none h1 hheld, hheld, hk.onlyOrphans (.inl h2)⟩

theorem State.Consistent.exchange_none (hc : s.Consistent) (hp : isPosition p = true)
    (h2 : (s.position p).state ≠ .identifying) : exchangeOf (s.position p).item = none := (hc.sound p hp).exchange_none h2

/-- R61, R63: a position that waits for a slot is ready for one. -/
theorem State.Consistent.readyAt_waiting (hc : s.Consistent) (hp : isPosition p = true)
    (hst : (s.position p).state = .waitingSlot) : s.ReadyAt p := by
  obtain ⟨hb, hh, -⟩ := hc.unboundAt hp (by simp [hst]) (by simp [hst])
  exact ⟨.inr hst, hb, hh, hc.exchange_none hp (by simp [hst]), (hc.sound p hp).no_claims (.inr hst)⟩

section
variable (hc : s.Consistent) (hs : s.Shaped) (hp : isPosition p = true)
include hc hs hp

/-- A position without a binding takes a state in which it holds none. -/
theorem State.Consistent.unboundBecomes {st : PositionState} {ex : Option IdPhase} {f : Position → Position}
    (hu : s.UnboundAt p) (hf : (f (s.position p)).key = ⟨st, (s.position p).bound, (s.position p).held, ex⟩)
    (hst : st ≠ .bound ∧ st ≠ .waitingSlot) (hex : ex.isSome = true → st = .identifying) :
    (s.positionBecomes p f).Consistent := by
  refine hc.positionBecomes hs hp ?_ ?_
  · have := congrArg PositionKey.bound hf
    exact this
  · rw [hf]
    exact .of_unbound hu.bound hu.held hst.1 hex hu.claims fun h => absurd h hst.2

/-- R58: a position without a binding identifies. -/
theorem consistent_enterIdentifying (hu : s.UnboundAt p) : (s.enterIdentifying p).Consistent := by
  rw [State.enterIdentifying_eq]
  exact hc.unboundBecomes hs hp hu (st := .identifying) (ex := some .ident) rfl ⟨by simp, by simp⟩ fun _ => rfl

theorem consistent_toConflict (hu : s.UnboundAt p) (hx : exchangeOf (s.position p).item = none) :
    (s.toConflict p).Consistent := by
  rw [State.toConflict_eq]
  exact hc.unboundBecomes hs hp hu (st := .conflict) (ex := none) (congrArg (PositionKey.mk .conflict _ _) hx)
    ⟨by simp, by simp⟩ fun h => by cases h

theorem consistent_moveTo {st : PositionState} (hu : s.UnboundAt p) (hx : exchangeOf (s.position p).item = none)
    (hst : st ≠ .bound ∧ st ≠ .waitingSlot) {f : Position → Position} (hf : ∀ x, (f x).key = x.key) :
    ((s.moveTo p st).updPosition p f).Consistent := by
  have hmoved : (s.moveTo p st).Consistent := by
    rw [State.moveTo_eq]
    exact hc.unboundBecomes hs hp hu (st := st) (ex := none) (congrArg (PositionKey.mk st _ _) hx) hst fun h => by cases h
  exact hmoved.of_book (book_updPosition _ p f fun x _ => hf x)

/-- R59, R66: an IDENTIFYING position reads its image. -/
theorem consistent_enterImage (hu : s.UnboundAt p) (hst : (s.position p).state = .identifying) :
    (s.enterImage p).Consistent := by
  rw [State.enterImage_eq]
  refine hc.updPosition hs hp rfl ?_
  refine .of_unbound hu.bound hu.held ?_ (fun _ => hst) hu.claims fun h => ?_
  · show (s.position p).state ≠ .bound
    rw [hst]
    simp
  · exact absurd (hst.symm.trans h) (by simp)

theorem consistent_toWaiting (hr : s.ReadyAt p) : (s.toWaiting p).Consistent := by
  rw [State.toWaiting_eq]
  refine hc.positionBecomes hs hp rfl ?_
  rw [hr.claims]
  refine .of_unbound hr.bound hr.held (fun h => by cases h) (fun h => ?_) onlyOrphans_nil fun _ => rfl
  have hx : exchangeOf (s.position p).item = none := hr.exchange
  rw [show (PositionKey.exchange _ : Option IdPhase) = none from hx] at h
  cases h

end

/-! ### An orphan claim taken (R10, log entry 9): the record left its position when it was sent -/

theorem position_of_not_isPosition (hs : s.Shaped) (hp : ¬ isPosition p = true) : s.position p = Position.powerOn true := by
  have hnone : place s.positions p = none := by
    cases p with
    | zero => rfl
    | succ p =>
      show s.positions[p]? = none
      rw [List.getElem?_eq_none_iff, hs.1]
      rw [isPosition_iff] at hp
      omega
  rw [State.position, hnone]
  rfl

/-- R10: what an orphan claim leaves of the book. -/
theorem book_takeOrphan (hs : s.TableSound) (hb : (s.position p).bound = none)
    (hr : ∀ r, s.named h = some r → r.position ≠ some p) : (s.takeOrphan p h ph).book = s.book := by
  cases hn : s.named h with
  | none => rw [takeOrphan_none hn]
  | some r =>
    rw [takeOrphan_named hn]
    split
    next hc =>
      have hfree : r.position = none := hc.resolve_right (hr r hn)
      have hat := State.recordAt_named hn
      have hdiscard : ((s.withdrawWork p).discardOutcomes p).book = s.book := by
        rw [book_discardOutcomes, book_withdrawWork]
      have hbound : (((s.withdrawWork p).discardOutcomes p).position p).bound = none := by
        have hk := congrArg PositionKey.bound (position_of_book hdiscard p)
        exact hk.trans hb
      rw [book_settleRecord]
      unfold State.unbind
      refine (book_updPosition _ p _ fun x hx => ?_).trans ?_
      · have hx : ((s.withdrawWork p).discardOutcomes p).position p = x := position_of_place _ hx
        rw [hx] at hbound
        simp only [Position.key, hbound]
      · refine Eq.trans ?_ hdiscard
        have hrecords : ((s.withdrawWork p).discardOutcomes p).records = s.records := rfl
        have hkeys : (((s.withdrawWork p).discardOutcomes p).updRecord h.slot fun r => { r with position := none }).records.map
            Record.key = s.records.map Record.key := by
          rw [State.updRecord_records, hrecords, List.map_map]
          refine List.map_congr_left fun x hx => ?_
          by_cases hslot : x.slot = h.slot
          · have hxr : x = r := (hs.unique hat hx hslot)
            subst hxr
            simp only [Function.comp_apply, if_pos hslot, Record.key, hfree]
          · simp only [Function.comp_apply, if_neg hslot]
        simp only [State.book, hkeys, hrecords]
        rfl
    · rfl

/-- R10: a position whose orphan claim is on its way holds no bound slot. -/
theorem State.Consistent.bound_of_orphan (hc : s.Consistent) (hs : s.Shaped) (hmem : Claim.orphan p h ph ∈ s.inFlight) :
    (s.position p).bound = none := by
  by_cases hp : isPosition p = true
  · cases hb : (s.position p).bound with
    | none => rfl
    | some g =>
      have hnil := (hc.sound p hp).no_claims (.inl (by show (s.position p).bound.isSome = true; rw [hb]; rfl))
      have hin : Claim.orphan p h ph ∈ s.inFlight.filter (ofPosition p) :=
        List.mem_filter.mpr ⟨hmem, by simp [ofPosition]⟩
      rw [hnil] at hin
      cases hin
  · rw [position_of_not_isPosition hs hp]
    rfl

theorem State.Consistent.position_ne (hc : s.Consistent) (hb : (s.position p).bound = none) (hr : s.named h = some r) :
    r.position ≠ some p := fun hat => by
  have hseat : s.Seated h p := ⟨r, mem_of_named hr, handleOf_named hr, hat⟩
  have := (hc.linked.bound p h (hc.linked.position h p hseat)).mpr hseat
  rw [hb] at this
  cases this

/-- R9, log entry 26: what taking a record's orphan claim first leaves of the book. -/
theorem book_settleOrphan (hc : s.Consistent) (hs : s.Shaped) (ht : s.TableSound) :
    (s.settleOrphan h).book = ({ s with inFlight := s.inFlight.filter (fun c => !isOrphanFor h c) } : State).book := by
  unfold State.settleOrphan
  cases how : s.orphanOnWay h with
  | none =>
    have hkept : s.inFlight.filter (fun c => !isOrphanFor h c) = s.inFlight := List.filter_eq_self.mpr fun c hcm => by
      have := List.findSome?_eq_none_iff.mp how c hcm
      simp [isOrphanFor, this]
    rw [hkept]
  | some x =>
    obtain ⟨q, ph⟩ := x
    have hmem : Claim.orphan q h ph ∈ s.inFlight := List.mem_of_find?_eq_some (orphanOnWay_iff.mp how)
    have hb := hc.bound_of_orphan hs hmem
    exact book_takeOrphan (s := { s with inFlight := s.inFlight.filter (fun c => !isOrphanFor h c) }) ht hb
      fun r hr => hc.position_ne hb hr

theorem consistent_settleOrphan (hc : s.Consistent) (hs : s.Shaped) (ht : s.TableSound) : (s.settleOrphan h).Consistent :=
  (hc.claims (List.filter_sublist (p := fun c => !isOrphanFor h c))).of_book (book_settleOrphan hc hs ht)

/-! ### A rebind claim taken (R9, R66) -/

theorem readyAt_settleOrphan (hc : s.Consistent) (hs : s.Shaped) (ht : s.TableSound) (hr : s.ReadyAt p) :
    (s.settleOrphan h).ReadyAt p := by
  have hbook := book_settleOrphan (h := h) hc hs ht
  have hkey : ((s.settleOrphan h).position p).key = (s.position p).key := position_of_book hbook p
  have hclaims := ofPosition_of_book hbook p
  refine ⟨?_, (congrArg PositionKey.bound hkey).trans hr.bound, (congrArg PositionKey.held hkey).trans hr.held,
    (congrArg PositionKey.exchange hkey).trans hr.exchange, ?_⟩
  · have hst : ((s.settleOrphan h).position p).state = (s.position p).state := congrArg PositionKey.state hkey
    rw [hst]
    exact hr.state
  · rw [hclaims]
    have hsub := (List.filter_sublist (p := fun c => !isOrphanFor h c) (l := s.inFlight)).filter (ofPosition p)
    rw [hr.claims] at hsub
    exact List.sublist_nil.mp hsub

/-- R9, R61: a record without a position is bound to a position that is ready. -/
theorem consistent_bound (hc : s.Consistent) (hs : s.Shaped) (ht : s.TableSound) (hp : isPosition p = true)
    (hready : s.ReadyAt p) (hr : r ∈ s.records) (hfree : r.position = none) (hh : s.handleOf r = h) :
    ((s.bind h p).toBound p).Consistent := by
  have hslot : r.slot = h.slot := by rw [← hh]; rfl
  rw [bind_toBound]
  have hs' : (s.updRecord h.slot fun x => { x with position := some p }).Shaped := hs
  have hown : (((s.updRecord h.slot fun x => { x with position := some p }).positionBecomes p fun x => { x with
      state := .bound, bound := some h, phase := none, identity := none, held := false }).position p) =
      { s.position p with state := .bound, bound := some h, phase := none, identity := none, held := false } :=
    State.position_positionBecomes_same _ hs' hp
  have hother (q : Nat) (hq : q ≠ p) : (((s.updRecord h.slot fun x => { x with position := some p }).positionBecomes p
      fun x => { x with state := .bound, bound := some h, phase := none, identity := none, held := false }).position q) =
      s.position q := State.position_positionBecomes_other _ hq
  have hseats (g : Handle) (q : Nat) : ((s.updRecord h.slot fun x => { x with position := some p }).positionBecomes p
      fun x => { x with state := .bound, bound := some h, phase := none, identity := none, held := false }).Seated g q ↔
      s.Seated g q ∨ g = h ∧ q = p := by
    rw [seated_of_keys (by rw [positionBecomes_records]) (positionBecomes_tags _ _ _), seated_updRecord ht hr hslot, hh]
    have hne (hseat : s.Seated g q) : g.slot ≠ h.slot := fun he => by
      obtain ⟨-, hat⟩ := seated_unique ht hr (he.trans hslot.symm) hseat
      rw [hfree] at hat
      cases hat
    constructor
    · rintro (⟨-, hseat⟩ | ⟨hg, hq⟩)
      · exact .inl hseat
      · exact .inr ⟨hg, (Option.some.inj hq).symm⟩
    · rintro (hseat | ⟨hg, rfl⟩)
      · exact .inl ⟨hne hseat, hseat⟩
      · exact .inr ⟨hg, rfl⟩
  refine ⟨hc.linked.seated hp hready.bound hseats (by rw [hown]) fun q hq => by rw [hother q hq], fun q hq => ?_⟩
  rw [positionBecomes_inFlight]
  by_cases he : q = p
  · subst he
    rw [hown]
    show PositionKey.Sound _ (s.inFlight.filter (ofPosition q))
    rw [hready.claims]
    exact .of_bound rfl rfl rfl hready.exchange
  · rw [hother q he]
    exact hc.sound q hq

theorem consistent_takeRebind (hc : s.Consistent) (hs : s.Shaped) (ht : s.TableSound) (hp : isPosition p = true)
    (hready : s.ReadyAt p) (hnamed : s.named h = none → (s.position p).state = .identifying) :
    (s.takeRebind p h).Consistent := by
  cases hn : s.named h with
  | none =>
    rw [takeRebind_none hn]
    exact consistent_enterImage hc hs hp hready.unbound (hnamed hn)
  | some r =>
    by_cases hfree : r.position = none
    · rw [takeRebind_free hn hfree]
      have hbook := book_settleOrphan (h := h) hc hs ht
      have hkept := keeps_settleOrphan s h
      obtain ⟨r', hr', -⟩ := hkept.records h.slot r (State.recordAt_named hn)
      obtain ⟨hmem, hslot⟩ := State.recordAt_mem hr'
      have hrkey : r'.key = r.key := by
        have hk := recordAt_of_book hbook h.slot
        have hold : ({ s with inFlight := s.inFlight.filter (fun c => !isOrphanFor h c) } : State).recordAt h.slot = some r :=
          State.recordAt_named hn
        rw [hr', hold] at hk
        exact Option.some.inj hk
      have hposition : r'.position = none := by
        have hk := congrArg RecordKey.position hrkey
        exact hk.trans hfree
      have hhandle : (s.settleOrphan h).handleOf r' = h := by
        have htag : (s.settleOrphan h).tag h.slot = s.tag h.slot := tag_of_book hbook h.slot
        have hh : s.handleOf r = h := handleOf_named hn
        have hrslot : r.slot = h.slot := (State.recordAt_mem (State.recordAt_named hn)).2
        show (⟨r'.slot, (s.settleOrphan h).tag r'.slot⟩ : Handle) = h
        rw [hslot, htag, ← hrslot]
        exact hh
      refine (consistent_bound (consistent_settleOrphan hc hs ht) (still_shaped (still_settleOrphan s h) hs)
        (hkept.tableSound ht) hp (readyAt_settleOrphan hc hs ht hready) hmem hposition hhandle).of_book ?_
      rw [book_resumeWrite]
    · rw [takeRebind_bound hn hfree]
      exact consistent_toConflict hc hs hp hready.unbound hready.exchange

/-! ### A creation claim taken, and a freed slot handed down (R61, R63) -/

theorem consistent_createRecord (hc : s.Consistent) (hs : s.Shaped) (hp : isPosition p = true) (hready : s.ReadyAt p)
    (hfree : s.recordAt n = none) : (s.createRecord n e p d image).Consistent := by
  have hrecords := records_createRecord (c := e) (p := p) (d := d) (image := image) hfree
  obtain ⟨-, htags, -⟩ := createRecord_frame (s := s) (n := n) (c := e) (p := p) (d := d) (image := image)
  have hclaims : (s.createRecord n e p d image).inFlight = s.inFlight := by
    rw [createRecord_eq]
    exact positionBecomes_inFlight ((s.admitted n e p d image).updRecord n _) p _
  have hown := position_createRecord (n := n) (c := e) (d := d) (image := image) hs hp
  have hhandle (x : Record) : (s.createRecord n e p d image).handleOf x = s.handleOf x := by
    simp only [State.handleOf, State.tag, htags]
  have hseats (g : Handle) (q : Nat) : (s.createRecord n e p d image).Seated g q ↔
      s.Seated g q ∨ g = ⟨n, s.tag n⟩ ∧ q = p := by
    unfold State.Seated
    simp only [hrecords, hhandle, List.mem_append, List.mem_singleton, or_and_right, exists_or, exists_eq_left]
    refine or_congr_right ?_
    show (⟨n, s.tag n⟩ : Handle) = g ∧ some p = some q ↔ _
    rw [Option.some.injEq, eq_comm, eq_comm (a := p)]
  refine ⟨hc.linked.seated hp hready.bound hseats (by rw [hown]) fun q hq => by rw [position_createRecord_other hq],
    fun q hq => ?_⟩
  rw [hclaims]
  by_cases he : q = p
  · subst he
    rw [hown, hready.claims]
    exact .of_bound rfl rfl rfl hready.exchange
  · rw [position_createRecord_other he]
    exact hc.sound q hq

theorem consistent_takeCreation {slot : Option Nat} (hc : s.Consistent) (hs : s.Shaped) (ht : s.TableSound)
    (hp : isPosition p = true) (hready : s.ReadyAt p) (hfree : ∀ n, slot = some n → s.recordAt n = none) :
    (s.takeCreation slot p d image).state.Consistent := by
  cases hm : s.matchingCode d image with
  | none =>
    rw [takeCreation_unmatched hm]
    exact consistent_enterIdentifying hc hs hp hready.unbound
  | some e =>
    cases hr : s.recordOf d.serial with
    | some r =>
      have hmem : r ∈ s.records := List.mem_of_find?_eq_some hr
      by_cases hpos : r.position = none
      · rw [takeCreation_orphaned hm hr hpos]
        refine consistent_takeRebind hc hs ht hp hready fun hn => ?_
        rw [named_handleOf ht hmem] at hn
        cases hn
      · rw [takeCreation_bound hm hr hpos]
        exact consistent_toConflict hc hs hp hready.unbound hready.exchange
    | none =>
      by_cases ha : s.admissions < 4294967295
      · cases slot with
        | none =>
          rw [takeCreation_waits hm hr (.inl rfl)]
          exact consistent_toWaiting hc hs hp hready
        | some n =>
          rw [takeCreation_created hm hr ha]
          exact consistent_createRecord hc hs hp hready (hfree n rfl)
      · rw [takeCreation_waits hm hr (.inr (Nat.le_of_not_lt ha))]
        exact consistent_toWaiting hc hs hp hready

theorem consistent_handSlot (hn : within 64 n = true) (ps : List Nat) (hps : ∀ p ∈ ps, isPosition p = true)
    (hc : s.Consistent) (hs : s.Shaped) (ht : s.TableSound) (hfree : s.recordAt n = none) :
    (handSlot n ps s).Consistent := by
  induction ps generalizing s with
  | nil => exact hc
  | cons p ps ih =>
    obtain ⟨hp, hrest⟩ := List.forall_mem_cons.mp hps
    unfold handSlot
    split
    next d hst _ =>
      split
      · exact ih hrest hc hs ht hfree
      next image _ =>
        have hfree' (m : Nat) (hm : some n = some m) : s.recordAt m = none := by
          cases hm
          exact hfree
        have hmade : (s.takeCreation (some n) p d image).state.Consistent :=
          consistent_takeCreation hc hs ht hp (hc.readyAt_waiting hp hst) hfree'
        rcases takeCreation_grows (s := s) (slot := some n) (p := p) (d := d) (image := image)
          fun m hm => ⟨hfree' m hm, by cases hm; exact hn⟩ with ⟨hk, hcr⟩ | ⟨-, hcr⟩
        · simp only [hcr, Bool.false_eq_true, if_false]
          exact ih hrest hmade (still_shaped (still_takeCreation s _ p d image) hs) (hk.tableSound ht)
            (hk.recordAt_none hfree)
        · simp only [hcr, if_true]
          exact hmade
    · exact ih hrest hc hs ht hfree

theorem consistent_handFreed (hn : within 64 n = true) (hc : s.Consistent) (hs : s.Shaped) (ht : s.TableSound)
    (hfree : s.recordAt n = none) : (s.handFreed n).Consistent := by
  unfold State.handFreed
  split
  · exact consistent_handSlot hn (places 48) (fun p hp => mem_places_48.mp hp) hc hs ht hfree
  · exact hc

end Sys2Proof.Machine
end

section
/-! SUPPORT. Bindings under identification, removal, retirement and restart (R57..R62, R70, R72, R73). -/

namespace Sys2Proof.Machine

variable {s t u : State} {n p q l : Nat} {r : Record} {h g : Handle} {cs os : List Claim} {c : Claim} {d : Identity}
  {i : Item} {w : Work}

/-! ### The binding of a position made absent -/

/-- R8: a change that unseats the record bound to one position. -/
theorem State.Consistent.unseated (hc : s.Consistent) (ht : s.TableSound) (hp : isPosition p = true)
    (hb : (s.position p).bound = some h) (hseats : ∀ g q, t.Seated g q ↔ g.slot ≠ h.slot ∧ s.Seated g q)
    (hown : (t.position p).bound = none) (hother : ∀ q, q ≠ p → (t.position q).key = (s.position q).key)
    (hclaims : ∀ q, q ≠ p → t.inFlight.filter (ofPosition q) = s.inFlight.filter (ofPosition q))
    (hsound : (t.position p).key.Sound (t.inFlight.filter (ofPosition p))) : t.Consistent := by
  obtain ⟨r, hr, rfl, hat⟩ := (hc.linked.bound p h hp).mp hb
  refine ⟨hc.linked.unseated ⟨r, hr, rfl, hat⟩ hseats (fun g q hslot hseat => ?_) hown fun q hq => ?_, fun q hq => ?_⟩
  · obtain ⟨hg, hpos⟩ := seated_unique ht hr hslot hseat
    exact ⟨hg, Option.some.inj (hpos.symm.trans hat)⟩
  · have := congrArg PositionKey.bound (hother q hq)
    exact this
  · by_cases he : q = p
    · subst he
      exact hsound
    · rw [hother q he, hclaims q he]
      exact hc.sound q hq

theorem seated_updRecord_none (hs : s.TableSound) (hr : r ∈ s.records) (hslot : r.slot = n) (g : Handle) (q : Nat) :
    (s.updRecord n (fun x => { x with position := none })).Seated g q ↔ g.slot ≠ n ∧ s.Seated g q := by
  rw [seated_updRecord hs hr hslot]
  simp

/-! ### A held binding released (R73) -/

section
variable (hc : s.Consistent) (hs : s.Shaped) (ht : s.TableSound) (hp : isPosition p = true)
  (hheld : (s.position p).held = true) (hb : (s.position p).bound = some h)
include hc hs ht hp hheld hb

theorem releaseHeld_consistent : (s.releaseHeld p h).Consistent ∧ (s.releaseHeld p h).UnboundAt p ∧
    ((s.releaseHeld p h).position p).state = (s.position p).state ∧
    exchangeOf ((s.releaseHeld p h).position p).item = exchangeOf (s.position p).item := by
  obtain ⟨r, hr, hh, hat⟩ := (hc.linked.bound p h hp).mp hb
  have hn : s.named h = some r := hh ▸ named_handleOf ht hr
  have hslot : r.slot = h.slot := by rw [← hh]; rfl
  let v := (s.withdrawWork p).discardOutcomes p
  let x := v.unbind h.slot p
  let y := x.settleRecord h.slot none
  have hvbook : v.book = s.book := by rw [book_discardOutcomes, book_withdrawWork]
  have hybook : y.book = x.book := book_settleRecord x h.slot none
  have hv : v.Shaped := still_shaped (s := s) (by rw [still_discardOutcomes, still_withdrawWork]) hs
  have hx : x.Shaped := still_shaped (still_unbind v h.slot p) hv
  have hy : y.Shaped := still_shaped (still_settleRecord x h.slot none) hx
  have hrelease : s.releaseHeld p h = y.updPosition p fun z => { z with bound := none, held := false } := by
    unfold State.releaseHeld
    rw [takeOrphan_named hn, if_pos (.inr hat)]
  have hxown : x.position p = { v.position p with bound := none } :=
    State.position_updPosition_eq (s := v.updRecord h.slot fun r => { r with position := none }) _ hv hp
  have hxother (q : Nat) (hq : q ≠ p) : x.position q = v.position q := State.position_updPosition_other
    (v.updRecord h.slot fun r => { r with position := none }) _ hq
  have hown : (s.releaseHeld p h).position p = { y.position p with bound := none, held := false } := by
    rw [hrelease]
    exact State.position_updPosition_eq (s := y) _ hy hp
  have hkey : ((s.releaseHeld p h).position p).key = ⟨(s.position p).state, none, false, exchangeOf (s.position p).item⟩ := by
    have h1 : (y.position p).key = { (v.position p).key with bound := none } := by
      rw [position_of_book hybook p, hxown]
      rfl
    have h2 : (v.position p).key = (s.position p).key := position_of_book hvbook p
    have h3 : ((s.releaseHeld p h).position p).key = { (y.position p).key with bound := none, held := false } := by
      rw [hown]
      rfl
    rw [h3, h1, h2]
    rfl
  have hclaims (q : Nat) : (s.releaseHeld p h).inFlight.filter (ofPosition q) = s.inFlight.filter (ofPosition q) := by
    have h1 : (s.releaseHeld p h).inFlight = y.inFlight := by rw [hrelease]; rfl
    have h2 : x.inFlight = v.inFlight := rfl
    rw [h1, ofPosition_of_book hybook q, h2, ofPosition_of_book hvbook q]
  have hempty : s.inFlight.filter (ofPosition p) = [] :=
    (hc.sound p hp).no_claims (.inl (by show (s.position p).bound.isSome = true; rw [hb]; rfl))
  have hst : (s.position p).state = .identifying := ((hc.sound p hp).held hheld).1
  have hseats (g : Handle) (q : Nat) : (s.releaseHeld p h).Seated g q ↔ g.slot ≠ h.slot ∧ s.Seated g q := by
    have h1 : (s.releaseHeld p h).table = y.table := by rw [hrelease]; rfl
    have h2 : x.table = (s.updRecord h.slot fun r => { r with position := none }).table := rfl
    rw [seated_of_table h1, seated_of_book hybook, seated_of_table h2, seated_updRecord_none ht hr hslot]
  refine ⟨hc.unseated ht hp hb hseats ?_ (fun q hq => ?_) (fun q _ => hclaims q) ?_, ⟨?_, ?_, ?_⟩, ?_, ?_⟩
  · exact congrArg PositionKey.bound hkey
  · have h1 : (s.releaseHeld p h).position q = y.position q := by
      rw [hrelease]
      exact State.position_updPosition_other y _ hq
    rw [h1, position_of_book hybook q, hxother q hq, position_of_book hvbook q]
  · rw [hkey, hclaims, hempty]
    exact .of_unbound rfl rfl (by rw [hst]; simp) (fun _ => hst) onlyOrphans_nil fun _ => rfl
  · exact congrArg PositionKey.bound hkey
  · exact congrArg PositionKey.held hkey
  · rw [hclaims, hempty]
    exact onlyOrphans_nil
  · exact congrArg PositionKey.state hkey
  · exact congrArg PositionKey.exchange hkey

end

/-! ### Identification (R58..R62, R66, R73) -/

/-- A position whose item of identification has ended: no admission claim of it is on its way. -/
structure State.AnsweredAt (s : State) (p : Nat) : Prop where
  state : (s.position p).state = .identifying
  exchange : exchangeOf (s.position p).item = none
  claims : OnlyOrphans (s.inFlight.filter (ofPosition p))

theorem State.AnsweredAt.of_book (hb : t.book = s.book) (ha : s.AnsweredAt p) : t.AnsweredAt p := by
  have hk := position_of_book hb p
  refine ⟨(congrArg PositionKey.state hk).trans ha.state, (congrArg PositionKey.exchange hk).trans ha.exchange, ?_⟩
  rw [ofPosition_of_book hb]
  exact ha.claims

/-- R53: an IDENTIFYING position without a held binding holds no bound slot. -/
theorem State.AnsweredAt.unboundAt (ha : s.AnsweredAt p) (hc : s.Consistent) (hp : isPosition p = true)
    (hh : (s.position p).held = false) : s.UnboundAt p := by
  refine ⟨(hc.sound p hp).bound_none ?_ hh, hh, ha.claims⟩
  show (s.position p).state ≠ .bound
  rw [ha.state]
  simp

/-- R73: a held binding has a bound slot. -/
theorem State.Consistent.bound_of_held (hc : s.Consistent) (hp : isPosition p = true)
    (hh : (s.position p).held = true) : ∃ h, (s.position p).bound = some h :=
  Option.isSome_iff_exists.mp ((hc.sound p hp).holder.mpr (.inr hh))

theorem held_false_of_match {x : Position} (hbound : x.held = true → ∃ h, x.bound = some h)
    (hno : ∀ h, x.held = true → x.bound = some h → False) : x.held = false := by
  cases hh : x.held with
  | false => rfl
  | true =>
    obtain ⟨h, hb⟩ := hbound hh
    exact (hno h hh hb).elim

section
variable (hc : s.Consistent) (hs : s.Shaped) (hp : isPosition p = true)
include hc hs hp

theorem consistent_unknown (hu : s.UnboundAt p) (hx : exchangeOf (s.position p).item = none) :
    ((s.moveTo p .unknownType).updPosition p (fun x => { x with phase := none })).Consistent :=
  consistent_moveTo hc hs hp hu hx ⟨by simp, by simp⟩ fun _ => rfl

theorem consistent_decideIdent (ha : s.AnsweredAt p) (hu : s.UnboundAt p) : (s.decideIdent p d).Consistent := by
  have hunknown := consistent_unknown hc hs hp hu ha.exchange
  have himage := consistent_enterImage hc hs hp hu ha.state
  have hconflict := consistent_toConflict hc hs hp hu ha.exchange
  unfold State.decideIdent
  dsimp only
  split
  · exact hunknown
  · split
    · exact hunknown
    · split
      · exact himage
      · split
        · split
          · exact himage
          · exact hconflict
        · split
          · exact hc.asks hp ha.state hu.held ha.exchange ha.claims (by simp [ofPosition]) rfl
          · exact hconflict

theorem consistent_imageRead (ha : s.AnsweredAt p) (hh : (s.position p).held = false) (ws : List Word) :
    (s.imageRead p ws).Consistent := by
  have hu := ha.unboundAt hc hp hh
  have hagain : ((s.updPosition p (fun x => { x with phase := some .ident })).queueItem p .ident).Consistent := by
    rw [State.queueItem_eq, State.updPosition_updPosition]
    refine hc.updPosition hs hp rfl (.of_unbound hu.bound hu.held ?_ (fun _ => ha.state) ha.claims fun h => ?_)
    · show (s.position p).state ≠ .bound
      rw [ha.state]
      simp
    · exact absurd (ha.state.symm.trans h) (by simp)
  unfold State.imageRead
  dsimp only
  split
  · exact hagain
  · split
    · exact hagain
    · split
      next _ d _ _ pf _ _ =>
        let v := s.updPosition p fun x => { x with identity := some { d with image := some (unpack pf.layout pf.trimSet ws) } }
        have hbook : v.book = s.book := book_updPosition s p _ fun _ _ => rfl
        have hav := ha.of_book hbook
        have hheld : (v.position p).held = false := (congrArg PositionKey.held (position_of_book hbook p)).trans hh
        exact (hc.of_book hbook).asks hp hav.state hheld hav.exchange hav.claims (by simp [ofPosition]) rfl
      · exact hagain

/-- R73: a held binding confirmed. -/
theorem consistent_confirmed (ha : s.AnsweredAt p) (hb : (s.position p).bound = some h) :
    ((s.toBound p).resumeWrite n).Consistent := by
  have hempty : s.inFlight.filter (ofPosition p) = [] :=
    (hc.sound p hp).no_claims (.inl (by show (s.position p).bound.isSome = true; rw [hb]; rfl))
  have hbound : (s.toBound p).Consistent := by
    rw [State.toBound_eq]
    refine hc.positionBecomes hs hp rfl ?_
    rw [hempty]
    refine .of_bound ?_ rfl rfl ha.exchange
    show (s.position p).bound.isSome = true
    rw [hb]
    rfl
  exact hbound.of_book (book_resumeWrite _ n)

variable (ht : s.TableSound)
include ht

theorem consistent_releaseDecide (ha : s.AnsweredAt p) (hheld : (s.position p).held = true)
    (hb : (s.position p).bound = some h) : ((s.releaseHeld p h).decideIdent p d).Consistent := by
  obtain ⟨hcr, hur, hst, hx⟩ := releaseHeld_consistent hc hs ht hp hheld hb
  have hsr : (s.releaseHeld p h).Shaped := still_shaped (still_releaseHeld s p h) hs
  exact consistent_decideIdent hcr hsr hp ⟨hst.trans ha.state, hx.trans ha.exchange, hur.claims⟩ hur

theorem consistent_identReplied (ha : s.AnsweredAt p) : (s.identReplied p d).Consistent := by
  let v := s.updPosition p fun x => { x with identity := some d }
  have hbook : v.book = s.book := book_updPosition s p _ fun _ _ => rfl
  have hcv : v.Consistent := hc.of_book hbook
  have hsv : v.Shaped := still_shaped (still_updPosition s p _) hs
  have htv : v.TableSound := ht
  have hav : v.AnsweredAt p := ha.of_book hbook
  have hkey : (v.position p).key = (s.position p).key := position_of_book hbook p
  have hbound : (v.position p).bound = (s.position p).bound := congrArg PositionKey.bound hkey
  have hheld : (v.position p).held = (s.position p).held := congrArg PositionKey.held hkey
  unfold State.identReplied
  dsimp only
  split
  next h hh hb =>
    have hrelease : ((v.releaseHeld p h).decideIdent p d).Consistent :=
      consistent_releaseDecide hcv hsv hp htv hav (hheld.trans hh) (hbound.trans hb)
    split
    · split
      · exact consistent_confirmed hcv hsv hp hav (hbound.trans hb)
      · exact hrelease
    · exact hrelease
  next hno =>
    have hfalse : (s.position p).held = false := held_false_of_match (hc.bound_of_held hp) hno
    exact consistent_decideIdent hcv hsv hp hav (hav.unboundAt hcv hp (hheld.trans hfalse))

theorem consistent_identFault (ha : s.AnsweredAt p) : (s.identFault p).Consistent := by
  have hfault {v : State} (hcv : v.Consistent) (hsv : v.Shaped) (hu : v.UnboundAt p)
      (hx : exchangeOf (v.position p).item = none) :
      ((v.moveTo p .fault).updPosition p (fun x => { x with phase := none })).Consistent :=
    consistent_moveTo hcv hsv hp hu hx ⟨by simp, by simp⟩ fun _ => rfl
  unfold State.identFault
  dsimp only
  split
  next h hh hb =>
    obtain ⟨hcr, hur, -, hx⟩ := releaseHeld_consistent hc hs ht hp hh hb
    exact hfault hcr (still_shaped (still_releaseHeld s p h) hs) hur (hx.trans ha.exchange)
  next hno =>
    have hfalse : (s.position p).held = false := held_false_of_match (hc.bound_of_held hp) hno
    exact hfault hc hs (ha.unboundAt hc hp hfalse) ha.exchange

end

/-! ### The end of an item (R153, R159..R168) -/

section
variable (hc : s.Consistent) (hs : s.Shaped) (hp : isPosition p = true)
include hc hs hp

theorem consistent_endItem : (s.endItem p).Consistent :=
  hc.dropped hs hp (f := fun x => { x with item := none }) rfl

theorem consistent_dropItem : (s.dropItem p).Consistent := by
  have hbook : (s.dropItem p).book = (s.updPosition p fun x => { x with item := none }).book := by
    unfold State.dropItem
    dsimp only
    split <;> rfl
  exact (consistent_endItem hc hs hp).of_book hbook

theorem consistent_setWork (hw : w.exchange = none) : (s.setWork p w).Consistent := by
  refine hc.dropped hs hp ?_
  show PositionKey.mk _ _ _ _ = PositionKey.mk _ _ _ _
  congr 1
  cases (s.position p).item with
  | none => rfl
  | some i => exact hw

/-- R58: an item of identification that ends. -/
theorem answeredAt_endItem (hi : exchangeOf (s.position p).item ≠ none) : (s.endItem p).AnsweredAt p := by
  have hown : (s.endItem p).position p = { s.position p with item := none } := State.position_updPosition_eq _ hs hp
  have hk := hc.sound p hp
  refine ⟨?_, ?_, hk.onlyOrphans (.inr (.inl hi))⟩
  · rw [hown]
    exact hk.identifies (Option.isSome_iff_ne_none.mpr hi)
  · rw [hown]
    rfl

end

theorem exchangeOf_some (hi : (s.position p).item = some i) : exchangeOf (s.position p).item = i.work.exchange := by
  rw [hi]
  rfl

theorem exchange_afterMiss (w : Work) : w.afterMiss.exchange = w.exchange := by
  cases w with
  | write x =>
    cases x with
    | none => rfl
    | some x => cases hph : x.phase <;> simp [Work.afterMiss, hph, Work.exchange]
  | _ => rfl

/-- An item whose exchange stays what it was. -/
theorem consistent_keepItem (hc : s.Consistent) (hx : exchangeOf (s.position p).item = i.work.exchange) :
    (s.keepItem p i).Consistent := hc.of_book (book_item s p _ hx.symm)

section
variable (hc : s.Consistent) (hs : s.Shaped) (ht : s.TableSound) (hp : isPosition p = true)
include hc hs ht hp

theorem consistent_failItem (hx : exchangeOf (s.position p).item = w.exchange) : (s.failItem p w).Consistent := by
  have hended := consistent_endItem hc hs hp
  have hshaped : (s.endItem p).Shaped := still_shaped (still_endItem s p) hs
  have hfault (hw : w.exchange ≠ none) : ((s.endItem p).identFault p).Consistent :=
    consistent_identFault hended hshaped hp ht (answeredAt_endItem hc hs hp (hx ▸ hw))
  unfold State.failItem
  dsimp only
  split
  · exact hfault (by simp [Work.exchange])
  · exact hfault (by simp [Work.exchange])
  · split <;> exact hended.send rfl
  · exact hended.send rfl
  · exact hended.send rfl

theorem consistent_countAttempt (hx : exchangeOf (s.position p).item = i.work.exchange) :
    (s.countAttempt p i).Consistent := by
  unfold State.countAttempt
  split
  · exact consistent_failItem hc hs ht hp hx
  · exact consistent_keepItem hc hx

theorem consistent_takeReply (hi : (s.position p).item = some i) (x : Reply) : (s.takeReply p i x).Consistent := by
  have hx := exchangeOf_some hi
  have hended := consistent_endItem hc hs hp
  have hshaped : (s.endItem p).Shaped := still_shaped (still_endItem s p) hs
  unfold State.takeReply
  dsimp only
  split
  next hw =>
    exact consistent_identReplied hended hshaped hp ht
      (answeredAt_endItem hc hs hp (by rw [hx, hw]; simp [Work.exchange]))
  next off got _ n new hw =>
    have himage : exchangeOf (s.position p).item = some .image := by rw [hx, hw]; rfl
    have hheld : (s.position p).held = false := by
      cases hh : (s.position p).held with
      | false => rfl
      | true => exact absurd himage ((hc.sound p hp).held hh).2
    unfold State.wordsRead
    split
    · have hown : (s.endItem p).position p = { s.position p with item := none } := State.position_updPosition_eq _ hs hp
      exact consistent_imageRead hended hshaped hp (answeredAt_endItem hc hs hp (by rw [himage]; simp))
        (by rw [hown]; exact hheld) _
    · exact consistent_keepItem hc himage
  next t hw _ hw' =>
    have hnone : exchangeOf (s.position p).item = none := by rw [hx, hw']; rfl
    unfold State.stagedReply
    split
    · exact consistent_keepItem hc hnone
    · exact consistent_countAttempt hc hs ht hp hnone
  · exact hended.send (by split <;> rfl)
  · exact hended.send rfl
  · exact hended.send rfl
  · exact hc

end

end Sys2Proof.Machine
end

section
/-! SUPPORT. Bindings under the lanes, the presence inputs, the bench and the profiles (R44, R49, R54..R57, R157, R158). -/

namespace Sys2Proof.Machine

variable {s t u : State} {n p q l : Nat} {r : Record} {h g : Handle} {k : PositionKey} {cs : List Claim} {c : Claim}
  {i : Item}

/-! ### Changes beside the bindings -/

/-- The bindings depend on the records' keys, the tags, the positions' keys and the claims on their way alone. -/
theorem State.Consistent.of_keys (hr : t.records.map Record.key = s.records.map Record.key) (ht : t.tags = s.tags)
    (hpos : ∀ q, (t.position q).key = (s.position q).key) (hi : t.inFlight = s.inFlight) (hc : s.Consistent) :
    t.Consistent := by
  refine hc.changed (p := 0) (seated_of_keys hr ht) (fun q _ => hpos q) (fun _ _ => by rw [hi]) ?_ fun h => by cases h
  exact congrArg PositionKey.bound (hpos 0)

theorem consistent_foldl {α : Type} {f : State → α → State} (as : List α)
    (hf : ∀ t, ∀ a ∈ as, t.Consistent → t.Shaped → (f t a).Consistent ∧ (f t a).Shaped) (hc : s.Consistent) (hs : s.Shaped) :
    (as.foldl f s).Consistent := by
  induction as generalizing s with
  | nil => exact hc
  | cons a as ih =>
    obtain ⟨hc', hs'⟩ := hf s a (List.mem_cons_self ..) hc hs
    exact ih (fun t b hb => hf t b (List.mem_cons_of_mem _ hb)) hc' hs'

/-! ### The lanes (R157, R158) -/

section
variable (hc : s.Consistent) (hs : s.Shaped) (ht : s.TableSound)
include hc hs ht

theorem consistent_miss (hi : (s.position p).item = some i) : (s.miss p i).Consistent := by
  refine consistent_countAttempt hc hs ht (isPosition_of_item hs hi) ?_
  rw [exchangeOf_some hi]
  exact (exchange_afterMiss i.work).symm

theorem consistent_receive (bs : List Byte) : (s.receive l bs).Consistent := by
  have hended : (s.endTurn l).Consistent := hc.of_book (book_endTurn s l)
  have hshaped : (s.endTurn l).Shaped := still_shaped (still_endTurn s l) hs
  have hsettled {v : State} (hv : v.Consistent) : v.settle.Consistent := hv.of_book (book_settle v)
  unfold State.receive
  split
  next q f _ _ =>
    split
    · exact hc
    next i hi =>
      dsimp only
      split
      · split
        · exact hsettled (consistent_takeReply hended hshaped ht (isPosition_of_item hs hi) hi f.reply)
        · exact hsettled (consistent_miss hended hshaped ht hi)
      · exact hc
  · exact hc

theorem consistent_replyTimeout : (s.replyTimeout l).Consistent := by
  unfold State.replyTimeout
  split
  next q _ =>
    split
    · exact hc
    next i hi =>
      have hended : (s.endTurn l).Consistent := hc.of_book (book_endTurn s l)
      exact (consistent_miss hended (still_shaped (still_endTurn s l) hs) ht hi).of_book (book_settle _)
  all_goals exact hc

end

/-! ### Removal (R8, R57) -/

theorem PositionKey.Sound.orphans (hk : k.Sound cs) : OnlyOrphans (cs.filter isOrphan) := by
  obtain ⟨orphans, admissions, rfl, h1, -, h3, h4, -⟩ := hk.claims
  have hnone : admissions.filter isOrphan = [] := List.filter_eq_nil_iff.mpr fun c hc => by simp [(h4 c hc).1]
  rw [List.filter_append, hnone, List.append_nil, List.filter_eq_self.mpr h3]
  exact ⟨h1, h3⟩

theorem ofPosition_removalReport (x : Comparator) : (removalReport p x).filter (ofPosition q) = [] := by
  unfold removalReport
  split <;> rfl

theorem ofPosition_kept_other (hq : q ≠ p) (cs : List Claim) :
    (cs.filter fun c => !withdrawnByRemoval p c).filter (ofPosition q) = cs.filter (ofPosition q) := by
  rw [List.filter_filter]
  refine List.filter_congr fun c _ => ?_
  cases hof : ofPosition q c with
  | false => rfl
  | true =>
    cases c with
    | creation x _ _ | rebind x _ =>
      obtain rfl : x = q := by simpa [ofPosition] using hof
      simp [withdrawnByRemoval, hq]
    | orphan x _ _ => simp [withdrawnByRemoval]
    | _ => cases hof

theorem ofPosition_kept_same (cs : List Claim) :
    (cs.filter fun c => !withdrawnByRemoval p c).filter (ofPosition p) = (cs.filter (ofPosition p)).filter isOrphan := by
  rw [List.filter_filter, List.filter_filter]
  refine List.filter_congr fun c _ => ?_
  cases c <;> simp [ofPosition, withdrawnByRemoval, isOrphan]

theorem ofPosition_afterRemoval_other (hq : q ≠ p) :
    (s.afterRemoval p).filter (ofPosition q) = s.inFlight.filter (ofPosition q) := by
  have horphan : (orphanOnRemoval p (s.position p) (s.writePhase p)).filter (ofPosition q) = [] := by
    unfold orphanOnRemoval
    split
    · rfl
    · simp [ofPosition, hq.symm]
  rw [State.afterRemoval, List.filter_append, List.filter_append, ofPosition_kept_other hq, ofPosition_removalReport, horphan,
    List.append_nil, List.append_nil]

/-- R57: a removal leaves its position with orphan claims alone. -/
theorem onlyOrphans_afterRemoval (hk : (s.position p).key.Sound (s.inFlight.filter (ofPosition p))) :
    OnlyOrphans ((s.afterRemoval p).filter (ofPosition p)) := by
  rw [State.afterRemoval, List.filter_append, List.filter_append, ofPosition_kept_same, ofPosition_removalReport,
    List.append_nil]
  cases hb : (s.position p).bound with
  | none =>
    simp only [orphanOnRemoval, hb, List.filter_nil, List.append_nil]
    exact hk.orphans
  | some h =>
    have hnil : s.inFlight.filter (ofPosition p) = [] :=
      hk.no_claims (.inl (by show (s.position p).bound.isSome = true; rw [hb]; rfl))
    simp [orphanOnRemoval, hb, hnil, ofPosition, OnlyOrphans, isOrphan]

theorem consistent_removal (hc : s.Consistent) (hs : s.Shaped) (ht : s.TableSound) (hp : isPosition p = true) :
    (s.removal p).Consistent := by
  have hown := position_removal hs hp
  have hother (q : Nat) (hq : q ≠ p) : ((s.removal p).position q).key = (s.position q).key := by
    rw [position_removal_other hq]
  have hflight : (s.removal p).inFlight = s.afterRemoval p := by rw [removal_frame]
  have htags : (s.removal p).tags = s.tags := by rw [removal_frame]
  have hrecords : (s.removal p).records = (s.orphanBound p).records := by rw [removal_frame]
  have hclaims (q : Nat) (hq : q ≠ p) : (s.removal p).inFlight.filter (ofPosition q) = s.inFlight.filter (ofPosition q) := by
    rw [hflight, ofPosition_afterRemoval_other hq]
  have hsound : ((s.removal p).position p).key.Sound ((s.removal p).inFlight.filter (ofPosition p)) := by
    rw [hown, hflight]
    exact .of_unbound rfl rfl (fun h => by cases h) (fun h => by cases h) (onlyOrphans_afterRemoval (hc.sound p hp))
      fun h => by cases h
  have hnone : ((s.removal p).position p).bound = none := by rw [hown]
  cases hb : (s.position p).bound with
  | none =>
    have hkept : (s.removal p).records.map Record.key = s.records.map Record.key := by
      rw [hrecords, orphanBound_none (by rw [hb]; rfl)]
    exact hc.changed (seated_of_keys hkept htags) hother hclaims (hnone.trans hb.symm) fun _ => hsound
  | some h =>
    obtain ⟨r, hr, rfl, -⟩ := (hc.linked.bound p h hp).mp hb
    have hmap := orphanBound_records _ r hb (named_handleOf ht hr)
    refine hc.unseated ht hp hb (fun g q => ?_) hnone hother hclaims hsound
    have hkeys : (s.removal p).records.map Record.key =
        (s.updRecord r.slot fun x => { x with position := none }).records.map Record.key := by rw [hrecords, hmap]; rfl
    rw [seated_of_keys (s := s.updRecord r.slot fun x => { x with position := none }) hkeys htags]
    exact seated_updRecord_none ht hr rfl g q

/-! ### Presence (R54, R55, R56) -/

/-- R55: a changed sense moves a position between EMPTY and SETTLING alone. -/
theorem stateAfterSense_cases (raw : Bool) (st : PositionState) : stateAfterSense raw st = st ∨
    (st ≠ .bound ∧ st ≠ .identifying) ∧ stateAfterSense raw st ≠ .bound ∧ stateAfterSense raw st ≠ .waitingSlot := by
  cases st <;> cases raw <;> simp [stateAfterSense]

section
variable (hc : s.Consistent) (hs : s.Shaped) (hp : isPosition p = true)
include hc hs hp

theorem consistent_debounced (ht : s.TableSound) : (s.debounced p).Consistent := by
  let v := s.updPosition p fun x => { x with taken := x.raw, debounce := none }
  have hbook : v.book = s.book := book_updPosition s p _ fun _ _ => rfl
  have hcv : v.Consistent := hc.of_book hbook
  have hsv : v.Shaped := still_shaped (still_updPosition s p _) hs
  have hremoved : (v.removal p).settle.Consistent := (consistent_removal hcv hsv ht hp).of_book (book_settle _)
  unfold State.debounced
  dsimp only
  split
  · exact hc
  · split
    next hst =>
      have hvst : (v.position p).state = .settling := (congrArg PositionKey.state (position_of_book hbook p)).trans hst
      have hu : v.UnboundAt p := hcv.unboundAt hp (by simp [hvst]) (by simp [hvst])
      split
      · exact (consistent_enterIdentifying hcv hsv hp hu).of_book (book_settle _)
      · exact hcv
    · exact hcv
    all_goals
      split
      · exact hcv
      · exact hremoved

theorem consistent_senses (raw : Bool) : (s.moveTo p (stateAfterSense raw (s.position p).state)).Consistent := by
  rw [State.moveTo_eq]
  have hk := hc.sound p hp
  rcases stateAfterSense_cases raw (s.position p).state with hsame | ⟨⟨hb, hi⟩, hst⟩
  · rw [hsame]
    exact hc.positionBecomes hs hp rfl hk
  · exact hc.unboundBecomes hs hp (hc.unboundAt hp hb hi) (ex := none)
      (congrArg (PositionKey.mk _ _ _) (hc.exchange_none hp hi)) hst nofun

theorem consistent_sample : (s.sample p).Consistent := by
  by_cases h : senseOf s.port.bench.polarity (s.position p).pin = (s.position p).raw
  · rw [sample_same h]
    exact hc
  · rw [sample_changed h]
    generalize hf : (fun x : Position => { x with
      raw := senseOf s.port.bench.polarity (s.position p).pin
      debounce := debounceAfter (senseOf s.port.bench.polarity (s.position p).pin) x.taken s.port.bench.debounce }) = f
    have hbook : (s.updPosition p f).book = s.book := book_updPosition s p f fun _ _ => by rw [← hf]; rfl
    have hst : ((s.updPosition p f).position p).state = (s.position p).state :=
      congrArg PositionKey.state (position_of_book hbook p)
    have hmoved := consistent_senses (hc.of_book hbook) (still_shaped (still_updPosition s p f) hs) hp
      (senseOf s.port.bench.polarity (s.position p).pin)
    rw [hst] at hmoved
    exact hmoved

end

section
variable (hc : s.Consistent) (hs : s.Shaped)
include hc hs

theorem consistent_presence (hp : isPosition p = true) (high : Bool) : (s.presence p high).Consistent := by
  have hset : (s.updPosition p fun x => { x with pin := high }).Consistent :=
    hc.of_book (book_updPosition s p _ fun _ _ => rfl)
  unfold State.presence
  dsimp only
  split
  · exact consistent_sample hset (still_shaped (still_updPosition s p _) hs) hp
  · exact hset

theorem consistent_sampleAll : s.sampleAll.Consistent :=
  consistent_foldl (places 48) (fun t p hp hct hst =>
    ⟨consistent_sample hct hst (mem_places_48.mp hp), still_shaped (still_sample t p) hst⟩) hc hs

/-! ### The bench and the profiles (R44, R49, R207) -/

theorem consistent_benchSet (as : List (Nat × Nat)) :
    ((as.foldl (fun t a => t.assign a) s).benchEffects s.port.bench).Consistent := by
  have hassigned : (as.foldl (fun t a => t.assign a) s).book = s.book := book_foldl s _ (fun v a => by
    unfold State.assign
    dsimp only
    split <;> rfl) as
  have hshaped : (as.foldl (fun t a => t.assign a) s).Shaped :=
    List.foldlRecOn as _ hs (fun _ h a _ => shaped_assign a h)
  generalize as.foldl (fun t a => t.assign a) s = v at hassigned hshaped
  have hcv := hc.of_book hassigned
  have hloss : (if v.port.bench.refTimeout = s.port.bench.refTimeout then v else v.compareWatchdog).Consistent ∧
      (if v.port.bench.refTimeout = s.port.bench.refTimeout then v else v.compareWatchdog).Shaped := by
    split
    · exact ⟨hcv, hshaped⟩
    · exact ⟨hcv.of_book (book_compareWatchdog v), shaped_compareWatchdog hshaped⟩
  unfold State.benchEffects
  generalize (if v.port.bench.refTimeout = s.port.bench.refTimeout then v else v.compareWatchdog) = w at hloss
  dsimp only
  split
  · exact consistent_sampleAll hloss.1 hloss.2
  · exact hloss.1

theorem consistent_loadSlot : s.loadSlot.Consistent := by
  have hstored {st : ProfileStore} : ({ s.loadStored s.store.slot with store := st } : State).Consistent := by
    rw [loadStored_frame]
    exact hc.of_keys (s := s) rfl rfl (fun _ => rfl) rfl
  have hshaped {st : ProfileStore} : ({ s.loadStored s.store.slot with store := st } : State).Shaped :=
    shaped_loadStored s.store.slot hs
  cases hl : s.store.activity with
  | idle | saving =>
    simp only [State.loadSlot, hl]
    exact hc
  | loading =>
    by_cases hn : s.store.slot < 16
    · rw [loadSlot_next hl hn]
      exact hstored
    · rw [loadSlot_last hl hn]
      exact consistent_sampleAll hstored hshaped

theorem consistent_announce (typeCode : Nat) : (s.announce typeCode).Consistent := by
  rw [announce_eq]
  refine consistent_foldl (places 48) (fun t p hp hct hst => ?_) hc hs
  have hpos := mem_places_48.mp hp
  by_cases ha : (t.position p).Announced typeCode
  · rw [announceAt_pos ha]
    obtain ⟨hunknown, -⟩ := ha
    exact ⟨consistent_enterIdentifying hct hst hpos (hct.unboundAt hpos (by simp [hunknown]) (by simp [hunknown])),
      still_shaped (still_enterIdentifying t p) hst⟩
  · rw [announceAt_neg ha]
    exact ⟨hct, hst⟩

theorem consistent_installProfile (code : Nat) (pf : Profile) : (s.installProfile code pf).Consistent := by
  have hset : (s.withProfile code pf).Consistent := hc.of_keys (s := s) rfl rfl (fun _ => rfl) rfl
  rw [installProfile_eq]
  exact (consistent_announce hset (shaped_withProfile code pf hs) pf.typeCode).of_book (book_settle _)

end

end Sys2Proof.Machine
end

section
/-! SUPPORT. Bindings under restart, retirement and the claims taken (R7, R9, R10, R27, R30, R70, R72). -/

namespace Sys2Proof.Machine

variable {s t u : State} {n p q l : Nat} {r : Record} {h g : Handle} {cs : List Claim} {c : Claim} {d : Identity}
  {image : Unpacked} {ph : Option AbandonPhase}

/-! ### Power-on and warm restart (R72, R210) -/

/-- R49, R210: a part at rest binds nothing. -/
theorem State.AtRest.consistent (ha : s.AtRest) : s.Consistent := by
  have hseat (h : Handle) (p : Nat) : ¬ s.Seated h p := by
    rintro ⟨r, hr, -⟩
    rw [ha.records] at hr
    cases hr
  refine ⟨⟨fun p h hp => ⟨fun hb => ?_, fun hs => (hseat h p hs).elim⟩, fun h p hs => (hseat h p hs).elim⟩, fun p hp => ?_⟩
  · rw [ha.positions p hp] at hb
    cases hb
  · rw [ha.positions p hp, ha.inFlight]
    exact .of_unbound rfl rfl (fun h => by cases h) (fun h => by cases h) onlyOrphans_nil fun _ => rfl

/-- R72: a position that restarts identifies again under its held binding, or holds no binding. -/
theorem PositionKey.Sound.atRestart {x : Position} (hk : x.key.Sound cs) (time : Nat) :
    (x.atRestart time).key.Sound (cs.filter isOrphan) := by
  have hbound : (x.atRestart time).bound = x.bound := rfl
  have hheld : (x.atRestart time).held = true ↔ x.state = .bound ∨ x.held = true := by
    have hi (h : x.held = true) : x.state = .identifying := (hk.held h).1
    simp only [Position.atRestart, Position.restarted, Bool.or_eq_true, Bool.and_eq_true, decide_eq_true_eq]
    exact or_congr_right ⟨fun h => h.2, fun h => ⟨hi h, h⟩⟩
  have hstate : (x.atRestart time).state = stateAfterRestart x := rfl
  have hex : exchangeOf (x.atRestart time).item = if stateAfterRestart x = .identifying then some .ident else none := by
    rw [item_atRestart]
    split <;> rfl
  have hne : stateAfterRestart x ≠ .bound ∧ stateAfterRestart x ≠ .waitingSlot := by
    cases hst : x.state <;> cases hraw : x.raw <;> simp [stateAfterRestart, hst, hraw]
  refine ⟨?_, fun h => ?_, fun h => ?_, cs.filter isOrphan, [], (List.append_nil _).symm, hk.orphans.1, Nat.zero_le 1,
    hk.orphans.2, nofun, fun h => ?_⟩
  · show (x.atRestart time).bound.isSome = true ↔ (x.atRestart time).state = .bound ∨ (x.atRestart time).held = true
    rw [hheld, hstate, or_iff_right hne.1]
    exact hk.holder
  · have hst : stateAfterRestart x = .identifying := by
      rcases hheld.mp h with hb | hh
      · have : x.state = .bound := hb
        simp [stateAfterRestart, this]
      · have : x.state = .identifying := (hk.held hh).1
        simp [stateAfterRestart, this]
    refine ⟨hst, ?_⟩
    show exchangeOf (x.atRestart time).item ≠ some .image
    rw [hex, if_pos hst]
    simp
  · have h : (exchangeOf (x.atRestart time).item).isSome = true := h
    rw [hex] at h
    by_contra hst
    have hst : ¬ stateAfterRestart x = .identifying := hst
    rw [if_neg hst] at h
    cases h
  · rcases h with h | h
    · have hnil : cs = [] := hk.no_claims (.inl h)
      rw [hnil]
      exact ⟨rfl, rfl⟩
    · exact absurd h hne.2

theorem consistent_warmRestart (cause : WarmCause) (hc : s.Consistent) (hs : s.Shaped) : (s.warmRestart cause).Consistent := by
  have hplant := samePlant_restartPlant cause s
  unfold SamePlant at hplant
  have hrecords : (s.restartPlant cause).records.map Record.key = s.records.map Record.key := by
    have hbook : (s.restartRecords cause).book = ({ s with port := s.port.restarted cause } : State).book :=
      book_foldl _ (settleAtRestart s) (fun t r => book_settleRecord t r.slot _) s.records
    rw [hplant, restartTables_frame]
    have hkeys := records_of_book hbook
    exact hkeys
  have htags : (s.restartPlant cause).tags = s.tags := by rw [hplant, restartTables_frame]
  have hflight : (s.restartPlant cause).inFlight = s.inFlight.filter isOrphan := by rw [hplant, restartTables_frame]
  have hpos (p : Nat) (hp : isPosition p = true) := position_restartPlant cause hs hp
  rw [warmRestart_eq]
  refine State.Consistent.of_book (book_settle _) ⟨⟨fun p h hp => ?_, fun h p hseat => ?_⟩, fun p hp => ?_⟩
  · rw [hpos p hp, seated_of_keys hrecords htags]
    exact hc.linked.bound p h hp
  · exact hc.linked.position h p ((seated_of_keys hrecords htags h p).mp hseat)
  · rw [hpos p hp, hflight, List.filter_comm]
    exact (hc.sound p hp).atRestart _

/-! ### Retirement (R8, R27, R70) -/

theorem exchange_keptByRetire (o : Option Item) : exchangeOf (o.filter Item.keptByRetire) = none := by
  cases o with
  | none => rfl
  | some i => cases hw : i.work <;> simp [Option.filter_some, Item.keptByRetire, hw, exchangeOf, Work.exchange]

theorem seated_retired (g : Handle) (q : Nat) : (s.retired r).Seated g q ↔ g.slot ≠ r.slot ∧ s.Seated g q := by
  have hrecords : (s.retired r).records = s.records.filter (fun x => decide (x.slot ≠ r.slot)) := by rw [retired_frame]
  unfold State.Seated
  simp only [hrecords, List.mem_filter, decide_eq_true_eq]
  constructor
  · rintro ⟨x, ⟨hx, hne⟩, rfl, hat⟩
    refine ⟨hne, x, hx, ?_, hat⟩
    simp only [State.handleOf, tag_retired_other hne]
  · rintro ⟨hne, x, hx, rfl, hat⟩
    have hne : x.slot ≠ r.slot := hne
    refine ⟨x, ⟨hx, hne⟩, ?_, hat⟩
    simp only [State.handleOf, tag_retired_other hne]

section
variable (hc : s.Consistent) (hs : s.Shaped) (ht : s.TableSound)
include hc hs ht

theorem consistent_retired (hr : r ∈ s.records) : (s.retired r).Consistent := by
  have hflight : (s.retired r).inFlight = s.inFlight := by rw [retired_frame]
  have hclaims (q : Nat) : (s.retired r).inFlight.filter (ofPosition q) = s.inFlight.filter (ofPosition q) := by rw [hflight]
  cases hat : r.position with
  | some p =>
    have hseat : s.Seated (s.handleOf r) p := ⟨r, hr, rfl, hat⟩
    have hp := hc.linked.position _ p hseat
    have hb : (s.position p).bound = some (s.handleOf r) := (hc.linked.bound p _ hp).mpr hseat
    have hown := position_retired hs hp hat
    refine hc.unseated ht hp hb seated_retired ?_ (fun q hq => ?_) (fun q _ => hclaims q) ?_
    · rw [hown]
      rfl
    · rw [position_retired_other hs hp hat hq]
    · have hnil : s.inFlight.filter (ofPosition p) = [] :=
        (hc.sound p hp).no_claims (.inl (by show (s.position p).bound.isSome = true; rw [hb]; rfl))
      rw [hown, hclaims, hnil]
      refine .of_unbound rfl rfl (fun h => by cases h) (fun h => ?_) onlyOrphans_nil fun _ => rfl
      have h : (exchangeOf ((s.position p).item.filter Item.keptByRetire)).isSome = true := h
      rw [exchange_keptByRetire] at h
      cases h
  | none =>
    have hpos (q : Nat) : ((s.retired r).position q).key = (s.position q).key := by
      rw [retired_orphaned hat, position_removeRecord]
      exact position_of_book (book_giveGone s r false) q
    refine hc.changed (p := 0) (fun g q => ?_) (fun q _ => hpos q) (fun q _ => hclaims q)
      (congrArg PositionKey.bound (hpos 0)) fun h => by cases h
    rw [seated_retired]
    refine and_iff_right_of_imp fun hseat he => ?_
    obtain ⟨-, hq⟩ := seated_unique ht hr he hseat
    rw [hat] at hq
    cases hq

theorem consistent_retire (hr : r ∈ s.records) : (s.retire r).Consistent := by
  rw [retire_eq]
  exact (consistent_handFreed (ht.2.2 r hr) (consistent_retired hc hs ht hr) (shaped_retired r hs) (tableSound_retired r ht)
    recordAt_retired_same).of_book (book_settle _)

end

/-! ### The claims of a position taken (R7, R9, R10) -/

theorem filter_eraseP_same {α : Type} (f : α → Bool) (as : List α) : (as.eraseP f).filter f = (as.filter f).tail := by
  induction as with
  | nil => rfl
  | cons a as ih =>
    cases hf : f a with
    | true => rw [List.eraseP_cons_of_pos hf, List.filter_cons_of_pos hf, List.tail_cons]
    | false =>
      have hn : ¬ f a = true := by simp [hf]
      rw [List.eraseP_cons_of_neg hn, List.filter_cons_of_neg hn, List.filter_cons_of_neg hn, ih]

section
variable (hc : s.Consistent) (hs : s.Shaped) (ht : s.TableSound)
include hc

/-- R58, R66: a position whose admission claim is taken is ready for its answer. -/
theorem readyAt_claimTaken (hp : isPosition p = true) (hcl : s.Claims (ofPosition p) c) (ho : isOrphan c = false) :
    (s.claimTaken (ofPosition p)).ReadyAt p ∧ (s.position p).state = .identifying := by
  obtain ⟨rest, hrest⟩ : ∃ rest, s.inFlight.filter (ofPosition p) = c :: rest :=
    List.head?_eq_some_iff.mp (List.head?_filter.trans hcl)
  have hk := hc.sound p hp
  obtain ⟨rfl, hst, hheld, hex⟩ := hk.admission_first hrest ho
  have hst : (s.position p).state = .identifying := hst
  refine ⟨⟨.inl hst, hk.bound_none (fun h => ?_) hheld, hheld, hex, ?_⟩, hst⟩
  · have h : (s.position p).state = .bound := h
    rw [hst] at h
    cases h
  · show (s.inFlight.eraseP (ofPosition p)).filter (ofPosition p) = []
    rw [filter_eraseP_same, hrest, List.tail_cons]

include hs ht

theorem consistent_creation (hp : isPosition p = true) (hcl : s.Claims (ofPosition p) (.creation p d image)) :
    ((s.claimTaken (ofPosition p)).creationTaken p (d, image)).Consistent := by
  obtain ⟨hready, -⟩ := readyAt_claimTaken hc hp hcl rfl
  refine (consistent_takeCreation (hc.claimTaken (ofPosition p)) hs ht hp hready fun n hn => ?_).of_book (book_settle _)
  exact (head_freeSlots.mp hn).1

theorem consistent_rebind (hp : isPosition p = true) (hcl : s.Claims (ofPosition p) (.rebind p h)) :
    ((s.claimTaken (ofPosition p)).rebindTaken p h).Consistent := by
  obtain ⟨hready, hst⟩ := readyAt_claimTaken hc hp hcl rfl
  exact (consistent_takeRebind (hc.claimTaken (ofPosition p)) hs ht hp hready fun _ => hst).of_book (book_settle _)

theorem consistent_orphan (hcl : s.Claims (ofPosition p) (.orphan p h ph)) :
    ((s.claimTaken (ofPosition p)).takeOrphan p h ph).Consistent := by
  have hb := hc.bound_of_orphan hs (List.mem_of_find?_eq_some hcl)
  exact (hc.claimTaken (ofPosition p)).of_book (book_takeOrphan (s := s.claimTaken (ofPosition p)) ht hb
    fun r hr => hc.position_ne hb hr)

end

/-! ### The claims of a lane taken (R155, R188) -/

section
variable (hc : s.Consistent) (hs : s.Shaped) (hp : isPosition p = true)
include hc hs hp

theorem consistent_writeStartTaken : (s.writeStartTaken p h).Consistent := by
  have hdeclined : (s.voidGrant p).settle.Consistent := (consistent_dropItem hc hs hp).of_book (book_settle _)
  unfold State.writeStartTaken
  dsimp only
  split
  · exact hdeclined
  · split
    · exact hdeclined
    · split
      next pf _ _ =>
        have hmoved : (s.moveRecord h.slot .writing).Consistent := hc.of_book (book_moveRecord s h.slot .writing)
        exact (consistent_setWork hmoved (still_shaped (still_moveRecord s h.slot .writing) hs) hp rfl).of_book
          (book_sendTurn _ _ _)
      · exact hdeclined

theorem consistent_startLock (n : Nat) (pf : Profile) (r : Record) : (s.startLock p n pf r).Consistent := by
  let v := s.issueSeal.updRecord n fun x => { x with sealNumber := some s.seals.next }
  have hbook : v.book = s.book := 
    (book_updRecord s.issueSeal n (fun x => { x with sealNumber := some s.seals.next }) fun _ => rfl).trans (book_issueSeal s)
  have hissued : s.issueSeal.Shaped := by
    unfold State.issueSeal
    exact still_shaped (still_raiseIf _ _ _) (still_shaped (still_raiseIf _ _ _) hs)
  have hv : v.Shaped := still_shaped (still_updRecord s.issueSeal n _) hissued
  exact (consistent_setWork (hc.of_book hbook) hv hp rfl).of_book (book_sendTurn _ _ _)

theorem consistent_sealStartTaken : (s.sealStartTaken p h).Consistent := by
  have hvoid : (s.voidGrant p).Consistent := consistent_dropItem hc hs hp
  have hdeclined : (s.voidGrant p).settle.Consistent := hvoid.of_book (book_settle _)
  have hreturned : ((s.voidGrant p).returnToPassed h.slot).Consistent := hvoid.of_book (book_returnToPassed _ _)
  unfold State.sealStartTaken
  dsimp only
  split
  · exact hdeclined
  · split
    · exact hdeclined
    · split
      · split
        · exact hreturned.of_book (book_settle _)
        · split
          · exact hreturned.of_book ((book_settle _).trans (book_raise _ _))
          next pf _ _ _ _ => exact consistent_startLock hc hs hp h.slot pf _
      · exact hdeclined

end

end Sys2Proof.Machine
end

section
/-! Proof of O8: the Record Table stays sound (R1, R5, R6, R8, R13, R41, R49, R209). -/

namespace Sys2Proof.Machine

variable {s t u : State} {n p : Nat} {r : Record} {h : Handle}

/-! ### What leaves the bindings' book as it was -/

theorem book_onWriting {f : Record → State → State} (hf : ∀ r t, (f r t).book = t.book) :
    (s.onWriting p h f).book = s.book := by
  unfold State.onWriting
  split
  · rfl
  · split
    · exact (book_settle _).trans (hf _ s)
    · rfl

theorem book_onLock {f : State → State} (hf : ∀ t, (f t).book = t.book) : (s.onLock p h f).book = s.book := by
  unfold State.onLock
  split
  · rfl
  · split
    · exact (book_settle _).trans (hf s)
    · rfl

theorem book_failStage (s : State) (n : Nat) (r : Record) : (s.failStage n r).book = s.book := by
  have hcounted : (s.updRecord n fun x => { x with writeFailures := x.writeFailures + 1 }).book = s.book :=
    book_updRecord s n _ fun _ => rfl
  unfold State.failStage
  dsimp only
  split
  · exact (book_reject _ _ _).trans hcounted
  · exact (book_enterWritePending _ _).trans hcounted

theorem book_sealRecord (s : State) (n : Nat) (sent : Check) : (s.sealRecord n sent).book = s.book :=
  (book_moveRecord _ n .sealed).trans (book_updRecord s n (fun r => { r with recordCheck := some sent }) fun _ => rfl)

theorem book_spoilReject (s : State) (n : Nat) (c : RejectCause) : (s.spoilReject n c).book = s.book :=
  (book_reject _ n c).trans (book_updRecord s n Record.spoil fun _ => rfl)

theorem book_lossTaken (s : State) : (s.lossTaken ()).book = s.book := by
  unfold State.lossTaken
  split
  · rfl
  · rw [book_settle, book_losePoint]

theorem book_finishingTaken (s : State) : (s.finishingTaken ()).book = s.book := by
  unfold State.finishingTaken
  split
  · rfl
  next k _ =>
    split
    · rfl
    next n _ =>
      dsimp only
      split
      · rw [book_settle, book_endPoint, book_seq]
      · rfl

theorem book_timerExpired (s : State) : s.timerExpired.book = s.book := by
  unfold State.timerExpired
  split
  · rw [book_settle, book_endPoint]
  · rfl

theorem book_watchdogTimeout (s : State) : s.watchdogTimeout.book = s.book := by
  unfold State.watchdogTimeout
  split
  · exact book_compareWatchdog _
  · rfl

theorem book_amendTrim (s : State) (n : Nat) (x : Trim) (v : Int) (r : Record) : (s.amendTrim n x v r).book = s.book := by
  have hamended : (s.updRecord n (Record.amend x.band x.phase v)).book = s.book := book_updRecord s n _ fun _ => rfl
  unfold State.amendTrim
  dsimp only
  split
  · exact ((book_settle _).trans (book_enterWritePending _ n)).trans hamended
  · exact hamended

theorem book_clearFlags (s : State) (n : Nat) (r : Record) : (s.clearFlags n r).book = s.book := by
  have hcleared : (s.updRecord n fun r => { r with flags := r.flags.cleared }).book = s.book :=
    book_updRecord s n _ fun _ => rfl
  unfold State.clearFlags
  dsimp only
  split
  · exact ((book_settle _).trans (book_autoSealTest _ n)).trans hcleared
  · exact hcleared

theorem book_tick (s : State) : s.tick.book = s.book := by
  have hticked : s.ticked.positions.map Position.key = s.positions.map Position.key := by
    show (s.positions.map _).map Position.key = _
    rw [List.map_map]
    rfl
  rw [tick_eq, book_compareWatchdog]
  unfold State.book
  rw [hticked]
  rfl

/-! ### The bindings under every command (R8) -/

theorem consistent_request (hr : RequestEffect s u) (hs : s.Shaped) (ht : s.TableSound) (hc : s.Consistent) :
    u.Consistent := by
  cases hr with
  | nothing => exact hc
  | setBench as => exact consistent_benchSet hc hs as
  | port | dropProfile | saveProfiles => exact hc.of_keys (s := s) rfl rfl (fun _ => rfl) rfl
  | loadProfile code pf => exact consistent_installProfile hc hs code pf
  | editPlan k pt =>
    exact hc.of_book ((book_settle _).trans ((book_resetClaim _ k).trans (book_plan s (setPlace s.plan k pt))))
  | startPoint k pt => exact hc.of_book (book_startPoint s k pt)
  | endPoint k => exact hc.of_book (by rw [book_settle, book_endPoint])
  | abortPoint k => exact hc.of_book (by rw [book_settle, book_abortPoint])
  | amendTrim h r x v => exact hc.of_book (book_amendTrim s _ x v r)
  | reject h r c => exact hc.of_book (book_reject s _ c)
  | retire h r hh =>
    obtain ⟨hmem, -⟩ := State.recordAt_mem (State.resolve_ok hh).2.1
    exact consistent_retire hc hs ht hmem
  | clearFlags h r => exact hc.of_book (book_clearFlags s _ r)
  | enterSealing h r => exact hc.of_book ((book_settle _).trans (book_enterSealing s _))
  | sealAll =>
    exact hc.of_book ((book_settle _).trans (book_foldl s _ (fun v r => book_enterSealing v r.slot) s.sealable))
  | retryPosition p hp hst =>
    have hu : s.UnboundAt p := hc.unboundAt hp (by rcases hst with h | h | h <;> simp [h])
      (by rcases hst with h | h | h <;> simp [h])
    exact (consistent_enterIdentifying hc hs hp hu).of_book (book_settle _)
  | setSealRange a b low =>
    exact hc.of_book ((book_raiseIf _ low .sealLow).trans (book_seals s (s.seals.withRange a b)))

theorem effect_consistent {i : Instr} (he : Effect s i t) (hs : s.Shaped) (ht : s.TableSound) (hc : s.Consistent) :
    t.Consistent := by
  have same {v : State} (h : v.book = s.book) : v.Consistent := hc.of_book h
  have taken (f : Claim → Bool) {v : State} (h : v.book = (s.claimTaken f).book) : v.Consistent :=
    (hc.claimTaken f).of_book h
  cases he with
  | nothing | pollAttention | malformed | refEdge => exact same rfl
  | powerOn => exact (atRest_of_powerOn s).consistent
  | warmRestart => exact consistent_warmRestart _ hc hs
  | loadSlot => exact consistent_loadSlot hc hs
  | saveSlot =>
    unfold State.saveSlot
    dsimp only
    (repeat' split) <;> exact hc.of_keys (s := s) rfl rfl (fun _ => rfl) rfl
  | busReset =>
    have hport : ({ s with port := s.port.busReset } : State).Consistent := same rfl
    unfold State.busReset
    dsimp only
    split
    · exact consistent_warmRestart _ hport hs
    · exact hport
  | acceptMessage =>
    unfold State.acceptMessage
    split <;> exact same rfl
  | deliverAnswer =>
    unfold State.deliverAnswer
    split
    · exact same rfl
    · dsimp only
      split
      · exact consistent_warmRestart _ (same rfl) hs
      · exact same rfl
  | request k tag args rest u c body ho hu =>
    have hserved : u.Consistent := consistent_request hu hs ht (same rfl)
    exact State.Consistent.of_book (s := u) rfl hserved
  | presence p high hp => exact consistent_presence hc hs hp high
  | debounced p hp => exact consistent_debounced hc hs hp ht
  | sendDone l =>
    unfold State.sendDone
    (repeat' split) <;> exact same rfl
  | receive l bs => exact consistent_receive hc hs ht bs
  | replyTimeout l => exact consistent_replyTimeout hc hs ht
  | creation p d im hp hcl => exact consistent_creation hc hs ht hp hcl
  | rebind p h hp hcl => exact consistent_rebind hc hs ht hp hcl
  | orphan p h ph hp hcl => exact consistent_orphan hc hs ht hcl
  | result p h k res => exact taken _ ((book_settle _).trans (book_takeResult _ h k res))
  | flag p h f => exact taken _ (book_takeFlag _ h f)
  | writeStart p h hp => exact consistent_writeStartTaken (hc.claimTaken (ofLaneWork p)) hs hp
  | sealStart p h hp => exact consistent_sealStartTaken (hc.claimTaken (ofLaneWork p)) hs hp
  | commitMatch p h => exact taken _ (book_onWriting fun r t => book_confirmWrite t _ r)
  | stageFailed p h => exact taken _ (book_onWriting fun r t => book_failStage t _ r)
  | commitFail p h c => exact taken _ (book_onWriting fun _ t => book_reject t _ c)
  | locked p h a b =>
    refine taken _ (book_onLock fun t => ?_)
    split
    · exact book_sealRecord t _ _
    · exact book_spoilReject t _ _
  | refused p h => exact taken _ (book_onLock fun t => book_spoilReject t _ _)
  | noReply p h => exact taken _ (book_onLock fun t => book_spoilAttempt t _)
  | watchdogTimeout => exact same (book_watchdogTimeout s)
  | refLoss => exact taken _ (book_lossTaken _)
  | timerExpired => exact same (book_timerExpired s)
  | finishing p => exact taken _ (book_finishingTaken _)
  | meterActive p tr time => exact same (book_updCmp s p _)
  | meterOpposite p tr time => exact same (book_count s p _ (claims_oppositeEdge p tr time))
  | glitchTestEnd p => exact same (book_count s p _ (claims_testEnd p))

theorem step_consistent (hs : s.Shaped) (ht : s.TableSound) (hc : s.Consistent) (h : step s = .next t) : t.Consistent := by
  obtain ⟨-, rfl⟩ | ⟨i, rest, -, he⟩ := step_cases h
  · exact hc.of_book (book_tick s)
  · exact effect_consistent (s := { s with pending := rest }) he hs ht (State.Consistent.of_book (s := s) rfl hc)

/-! ### The table, its pins and its counts -/

theorem Orderly.of_pending {rest : List Instr} (ho : Orderly { s with pending := rest } t) : Orderly s t := by
  obtain ⟨h1, h2, h3, h4⟩ := ho
  exact ⟨h1, h2, h3, h4⟩

/-- R210: a step that is no POWER_ON keeps the table in order, and POWER_ON empties it. -/
theorem step_orderly (hs : s.TableSound) (h : step s = .next t) : Orderly s t ∨ t.records = [] ∧ t.PinsCounted := by
  obtain ⟨-, rfl⟩ | ⟨i, rest, hpending, he⟩ := step_cases h
  · exact .inl (TableChange.same (table_tick s)).orderly
  · by_cases hi : i = .powerOn
    · rw [step_of_powerOn (hi ▸ hpending) h]
      exact .inr ⟨rfl, pinsCounted_reset⟩
    · exact .inl (effect_orderly (s := { s with pending := rest }) hs he hi).of_pending

theorem step_tableSound (hs : s.TableSound) (h : step s = .next t) : t.TableSound := by
  rcases step_orderly hs h with ho | ⟨hnone, -⟩
  · exact ho.sound hs
  · unfold State.TableSound
    rw [hnone]
    exact ⟨List.nodup_nil, List.nodup_nil, fun _ hr => absurd hr List.not_mem_nil⟩

theorem records_of_loading (hq : s.LoadingQuiet) (hl : s.store.activity = .loading) : s.records = [] :=
  (loadingQuiet_iff.mp hq hl).records

theorem step_pinsCounted (hs : s.TableSound) (hq : s.LoadingQuiet) (hp : s.PinsCounted) (h : step s = .next t) :
    t.PinsCounted := by
  rcases step_orderly hs h with ho | ⟨-, hpins⟩
  · exact ho.pins hs (records_of_loading hq) hp
  · exact hpins

theorem step_countsInRange (hs : s.TableSound) (hq : s.LoadingQuiet) (hp : s.PinsCounted) (hc : s.CountsInRange)
    (h : step s = .next t) : t.CountsInRange := by
  rcases step_orderly hs h with ho | ⟨hnone, -⟩
  · exact ho.counts hs (records_of_loading hq) hp hc
  · unfold State.CountsInRange
    rw [hnone]
    exact fun _ hr => absurd hr List.not_mem_nil

theorem step_bindingsSound (hsh : s.Shaped) (hs : s.TableSound) (hb : s.BindingsSound) (h : step s = .next t) :
    t.BindingsSound :=
  (bindingsSound_iff (step_tableSound hs h)).mpr (step_consistent hsh hs ((bindingsSound_iff hs).mp hb) h)

/-- Settles O8: by what every command makes of the records (the table, the pins, the counts), of a part that loads, and
of the key and the claims of each position (the bindings). -/
theorem recordTableStaysSound : Obligations.RecordTableStaysSound :=
  ⟨fun _ _ => step_tableSound, fun _ _ => step_loadingQuiet, fun _ _ => step_pinsCounted, fun _ _ => step_countsInRange,
    fun _ _ => step_bindingsSound⟩

end Sys2Proof.Machine
end
